-- ==== Sys2Proof/Word.lean ====
section
/-! DEFINITION. The word types of the FS2560: registers are 32 bits wide (R14), memory is bytes. -/

namespace Sys2Proof

/-- A register value. -/
abbrev Word := BitVec 32

/-- A byte. -/
abbrev Byte := BitVec 8

end Sys2Proof
end

