-- ==== Sys2Proof/Syntax.lean ====
section
/-! DEFINITION. The commands of the FS2560: one constructor per row of the table of operations, with what the command
carries from outside (a port, a value written, an instant, measured data). -/

namespace Sys2Proof

/-- Where a register write comes from (R47, R252, R401, R69): the three host ports in rank order, a ring command, the
boot profile, and a timetable action. -/
inductive Port where
  | hrp | pcie | twb | command | profile | action
deriving DecidableEq, Repr

/-- A page or a stall slot, as a holder of event flags (R22, R29). -/
inductive Source where
  | page (p : Fin 29)
  | stall (n : Fin 256)
deriving DecidableEq, Repr

/-- What R497 acts on. -/
inductive MsixChange where
  | enabled
  | unmasked (v : Fin 72)
deriving DecidableEq, Repr

/-- The three PCIe resets of R45. -/
inductive PcieResetKind where
  | hotReset | linkDown | flr
deriving DecidableEq, Repr

/-- What an Ethernet frame carries (R279 to R281). -/
inductive EthKind where
  | arp | icmpEcho | ptp | rtp | pennants | other
deriving DecidableEq, Repr

/-- Pins whose level the device drives. -/
inductive Pin where
  | hrpInt | gpio (n : Fin 16) | lnaByp | trSel | paEn | thermAlert
deriving DecidableEq, Repr

/-- The common part of a ring command (R250) at its execution tick. -/
structure CmdHead where
  seq : Nat := 0
  now : Bool := false
  atEffect : Bool := false
  phase : Nat := 0
  track : Fin 4 := 0
  epoch : Nat := 0
deriving DecidableEq, Repr

/-- What one CANTER window measured for a stall (R214), in 1/256 dB: the stall's own CNR, its scouts' CNR, and the MER of
DAB services by DAB stall and SId; `none` where the window has VALID = 0 or holds a frame of the service with ERR. -/
structure HoistWin where
  own : Option Int
  scouts : List (Fin 64 × Option Int)
  dab : List (Nat × Nat × Option Int)
  /-- The stamp at which the window ends. -/
  stamp : Nat
deriving DecidableEq, Repr

/-- What a correlation window measured (R220, R221): ρ × 256, uniqueness, both RMS levels, the delay d, one stamp of each
source's grid, and the RMS ratio of new to old in 1/256 dB. -/
structure AlignWin where
  rho : Nat
  unique : Bool
  loud : Bool
  d : Int
  oldStamp : Nat
  newStamp : Nat
  ratio : Int
deriving DecidableEq, Repr

/-- What a 1024-tick window measured (R90, R126, R298, R325, R479): peak and power of each RF input, the levels of the 192
bins of either bank, the radio's RSSI and noise floor words, and the temperature and supply words. -/
structure LevelWin where
  rf : List (Nat × Nat)
  binsA : List (BitVec 16)
  binsB : List (BitVec 16)
  rssi : Nat
  noise : List (BitVec 16)
  temps : List (BitVec 16)
  supplies : List (BitVec 16)
deriving DecidableEq, Repr

/-- Where RDS bits come from: a stall, or a scout of Hoist. -/
inductive RdsSource where
  | stall (n : Fin 256)
  | scout (i : Fin 64)
deriving DecidableEq, Repr

/-- What a gait window measured (R124, R154, R155, R164, R165, R185, R189): levels of both branches, the class's quality
(none where the window has none), FM figures, AM figures and the FAC MER. -/
structure GaitWin where
  levelA : BitVec 16
  levelB : BitVec 16
  quality : Option (BitVec 16)
  cfo : BitVec 16
  multipath : BitVec 8
  peakDev : BitVec 8
  blend : Nat
  pos : BitVec 8
  neg : BitVec 8
  rms : BitVec 8
  carrier : BitVec 16
  facMer : Option (BitVec 16)
deriving DecidableEq, Repr

/-- The organisation of a DAB subchannel or DRM stream: bit rate in kbit/s, DAB+, packet mode, and what else the multiplex
configuration says of it, as one number that changes when any of it changes. -/
structure SubCh where
  rate : Nat := 0
  plus : Bool := false
  packet : Bool := false
  org : Nat := 0
deriving DecidableEq, Repr

/-- One component of a service as the multiplex names it (R199): subchannel or stream, packet mode, CODEC of R195 and
component index. -/
structure SvcComp where
  subch : Fin 64
  packet : Bool
  codec : Fin 5
  comp : Fin 16
deriving DecidableEq, Repr

/-- What a FIG says, for the FIGs that the engine interprets (R179, R207), read by the rules of EN 300 401. -/
inductive FigMeaning where
  /-- 0/0: ensemble identifier, CIF count, the Al flag and the CIF count of an announced reconfiguration. -/
  | ensemble (eid : BitVec 16) (cif : Nat) (alarm : Bool) (change : Option Nat)
  /-- 0/1 of the current or of the next configuration. -/
  | organisation (next : Bool) (subch : Fin 64) (org : SubCh)
  /-- 0/2. -/
  | service (next : Bool) (sid : Word) (comps : List SvcComp)
  /-- 0/6: hard linking, LA, the RDS PI list and the key service. -/
  | linkage (hard la : Bool) (pis : List (BitVec 16)) (key : Word)
  /-- 0/19 for cluster 0xFF: the Alarm bit of ASw, SubChId and region flag. -/
  | announcement (alarm : Bool) (subch : Fin 64) (region : Bool)
  /-- 0/21 for the range "FM with RDS": the Id field and the frequencies in Hz. -/
  | frequencies (pi : BitVec 16) (hz : List Nat)
  | other
deriving DecidableEq, Repr

/-- A FIG: type, extension (0xFF none), data bytes and meaning. -/
structure Fig where
  typ : Fin 8
  ext : BitVec 8
  bytes : List Byte
  meaning : FigMeaning
deriving DecidableEq, Repr

/-- What a DRM transmission frame's FAC says (R187): the time and frequency reference cells were found, the CRC result, the
bits as received, occupancy, interleaving and the numbers of services, and service 0. -/
structure FacIn where
  ref : Bool
  ok : Bool
  index : Nat
  nbits : Nat
  bits : List Byte
  occ : Fin 8
  long : Bool
  naudio : Fin 8
  ndata : Fin 8
  sid : BitVec 24
deriving DecidableEq, Repr

/-- A decoded minute of a time-signal station (R192): the time it names, the flags as sent, and the parity and marker
checks. -/
structure TcMinuteIn where
  minute : Fin 60
  hour : Fin 24
  day : Fin 32
  month : Fin 16
  year : Fin 100
  dst : Bool
  leapAnn : Bool
  dstAnn : Bool
  parity : Bool
  markers : Bool
deriving DecidableEq, Repr

/-- What background calibration of the Wamelon receiver measured (R296, R314): WR_STEP_LAT, IRR, ε and φ. -/
structure BgVals where
  stepLat : BitVec 8
  irr : BitVec 16
  eps : BitVec 18
  phi : BitVec 18
deriving DecidableEq, Repr

/-- What is measured of a Wamelon frame (R331): RSSI and SNR with 8 fractional bits, carrier offset in Hz. -/
structure RxMeas where
  rssi : BitVec 16
  snr : BitVec 16
  cfo : BitVec 16
deriving DecidableEq, Repr

/-- A two-wire transfer addressed by another controller (R374, R376): the address, and the tick in which its START was sampled. -/
structure TwbHead where
  addr : Fin 128
  start : Nat
deriving DecidableEq, Repr

/-- What the sampling of TW_SDA before a controller transfer found (R385): high, low and cleared, or low after nine clocks. -/
inductive TwbLine where
  | high | cleared | stuck
deriving DecidableEq, Repr

/-- How a peripheral takes a transfer (R382): the bytes read and the PEC byte that follows them, or why it ended early. -/
inductive TwbResult where
  | done (data : List Byte) (pec : Byte)
  | nackAddr
  | nackData
  | timeout
deriving DecidableEq, Repr

/-- What calibration measures of an RF input (R85, R87): ANA_DELAY, ALIGN, STEP_LAT and the words of GAIN_CORR. -/
structure InputCal where
  anaDelay : Word
  align : Word
  stepLat : Word
  gains : List Word
deriving DecidableEq, Repr

/-- What calibration measures of the Wamelon radio (R296, R298, R299). -/
structure RadioCal where
  bg : BgVals
  rxDelay : Word
  txDelay : Word
deriving DecidableEq, Repr

/-- The results of a calibration (R403, R404): the values of each input and of the radio, the junction temperature, the blocks whose
step failed twice (mask of R407), and whether C8 found a drift. -/
structure CalData where
  inputs : List (Fin 3 × InputCal) := []
  radio : Option RadioCal := none
  temp : BitVec 16 := 0
  degraded : BitVec 4 := 0
  drift : Bool := false
deriving DecidableEq, Repr

/-- A background calibration cycle of an input (R406) starts, ends with values at a junction temperature, or is disturbed. -/
inductive BgCycle where
  | start
  | done (values : InputCal) (temp : BitVec 16)
  | disturbed
deriving DecidableEq, Repr

/-- What the boot's NOR reads met (R398, R416, R467): uncorrectable errors in boot record copies, in slots, in the newest Logbook
records (how many of them), in profile copies (2 × profile + copy), in the field record and in the journal. -/
structure BootReads where
  copies : List (Fin 2) := []
  slots : List (Fin 2) := []
  records : Nat := 0
  profiles : List (Fin 32) := []
  field : Bool := false
  journal : Bool := false
deriving DecidableEq, Repr

/-- Where a correctable memory error lies (R413): a word of the Shed; a SRAM region of R423, word address and bit; a NOR sector and the
bits corrected in it. -/
inductive MemPlace where
  | shed (word : Fin 0x80000000)
  | sram (region : Fin 1024) (addr : BitVec 24) (bit : BitVec 8)
  | nor (sector : Fin 131072) (bits : Fin 9)
deriving DecidableEq, Repr

/-- Where an uncorrectable memory error lies (R414): a unit's state memory; a word of the Shed; a bay word read for a member's
presentation; an entry of a queue's ring or hold; a frame read for a decode; the memory of a control processor (SRAM or Shed); other SRAM
whose word holds a record of a queue, or a waiting command. -/
inductive UePlace where
  | unit (u : Fin 272) (addr : BitVec 24) (bit : BitVec 8)
  | shed (word : Fin 0x80000000)
  | bay (member : Fin 256) (word : Fin 0x80000000)
  | entry (queue : Fin 64) (word : Fin 0x80000000)
  | frame (decode : Fin 64) (word : Fin 0x80000000)
  | processor (active : Bool) (addr : BitVec 24) (bit : BitVec 8)
  | record (queue : Fin 64) (region : Fin 1024) (addr : BitVec 24) (bit : BitVec 8)
  | command (region : Fin 1024) (addr : BitVec 24) (bit : BitVec 8)
deriving DecidableEq, Repr

/-- What a NOR sector holds (R416). -/
inductive NorObject where
  | slot (s : Fin 2)
  | profile (copy : Fin 32)
  | record (age : Nat)
  | field
  | other
deriving DecidableEq, Repr

/-- What the daily read met in a NOR sector (R416): bits corrected, or an uncorrectable error. -/
structure NorSector where
  sector : Fin 131072
  bits : Fin 9
  ue : Bool
  object : NorObject
deriving DecidableEq, Repr

/-- What a self-test run measured (R426, R427): patterns applied, signature and reference; for a MEM run the failing words, the first
one's macro, address and bit, whether the failures fit the spares and whether the rerun after a repair passed. `waited`: the region could
not be had for 10 s. -/
structure SteResult where
  count : Nat := 65536
  sig : Word := 0
  reference : Word := 0
  words : Nat := 0
  macro_ : BitVec 8 := 0
  addr : BitVec 24 := 0
  bit : BitVec 8 := 0
  fits : Bool := false
  rerun : Bool := false
  waited : Bool := false
deriving DecidableEq, Repr

/-- A counted level of PRESENCE_N (R455, R456). -/
inductive PresenceEdge where
  | initialLow | fall | rise
deriving DecidableEq, Repr

/-- The commands, in the order of the table of operations. -/
inductive Instr where
  /-- R47: a posted host write to a register without a row of its own, applied at the tick boundary. -/
  | registerWrite (port : Port) (addr : Nat) (value : Word)
  /-- R22: a W1C write to PG_EVENT or ST_EVENT. -/
  | eventClear (port : Port) (src : Source) (value : Word)
  /-- R23: a write to PG_EVENT_FORCE. -/
  | eventForce (port : Port) (page : Fin 29) (value : Word)
  /-- R19: a write of PG_CTRL that changes ENABLE. -/
  | pageEnable (port : Port) (page : Fin 29) (value : Word)
  /-- R19: a write of PG_CTRL with SOFT_RESET = 1. -/
  | pageSoftReset (port : Port) (page : Fin 29) (value : Word)
  /-- R19, R27: a write of PG_CTRL.FREEZE or ST_CTRL.FREEZE. -/
  | pageFreeze (port : Port) (src : Source) (value : Word)
  /-- R24: a write of PG_LOCK. -/
  | pageLock (port : Port) (page : Fin 29) (value : Word)
  /-- R25: the 1024-tick comparison of a locked page. -/
  | pageCheckCompare (page : Fin 29)
  /-- R33: a write of IRQ_EOI. -/
  | irqEoi (port : Port) (value : Word)
  /-- R497: MSI-X and bus mastering are enabled again, or a vector is unmasked. -/
  | msixReenable (change : MsixChange)
  /-- R36: an HRP write cycle with its address, data and parity pins. -/
  | hrpWriteCycle (a : Fin 0x40000) (data : Word) (parity : BitVec 4)
  /-- R36: an HRP cycle with WE_N and OE_N both low. -/
  | hrpProto (a : Fin 0x40000)
  /-- R41: a BAR0 write TLP: byte offset, length in DW, first DW byte enables, data. -/
  | pcieBar0Write (addr : Fin 0x100000) (dw : Nat) (be : BitVec 4) (value : Word)
  /-- R42: a BAR0 read TLP. -/
  | pcieBar0Read (addr : Fin 0x100000) (dw : Nat) (be : BitVec 4)
  /-- R43: a BAR2 write of bytes at an offset of the window. -/
  | pcieBar2Write (offset : Nat) (bytes : List Byte)
  /-- R43: a BAR2 read of `len` bytes. -/
  | pcieBar2Read (offset len : Nat)
  /-- R44: a received write with poisoned data or a failed ECRC. -/
  | pciePoisonedWrite (bar0 : Bool) (addr : Fin 0x100000)
  /-- R45: a hot reset, a link-down or a Function Level Reset. -/
  | pcieReset (kind : PcieResetKind)
  /-- R56: a reference edge of a track at a Yard instant in fine cycles (corrected to the antenna for DAB and LF, R52). -/
  | trackEdge (track : Fin 4) (instant : Nat)
  /-- R59: the loss condition of a track's source has run out. -/
  | trackLoss (track : Fin 4)
  /-- R53: the predicted instant of a mark that the LF station omits by design. -/
  | filledMark (track : Fin 4) (instant : Nat)
  /-- R59: a FREE or coasted epoch reaches its length. -/
  | epochBoundary (track : Fin 4)
  /-- R60: the coasted boundary at which a measured jump starts. -/
  | trackJumpStart (track : Fin 4)
  /-- R60: the end of a STEP hold. -/
  | stepHoldEnd (track : Fin 4)
  /-- R57: a write of TRK_CFG that changes SRC. -/
  | trkSrcWrite (port : Port) (track : Fin 4) (value : Word)
  /-- R57: a write of TRK_CFG that changes STALL. -/
  | trkStallWrite (port : Port) (track : Fin 4) (value : Word)
  /-- R61: a write of TRK_EPOCH_SET_HI with ARM = 1. -/
  | trkEpochArm (port : Port) (track : Fin 4) (value : Word)
  /-- R66: TT_GO.ADD executes. -/
  | ttGoAdd
  /-- R66: TT_GO.CANCEL executes. -/
  | ttGoCancel (index : Fin 512)
  /-- R68: a due timetable entry fires. -/
  | ttFire (index : Fin 512)
  /-- R74: a write of TS_QUERY_SEL. -/
  | tsQuery (port : Port) (value : Word)
  /-- R83: a write of RF_CTRL that changes POWER. -/
  | rfPowerWrite (port : Port) (input : Fin 3) (value : Word)
  /-- R83: an input that wakes delivers its first valid sample. -/
  | rfWakeDone (input : Fin 3)
  /-- R92: a write of RF_CTRL that changes AGC_MODE. -/
  | agcModeWrite (port : Port) (input : Fin 3) (value : Word)
  /-- R89: STEP_GO.ADD executes. -/
  | stepGoAdd (input : Fin 3)
  /-- R89: STEP_GO.CANCEL_ALL executes. -/
  | stepGoCancelAll (input : Fin 3)
  /-- R86: the tick before a step's due tick. -/
  | gainStepCommit (input : Fin 3)
  /-- R86: the due tick of a committed step. -/
  | gainStepLand (input : Fin 3)
  /-- R90: a tick of an input held clip samples. -/
  | adcClip (input : Fin 3) (count : Nat)
  /-- R90: a 1024-tick window has ended; what it measured. -/
  | levelWindowEnd (w : LevelWin)
  /-- R94: a write of TONE_CTRL. -/
  | toneCtrlWrite (port : Port) (input : Fin 3) (value : Word)
  /-- R119: tick T_r of a synchronising reset. -/
  | syncReset (stall : Fin 256)
  /-- R111, R120: the chain produces the last sample marked SETTLE. -/
  | settleEnd (stall : Fin 256)
  /-- R115: a write of WIN_SEL of a channel window. -/
  | winSelWrite (port : Port) (window : Fin 4) (value : Word)
  /-- R114: a write of FIR_CTL through a channel window. -/
  | firCtlWrite (port : Port) (window : Fin 4) (value : Word)
  /-- R114: a write of a coefficient word through a channel window. -/
  | coefWrite (port : Port) (window : Fin 4) (j : Fin 64) (value : Word)
  /-- R117: a write of CH_CFG of a stall. -/
  | dcCfgWrite (port : Port) (stall : Fin 256) (value : Word)
  /-- R118: a write of CFG, FREQ or THR (word 0, 1, 2) of a detector through a channel window. -/
  | detectorCfgWrite (port : Port) (window : Fin 4) (det : Fin 4) (word : Fin 3) (value : Word)
  /-- R118: a detector completes a block: RESULT and the stamp of the block's last sample. -/
  | detectorBlockEnd (stall : Fin 256) (det : Fin 4) (result : BitVec 16) (stamp : Nat)
  /-- R122, R101: samples of a bin of bank A or B saturate in a tick, with the fine-chain stages that saturate with them. -/
  | binSat (bankB : Bool) (bin : Fin 192) (count : Nat) (stages : List (Fin 256 × Fin 9))
  /-- R123: a block of 64 fast samples completes: the levels of both branches. -/
  | fastLevelPublish (stall : Fin 256) (levelA levelB : BitVec 16)
  /-- R124: a gait window is published: what it measured. -/
  | gaitWindowPublish (stall : Fin 256) (w : GaitWin)
  /-- R137: a weight window yields the weights D_W_A and D_W_B. -/
  | mrcWeightUpdate (stall : Fin 256) (a b : Word)
  /-- R131: OPEN_GO.OPEN executes. -/
  | openGoOpen
  /-- R133: OPEN_GO.CLOSE executes. -/
  | openGoClose
  /-- R144: OPEN_GO.MOVE executes. -/
  | openGoMove
  /-- R131: an admitted opening falls due. -/
  | stallOpenDue (stall : Fin 256)
  /-- R133: a closing falls due. -/
  | stallCloseEffect (stall : Fin 256)
  /-- R133: a closing stall has delivered its last outputs. -/
  | stallClosingDone (stall : Fin 256)
  /-- R134: a write of ST_CTRL that changes RUN. -/
  | stallRun (port : Port) (stall : Fin 256) (value : Word)
  /-- R119: a write of ST_CTRL with RESYNC = 1. -/
  | stallResync (port : Port) (stall : Fin 256) (value : Word)
  /-- R141: a write of ST_CLASS. -/
  | stClassWrite (port : Port) (stall : Fin 256) (value : Word)
  /-- R141: a write of ST_FREQ. -/
  | stFreqWrite (port : Port) (stall : Fin 256) (value : Word)
  /-- R140: a write of ST_ANT. -/
  | stAntWrite (port : Port) (stall : Fin 256) (value : Word)
  /-- R140: a write of ST_PRESET. -/
  | stPresetWrite (port : Port) (stall : Fin 256) (value : Word)
  /-- R147: a write of ST_ROUTE. -/
  | stRouteWrite (port : Port) (stall : Fin 256) (value : Word)
  /-- R144: a move reaches M. -/
  | stallMoveComplete (stall : Fin 256)
  /-- R414: an uncorrectable memory error. -/
  | memoryUe (place : UePlace)
  /-- R146: a stall in FAULT takes the lowest free unit. -/
  | faultRecover (stall : Fin 256)
  /-- R143: the checking stall takes the highest-numbered free unit. -/
  | checkUnitTake
  /-- R168: a write of FM_CFG. -/
  | fmCfgWrite (port : Port) (stall : Fin 256) (value : Word)
  /-- R168: a write of AM_CFG. -/
  | amCfgWrite (port : Port) (stall : Fin 256) (value : Word)
  /-- R153: a block is blanked. -/
  | noiseBlank (stall : Fin 256)
  /-- R154: the pilot has stayed in, or out of, lock; the pilot deviation in 1/32 kHz. -/
  | pilotChange (stall : Fin 256) (lock : Bool) (dev : BitVec 8)
  /-- R157: 26 bits of a stream of a stall or of a scout, the first bit in bit 25; the index of the last bit in the stream, its
  stamp, and whether a bit is erased. -/
  | rdsBlock (src : RdsSource) (stream : Fin 4) (bits : BitVec 26) (erased : Bool) (index stamp : Nat)
  /-- R160: a WALK window boundary: whether the window held a counted sample, MPX_PWR, pilot deviation and peak deviation. -/
  | mpxPowerUpdate (stall : Fin 256) (counted : Bool) (power : BitVec 16) (pilotDev peak : BitVec 8)
  /-- R161: a histogram period has ended at a stamp: the 64 bin counts. -/
  | devHistPeriodEnd (stall : Fin 256) (bins : List Nat) (stamp : Nat)
  /-- R163: the carrier loop has gained or lost lock: the stamp of the deciding interval's end, offset and carrier level. -/
  | carrierLockChange (stall : Fin 256) (lock : Bool) (cfo level : BitVec 16) (stamp : Nat)
  /-- R166: an AMSS block is decided: its block type, status (0 OK, 1 CORRECTED, 2 UNCORRECTABLE, 3 ERASED), information bits
  and the stamp of its last bit's end. -/
  | amssBlock (stall : Fin 256) (kind : BitVec 8) (status : Fin 4) (info : BitVec 40) (stamp : Nat)
  /-- R176: the DAB engine moves to a state of SYNC; carrier offset and the stamp of what decided it. -/
  | dabSyncChange (stall : Fin 256) (goal : Fin 4) (cfo : BitVec 16) (stamp : Nat)
  /-- R177: a transmission frame begins: the antenna instant of its null symbol, whether its phase-reference correlation passes,
  and the CIF count of its first CIF. -/
  | dabFrameStart (stall : Fin 256) (instant : Nat) (pass : Bool) (cif : Nat)
  /-- R179: a FIB of the present frame: index, its 32 bytes with the CRC, the FIGs they spell and the stamp. -/
  | fibDecode (stall : Fin 256) (index : Fin 12) (bytes : List Byte) (figs : List Fig) (stamp : Nat)
  /-- R180: a logical frame of a subchannel: the CIF count of its first CIF, ERR, payload and stamp. -/
  | mscFrame (stall : Fin 256) (subch : Fin 64) (index : Nat) (err : Bool) (payload : List Byte) (stamp : Nat)
  /-- R181: a DAB+ superframe after RS correction: bytes corrected, an uncorrectable codeword, payload and stamp. -/
  | dabSuperframe (stall : Fin 256) (subch : Fin 64) (index corrected : Nat) (err : Bool) (payload : List Byte) (stamp : Nat)
  /-- R182: the announced CIF count. -/
  | dabReconfig (stall : Fin 256) (stamp : Nat)
  /-- R183: a TII window ends: pairs found (main, sub, level, delay), the CIF count of its start and the stamp. -/
  | tiiWindowEnd (stall : Fin 256) (pairs : List (Fin 70 × Fin 24 × BitVec 16 × Word)) (cif stamp : Nat)
  /-- R184: an alarm starts. -/
  | alarmStart (stall : Fin 256) (stamp : Nat)
  /-- R184: an alarm ends. -/
  | alarmEnd (stall : Fin 256) (stamp : Nat)
  /-- R186: the DRM engine moves to a state of SYNC; robustness mode (0 A to 4 E), carrier offset, stamp. -/
  | drmSyncChange (stall : Fin 256) (goal : Fin 5) (mode : Fin 5) (cfo : BitVec 16) (stamp : Nat)
  /-- R187: a transmission frame's FAC. -/
  | drmFac (stall : Fin 256) (fac : FacIn) (stamp : Nat)
  /-- R187: a superframe's SDC: its CRC result, bytes, and the services it describes. -/
  | drmSdc (stall : Fin 256) (ok : Bool) (bytes : List Byte) (services : List (Fin 4 × BitVec 24 × SvcComp × Nat))
      (streams : List (Fin 4)) (stamp : Nat)
  /-- R187: a stream's MSC of one transmission frame: the MER of its cells in 1/256 dB and the constellation's threshold in dB. -/
  | drmMscFrame (stall : Fin 256) (stream : Fin 4) (mer : Int) (threshold : Nat) (payload : List Byte) (stamp : Nat)
  /-- R191: an edge in the station's mark direction: its antenna instant, whether the minute sign makes it second 0, and the
  jitter over the last 60 marks. -/
  | tcMark (stall : Fin 256) (instant : Nat) (sign : Bool) (jitter : BitVec 16)
  /-- R191: a second of the gap list begins at an antenna instant. -/
  | tcGap (stall : Fin 256) (instant : Nat)
  /-- R191: three predicted marks are missing. -/
  | tcMarkLoss (stall : Fin 256)
  /-- R192: a minute is decoded; the stamp is that of the mark that starts the minute described. -/
  | tcMinute (stall : Fin 256) (m : TcMinuteIn) (stamp : Nat)
  /-- R205: a write of TC_CFG. -/
  | tcCfgWrite (port : Port) (stall : Fin 256) (value : Word)
  /-- R200: LS_GO.ADD executes. -/
  | lsGoAdd
  /-- R200: LS_GO.DROP executes. -/
  | lsGoDrop (index : Fin 64)
  /-- R198: a native frame of a decode's service is released: its stamp, ERR or an access unit that failed, the codec that the
  service now has, and whether the decoder overran. -/
  | decodeFrame (index : Fin 64) (stamp : Nat) (bad : Bool) (codec : Fin 5) (overrun : Bool)
  /-- R219: a write of HS_CTL. -/
  | hsEnWrite (port : Port) (stall : Fin 256) (value : Word)
  /-- R226: HS_CMD.SEEK_NOW executes. -/
  | hsSeekNow (stall : Fin 256)
  /-- R226: HS_CMD.GOTO executes. -/
  | hsGoto (stall : Fin 256) (entry : Fin 64)
  /-- R226: HS_CMD.RETURN executes. -/
  | hsReturn (stall : Fin 256)
  /-- R226: HS_CMD.CANCEL executes. -/
  | hsCancel (stall : Fin 256)
  /-- R218: a CANTER window of a stall with Hoist on has ended. -/
  | hoistWindow (stall : Fin 256) (w : HoistWin)
  /-- R215: a candidate's visit starts. -/
  | scoutVisitStart
  /-- R216: a visit has counted its windows. -/
  | scoutVisitEnd (scout : Fin 64)
  /-- R217: the identity check of a visit has run out of time. -/
  | idTimeout (scout : Fin 64)
  /-- R220: a correlation window of an alignment has ended. -/
  | alignWindow (stall : Fin 256) (w : AlignWin)
  /-- R222: tick H of a switch. -/
  | hoistSwitch (stall : Fin 256)
  /-- R224: the last fade sample of a RETURN has been presented. -/
  | hoistFadeEnd (stall : Fin 256)
  /-- R219: HOLD ends. -/
  | holdEnd (stall : Fin 256)
  /-- R213: an automatic entry has not been confirmed for its time. -/
  | afEntryAge (stall : Fin 256) (entry : Fin 40)
  /-- R231: a write of TARGET or CTL of an entry through an AF-list window. -/
  | afEntryWrite (port : Port) (window : Fin 4) (entry : Fin 40) (ctl : Bool) (value : Word)
  /-- R232: MEAS_CTL.GO executes. -/
  | measGo
  /-- R232: a host measurement is done: its level and quality, `none` where not measured. -/
  | measDone (level quality : Option (BitVec 16))
  /-- R245: the records completed in this tick are routed and made visible. -/
  | queueEntryVisible
  /-- R246: held entries of a queue enter its ring. -/
  | holdDrain (q : Fin 64)
  /-- R247: the oldest unnotified entry of a queue has been visible for TIMEOUT ticks. -/
  | notifyTimeout (q : Fin 64)
  /-- R249: a write of Q_CONS. -/
  | qConsWrite (port : Port) (q : Fin 64) (value : Word)
  /-- R249: a write of Q_CFG that changes EN. -/
  | qEnableWrite (port : Port) (q : Fin 64) (value : Word)
  /-- R241: a write of PN_CFG (`none`) or of PN_ROUTEk. -/
  | routeWrite (port : Port) (k : Option (Fin 32)) (value : Word)
  /-- R251: the next command is fetched; `entry` is the ring entry as host memory holds it (a ring in the Shed is read
  from the Shed). -/
  | commandFetch (entry : List Byte)
  /-- R254, opcode 0x00. -/
  | nop (h : CmdHead)
  /-- R254, opcode 0x01. -/
  | regWrite (h : CmdHead) (addr : Nat) (value mask : Word)
  /-- R254, opcode 0x02. -/
  | regRead (h : CmdHead) (addr : Nat)
  /-- R254, opcode 0x10. -/
  | stallOpen (h : CmdHead) (stall : Fin 256) (cls ant : Nat) (run : Bool) (freq preset : Word) (route : Nat)
  /-- R254, opcode 0x11. -/
  | stallClose (h : CmdHead) (stall : Fin 256)
  /-- R254, opcode 0x12. -/
  | stallMove (h : CmdHead) (stall : Fin 256)
  /-- R254, opcode 0x13. -/
  | stallRetune (h : CmdHead) (stall : Fin 256) (ant : Nat) (freq : Word) (iq : Nat)
  /-- R254, opcode 0x18. -/
  | ttAdd (h : CmdHead) (pennant : Bool) (action rept target : Nat) (value mask : Word)
  /-- R254, opcode 0x19. -/
  | ttCancel (h : CmdHead) (index : Nat)
  /-- R254, opcode 0x1A. -/
  | stepAdd (h : CmdHead) (page setting : Nat)
  /-- R254, opcode 0x20. -/
  | lsAdd (h : CmdHead) (stall : Fin 256) (team comp : Nat) (sid : Word)
  /-- R254, opcode 0x21. -/
  | lsDrop (h : CmdHead) (index : Nat)
  /-- R254, opcode 0x22. -/
  | hoistCmd (h : CmdHead) (stall : Fin 256) (ops entry : Nat)
  /-- R254, opcode 0x28. -/
  | routeSet (h : CmdHead) (typ byte : Nat)
  /-- R269: a member's sample for grid instant `g` is missing at its read point: samples discarded as late since the last
  report, the stamp of the first of them, and the CAUSE of R78 that held them up. -/
  | memberUnderrun (member : Fin 256) (g late stamp : Nat) (cause : Fin 7)
  /-- R269: a member's sample with stamp `stamp` is present again, the first to present; samples discarded as late since the
  last report. -/
  | memberResume (member : Fin 256) (stamp late : Nat)
  /-- R262: a block of a bay (kind 0 stall, 1 decode, 2 member, 3 port) closes: the stamp of its first sample and its sample
  words, channel-interleaved. -/
  | bayBlockClose (kind : Fin 4) (index : Fin 256) (mpx : Bool) (stamp : Nat) (words : List Word)
  /-- R265: TEAM_GO.OPEN executes. -/
  | teamGoOpen
  /-- R265: TEAM_GO.CLOSE executes. -/
  | teamGoClose
  /-- R271: SUB_GO.ADD executes. -/
  | subGoAdd
  /-- R271: SUB_GO.DROP executes. -/
  | subGoDrop (index : Fin 256)
  /-- R283, opcode 0x30. -/
  | teamOpen (h : CmdHead) (team lat : Nat)
  /-- R283, opcode 0x31. -/
  | teamClose (h : CmdHead) (team : Nat)
  /-- R283, opcode 0x32. -/
  | subAdd (h : CmdHead) (kind srcKind source sel queue : Nat)
  /-- R283, opcode 0x33. -/
  | subDrop (h : CmdHead) (index : Nat)
  /-- R283, opcode 0x34. -/
  | sapMap (h : CmdHead) (port slot value : Nat)
  /-- R283, opcode 0x35. -/
  | sapMask (h : CmdHead) (port : Nat) (value : Word)
  /-- R283, opcode 0x36. -/
  | aesMap (h : CmdHead) (stream channel value : Nat)
  /-- R283, opcode 0x37. -/
  | aesEn (h : CmdHead) (stream : Nat) (en : Bool)
  /-- R274: a write of SAP_CFG of a port. -/
  | sapEnable (port : Port) (sap : Fin 8) (value : Word)
  /-- R275: a write of SAP_MAPk of a port. -/
  | sapMapWrite (port : Port) (sap : Fin 8) (k : Fin 16) (value : Word)
  /-- R276: a write of SAP_MASK_NEXT of a port. -/
  | sapMaskWrite (port : Port) (sap : Fin 8) (value : Word)
  /-- R276: the frame start of a pending mask. -/
  | sapMaskApply (sap : Fin 8)
  /-- R277: a slave port has seen no FSYNC edge for 8 frame periods. -/
  | sapClkLoss (sap : Fin 8)
  /-- R277: a port's ASRC locks: ratio (30 fractional bits) and both delays in fine cycles. -/
  | asrcLock (sap : Fin 8) (ratio delayTx delayRx : Word)
  /-- R279: a PTP Sync message: the offset in ns. -/
  | ptpSync (offset : Int)
  /-- R279: 4 s have passed without Sync. -/
  | ptpTimeout
  /-- R279: a received frame: what it is, the IPv4 address it asks for, its sender, and its body. -/
  | ethFrameRx (kind : EthKind) (target source : Word) (bytes : List Byte)
  /-- R280: the packet whose first sample has grid instant `g` leaves: the PTP time of `g` in ns and the samples of its channels,
  channel-interleaved. -/
  | aesPacket (stream : Fin 64) (g ptp : Nat) (samples : List (BitVec 24))
  /-- R281: a pennant datagram leaves. -/
  | penDatagram
  /-- R289: SHED_ACC_GO.LOAD executes. -/
  | shedAccLoad
  /-- R289: SHED_ACC_GO.STORE executes. -/
  | shedAccStore
  /-- R292: a write of WR_CTRL that changes MODE. -/
  | wrModeWrite (port : Port) (value : Word)
  /-- R303: a write of WR_CTRL that changes band, channel or injection. -/
  | wrChannelWrite (port : Port) (value : Word)
  /-- R361: the end of a SYN1 calibration, and whether its confirmation completed. -/
  | syn1CalEnd (ok : Bool)
  /-- R303: a write of WR_FOFS. -/
  | wrFofsWrite (port : Port) (value : Word)
  /-- R308: the radio takes the next transmit request. -/
  | txRequest
  /-- R305: t0 of the committed request. -/
  | txTurnStart
  /-- R306: the last chip of a transmission ends. -/
  | txEnd
  /-- R306: the TX-to-RX turn-round ends. -/
  | turnRxEnd
  /-- R315: SYN1 unlocks, or PWRFAIL_N is asserted (`power`), in TURN_TX or TX. -/
  | txCut (power : Bool)
  /-- R300: a block of 96 ADC samples ends: its clipping samples, its peak and its mean power in 1/256 dBFS. -/
  | wrAgcBlock (clips : Nat) (peak mean : Int)
  /-- R300: a write of WR_AGC_CFG. -/
  | wrGManWrite (port : Port) (value : Word)
  /-- R316: a write of WR_TEST. -/
  | wrTestGo (port : Port) (value : Word)
  /-- R314: new background calibration values are ready (`some`), or waiting ones can be applied. -/
  | bgcalApply (values : Option BgVals)
  /-- R314: values have waited 60 s. -/
  | bgcalWait
  /-- R312: a one-second duty bucket ends. -/
  | dutyBucketEnd
  /-- R362: SYN1 loses lock in RX. -/
  | syn1Unlock
  /-- R310: a write of RL_SOFT_PWR (0), RL_SOFT_DUTY0 to 2 (1 to 3) or RL_SOFT_CHMASK (4). -/
  | rlSoftWrite (port : Port) (reg : Fin 5) (value : Word)
  /-- R329: four windows of a lane and SF (6 + `sf`) peak in one bin. -/
  | preambleDetect (lane : Fin 8) (sf : Fin 7)
  /-- R329: an instance has not found the marks in time. -/
  | falseStart (lane : Fin 8) (sf : Fin 7) (inst : Fin 2)
  /-- R329, R330: an instance finds its frame-start mark, at an instant of the baseband output: the power of its preamble and of the
  other instance's frame, in 1/256 dBm, and what was measured of that frame, with its LEN (0: the header has not passed). -/
  | frameLock (lane : Fin 8) (sf : Fin 7) (inst : Fin 2) (mark : Nat) (new old : Int) (cut : RxMeas) (cutLen : Nat)
  /-- R331: a locked frame ends: its four header bytes, the payload bits as received (whitened), measurements, iterations and the
  instant at which the last chip, or the failing symbol, arrived at RFI_RX. -/
  | frameRxEnd (lane : Fin 8) (sf : Fin 7) (inst : Fin 2) (header payload : List Byte) (m : RxMeas) (iterations stop : Nat)
  /-- R332: phase 0 of an air slot. -/
  | airSlotBoundary
  /-- R340: phase 0 of an air frame. -/
  | airFrameBoundary
  /-- R338: a DL or HUB run starts. -/
  | dlRunStart
  /-- R342: the frequency correction is written. -/
  | afcWrite
  /-- R343: a peer has not been heard for LOST_AF air frames. -/
  | peerLost (index : Fin 4096)
  /-- R332: a write of WL_CFG. -/
  | wlCfgWrite (port : Port) (value : Word)
  /-- R333: a write of WL_DL_MASK_NEXT or WL_HUB_MASK_NEXT. -/
  | wlMaskWrite (port : Port) (hub : Bool) (value : Word)
  /-- R347, opcode 0x40: `place` is byte 19. -/
  | wlSend (h : CmdHead) (dst : Word) (portNo flags len place addr : Nat)
  /-- R347, opcode 0x41. -/
  | wlPeerAdd (h : CmdHead) (addr : Word) (lane sf : Nat) (ref : Bool)
  /-- R347, opcode 0x42. -/
  | wlPeerDel (h : CmdHead) (addr : Word)
  /-- R351, opcode 0x43. -/
  | wlRoute (h : CmdHead) (entry : Nat) (valid : Bool) (pre mask next : Word)
  /-- R347, opcode 0x44. -/
  | wlForward (h : CmdHead) (dst : Word) (hop len addr : Nat)
  /-- R357: SYN0 first locks; the frequency class of XIN (R354) and the last phase error in ps. -/
  | syn0Lock (xin : Fin 4) (phase : BitVec 16)
  /-- R359: SYN0 loses lock (tick d). -/
  | syn0Unlock (phase : BitVec 16)
  /-- R359: SYN0 resumes (tick n). -/
  | syn0Resume (phase : BitVec 16)
  /-- R355: a reference is lost: XIN, or REFIN. -/
  | refLoss (xin : Bool)
  /-- R355: a reference has been good for 1 s. -/
  | refGood (xin : Bool)
  /-- R363: a write of SYN0_DISC. -/
  | syn0DiscWrite (port : Port) (value : Word)
  /-- R366: SYN2 loses lock (`none`), or SYN2_CFG is written. -/
  | syn2Relock (write : Option (Port × Word))
  /-- R366: SYN2 has confirmed lock, and its outputs resume at a grid instant of this tick; its phase error in ps. -/
  | syn2Resume (phase : BitVec 16)
  /-- R367: a write of MCLK_CFG. -/
  | mclkCfgWrite (port : Port) (value : Word)
  /-- R368: a write of CLKOUT_CFG. -/
  | clkoutCfgWrite (port : Port) (value : Word)
  /-- R376: a PTR_SET transfer: its address and START, and every byte from the command code on. -/
  | ptrSet (head : TwbHead) (bytes : List Byte)
  /-- R376: a WRITE_AT transfer, or one whose command code R376 lacks (R377). -/
  | writeAt (head : TwbHead) (bytes : List Byte)
  /-- R376, R379: a READ_AT transfer: the bytes of its write phase from the command code on; whether the controller acknowledges the
  last data byte. -/
  | readAt (head : TwbHead) (bytes : List Byte) (ack : Bool)
  /-- R376: a WRITE_SEQ transfer. -/
  | writeSeq (head : TwbHead) (bytes : List Byte)
  /-- R376, R379: a READ_SEQ transfer. -/
  | readSeq (head : TwbHead) (bytes : List Byte) (ack : Bool)
  /-- R376: a STATUS transfer. -/
  | status (head : TwbHead) (bytes : List Byte) (ack : Bool)
  /-- R384: TW_SCL has been low for 25 ms to 35 ms in a target transfer. -/
  | twbTimeout
  /-- R373, R385: the bus becomes free; after a reset, what the sampling of TW_SDA led to. -/
  | busFree (line : TwbLine)
  /-- R374: a write of TWB_ADDR. -/
  | twbAddrWrite (port : Port) (value : Word)
  /-- R381: the first attempt to send the pending attention message. -/
  | attnMessage (line : TwbLine) (losses : Nat) (ack : Bool)
  /-- R381: a later attempt, RETRY_MS after a failed one. -/
  | attnRetry (line : TwbLine) (losses : Nat) (ack : Bool)
  /-- R382: TWB_MST_CTL.GO executes. -/
  | twbMstGo
  /-- R382, R383, R385: the pending peripheral transfer runs. -/
  | mstTransfer (line : TwbLine) (losses : Nat) (result : TwbResult)
  /-- R392, R393: every rail is in range and the power-on reset ends; whether a rail rose out of order. -/
  | powerOnReset (seqErr : Bool)
  /-- R394: a rail leaves range: bit r of `rails` in the order of PT_STATUS.RAIL_OK. -/
  | brownout (rails : BitVec 8)
  /-- R394: RESET_N falls, or rises. -/
  | pinReset (low : Bool)
  /-- R360, R394: XIN is lost while SYN0 is in RELOCK. -/
  | clockFault
  /-- R394: no heartbeat of either control processor for 2 s. -/
  | watchdog
  /-- R394: the junction reaches 125 °C, or has fallen below 110 °C again. -/
  | thermal (hot : Bool)
  /-- R394: a write of DEV_RESET. -/
  | devReset (port : Port) (value : Word)
  /-- R397: the fuse bank has been read: errors corrected, and whether one was uncorrectable. -/
  | fuseLoad (corrected : Nat) (bad : Bool)
  /-- R398: the boot ROM has read the boot record and the slots, and the firmware its records: what the NOR reads met; after how many
  ticks a TRIAL image sets HB_OK (R447). -/
  | imageSelect (reads : BootReads) (hb : Option Nat)
  /-- R403, R404: C1 starts, or C8 ends with these results. -/
  | powerupCalibration (results : Option CalData)
  /-- R428: the start-up test of the stall units ends: units repaired and units retired. -/
  | startupUnitTest (repaired retired : List Nat)
  /-- R401: the boot profile is applied. -/
  | bootProfileApply
  /-- R402: STAGE becomes READY. -/
  | deviceReady
  /-- R405: a named tick. -/
  | calApply
  /-- R406: a background cycle of an RF input starts, ends with values, or is disturbed. -/
  | bgcalCycle (input : Fin 3) (event : BgCycle)
  /-- R407: opcode 0x5C, with what the calibration measures. -/
  | calRun (h : CmdHead) (mask : BitVec 8) (results : CalData)
  /-- R407: opcode 0x5D; whether the NOR write succeeds. -/
  | calStore (h : CmdHead) (nor : Bool)
  /-- R407: opcode 0x5E. -/
  | calRestore (h : CmdHead) (mask record : BitVec 8)
  /-- R413: a read of a SECDED word or of a NOR sector met a correctable error. -/
  | eccCorrected (place : MemPlace)
  /-- R415: the scrubber reads the next words of a MiB of the Shed, or a SRAM word with an error. -/
  | scrubRead (words : List Nat) (mib : Fin 16384)
  /-- R416: the daily read of the NOR: what it met. -/
  | norRefresh (sectors : List NorSector)
  /-- R417: the first tick of a Yard second. -/
  | checkStart
  /-- R418: p + 33. -/
  | checkCopy
  /-- R419, R420, R421: the check has compared its 4096 samples, or met an unequal word at a stage and sample index. -/
  | checkEnd (mismatch : Option (Fin 3 × Fin 4096))
  /-- R424: a slice of the current run ends. -/
  | steSlice
  /-- R425: a service request reaches the region under test. -/
  | steYield
  /-- R426: the current run ends with what it measured. -/
  | steRunEnd (result : SteResult)
  /-- R430: STE_GO.RUN executes. -/
  | steGoRun
  /-- R426, R430: STE_GO.STOP executes. -/
  | steGoStop
  /-- R430: opcode 0x60. -/
  | steRun (h : CmdHead) (region : Nat) (kind : BitVec 8) (count : Nat)
  /-- R430: opcode 0x61. -/
  | steStop (h : CmdHead)
  /-- R430: opcode 0x62. -/
  | checkNow (h : CmdHead) (stall : Fin 256)
  /-- R435: a write of SHED_ECC_CFG. -/
  | eccInject (port : Port) (value : Word)
  /-- R436: internal scan is requested, of the key-holding partition or of the others; whether the readback of the cleared secrets is
  zero. -/
  | scanEnable (keys : Bool) (clean : Bool)
  /-- R439, R459: UPD_GO executes with OP 0; whether its NOR write succeeds. -/
  | updGoOffer (nor : Bool)
  /-- R440, R459: OP 1. -/
  | updGoBlock (nor : Bool)
  /-- R445, R459: OP 2. -/
  | updGoVerify
  /-- R446, R459: OP 3. -/
  | updGoActivate
  /-- R448, R459: OP 4. -/
  | updGoConfirm (nor : Bool)
  /-- R441, R459: OP 5. -/
  | updGoAbort
  /-- R459: opcode 0x50. -/
  | updOffer (h : CmdHead) (addr : Nat) (nor : Bool)
  /-- R459: opcode 0x51. -/
  | updBlock (h : CmdHead) (index addr : Nat) (nor : Bool)
  /-- R459: opcode 0x52. -/
  | updVerify (h : CmdHead)
  /-- R459: opcode 0x53. -/
  | updActivate (h : CmdHead)
  /-- R459: opcode 0x54. -/
  | updConfirm (h : CmdHead) (nor : Bool)
  /-- R459: opcode 0x55. -/
  | updAbort (h : CmdHead)
  /-- R441: no bound source has delivered a block for 600 s. -/
  | offerTimeout
  /-- R444: the upstream status line has been read, and the header where the line led to it; `none`: the read failed. -/
  | chainPoll (line : Option (List Byte × List Byte))
  /-- R444: a read of an upstream block ends; `none`: it failed or timed out. -/
  | chainBlock (index : Nat) (data : Option (List Byte))
  /-- R445: verification ends; a NOR read met an uncorrectable error. -/
  | verifyEnd (ue : Bool)
  /-- R446, R448: the standby processor has loaded its image; after how many ticks from B that image sets HB_OK (R447). -/
  | standbyReady (nor : Bool) (hb : Option Nat)
  /-- R446, R450: tick B. -/
  | handover
  /-- R447: B + 5 s without HB_OK, or a fault of the new active processor. -/
  | handback (fault : Bool)
  /-- R448: CONFIRM_S seconds after HB_OK. -/
  | autoConfirm (nor : Bool)
  /-- R451: a swap for self-test at an epoch start of HO_TRACK. -/
  | cpSwap
  /-- R453, R459: opcode 0x56, sub-operation 0. -/
  | profileSave (h : CmdHead) (profile n addr : Nat) (nor : Bool)
  /-- R453, R459: sub-operation 1. -/
  | profileErase (h : CmdHead) (profile : Nat) (nor : Bool)
  /-- R453, R459: sub-operation 2. -/
  | profileSetBoot (h : CmdHead) (profile : Nat) (nor : Bool)
  /-- R454, R459: opcode 0x57, sub-operation 0. -/
  | lcAdvance (h : CmdHead) (target : Nat)
  /-- R309, R459: sub-operation 1 with the words of the lock: RL_ID, RL_BAND0 to 2, RL_CHMASK. -/
  | fuseReglock (h : CmdHead) (id band0 band1 band2 mask : Word)
  /-- R459: sub-operation 2. -/
  | keyProgram (h : CmdHead) (slot addr : Nat)
  /-- R459: sub-operation 3. -/
  | keyRevoke (h : CmdHead) (slot : Nat)
  /-- R455, R456: a counted level of PRESENCE_N: already low when sampling starts, a fall, a rise. -/
  | presencePress (edge : PresenceEdge)
  /-- R456: the initial low has lasted 10 s. -/
  | initialLowTimeout
  /-- R455: the window's 120 s end. -/
  | guardWindowExpire
  /-- R455, R462: a write of GRD_CTRL. -/
  | guardClose (port : Port) (value : Word)
  /-- R457: a check of the seal loop; the bits of SEAL_B that differ from the bits driven. -/
  | sealCheck (errors : Word)
  /-- R466: a PERIODIC record is due. -/
  | lbPeriodicRecord (nor : Bool)
  /-- R466: a background erase ends; whether the block passed its check. -/
  | lbEraseDone (good : Bool)
  /-- R464: the first tick of a Yard second. -/
  | histSample
  /-- R468: PWRFAIL_N is sampled low after high, or high after low. -/
  | pwrfail (low : Bool)
  /-- R471: a write of LB_SEL. -/
  | lbSelWrite (port : Port) (value : Word)
  /-- R473: opcode 0x58. -/
  | lbSnapshot (h : CmdHead) (nor : Bool)
  /-- R473: opcode 0x59. -/
  | lbDump (h : CmdHead) (addr : Nat)
  /-- R473: opcode 0x5A. -/
  | lbRecord (h : CmdHead) (age addr : Nat)
  /-- R488: the levels that GPIO_IN shows from this tick on. -/
  | gpioEdge (levels : BitVec 16)
  /-- R144, R145, R228: the device places a move that waits. -/
  | stallMovePlace (stall : Fin 256)
  /-- R284: the Ethernet link comes up or goes down. -/
  | ethLinkChange (up : Bool)
  /-- R282: the PCIe link trains: rate 0 to 3 for 2.5, 5, 8 and 16 GT/s, and width 1, 2 or 4. -/
  | pcieLinkUp (rate : Fin 4) (width : Nat)
  /-- R446: tick B − 1024 without a complete TRIAL record. -/
  | notReady
  /-- R217: a bar ends. -/
  | barTimeEnd (stall : Fin 256) (entry : Fin 40)
deriving DecidableEq, Repr

end Sys2Proof
end

