-- ==== Sys2Proof/Config.lean ====
section
/-! DEFINITION. Values the manual leaves open: each is a constant with no body, so that no proof can know its value.
`n` is the model's counter of open values drawn so far (log entry 2). -/

namespace Sys2Proof.Config

/-- A fresh 32-bit value where the manual states no result. -/
opaque freeWord : Nat → BitVec 32

/-- A fresh byte where the manual states no result. -/
opaque freeByte : Nat → BitVec 8

/-- Ticks that the self-test of a region takes, where the manual gives no slice count (R424). -/
opaque regionTicks : Nat → Nat

/-- SHA-384 (FIPS 180-4), which the manual names and does not define (log entry 27). -/
opaque sha384 : List (BitVec 8) → List (BitVec 8)

/-- ECDSA P-384 verification (FIPS 186-5) of a digest: public key, digest, signature (log entry 27). -/
opaque ecdsaP384 : List (BitVec 8) → List (BitVec 8) → List (BitVec 8) → Bool

end Sys2Proof.Config
end

