-- ==== Sys2Proof/Machine/Bits.lean ====
section
/-! DEFINITION. Bit fields, byte order, sign extension, saturation and the cyclic redundancy checks of the manual. -/

namespace Sys2Proof.Machine

/-- The `n`-bit field of `w` that begins at bit `lo`, as a number. -/
def fieldOf (w : Word) (lo n : Nat) : Nat := (w.extractLsb' lo n).toNat

/-- The mask of an `n`-bit field at bit `lo`. -/
def fieldMask (lo n : Nat) : Word := BitVec.ofNat 32 ((2 ^ n - 1) * 2 ^ lo)

/-- `w` with its `n`-bit field at bit `lo` replaced by `v` (taken modulo 2^n). -/
def putField (w : Word) (lo n v : Nat) : Word :=
  (w &&& ~~~ fieldMask lo n) ||| BitVec.ofNat 32 ((v % 2 ^ n) * 2 ^ lo)

/-- Bit `b` of `w`. -/
def bitOf (w : Word) (b : Nat) : Bool := w.getLsbD b

/-- A Boolean as a bit. -/
def b2n (b : Bool) : Nat := if b then 1 else 0

/-- The `n`-bit two's complement reading of `x`. -/
def signedOf (n x : Nat) : Int := if x % 2 ^ n < 2 ^ (n - 1) then (x % 2 ^ n : Nat) else (x % 2 ^ n : Nat) - (2 ^ n : Nat)

/-- The `n`-bit two's complement code of `x`, wrapped. -/
def codeOf (n : Nat) (x : Int) : Nat := (x % (2 ^ n : Nat)).toNat

/-- `x` clamped to the `n`-bit two's complement range. -/
def satInt (n : Nat) (x : Int) : Int :=
  if x < -(2 ^ (n - 1) : Nat) then -(2 ^ (n - 1) : Nat)
  else if (2 ^ (n - 1) : Nat) - 1 < x then (2 ^ (n - 1) : Nat) - 1 else x

/-- `x + k` saturating at the top of `n` bits (every saturating counter of the manual). -/
def satAdd (n x k : Nat) : Nat := if 2 ^ n ≤ x + k then 2 ^ n - 1 else x + k

/-- The `n` little-endian bytes of `x`. -/
def leBytes : Nat → Nat → List Byte
  | 0, _ => []
  | n + 1, x => BitVec.ofNat 8 x :: leBytes n (x / 256)

/-- The number that little-endian bytes spell. -/
def ofLe : List Byte → Nat
  | [] => 0
  | b :: r => b.toNat + 256 * ofLe r

/-- The little-endian number in bytes `a` to `a + n - 1` of a record. -/
def bytesAt (l : List Byte) (a n : Nat) : Nat := ofLe ((l.drop a).take n)

/-- One bit of a non-reflected CRC of width `w` with polynomial `p`. -/
def crcBit (w p c : Nat) : Nat :=
  if c / 2 ^ (w - 1) % 2 = 1 then ((c * 2) % 2 ^ w) ^^^ p else (c * 2) % 2 ^ w

/-- One byte of a non-reflected CRC of width `w` (8 ≤ w). -/
def crcByte (w p c : Nat) (b : Byte) : Nat :=
  let c0 := c ^^^ (b.toNat * 2 ^ (w - 8))
  crcBit w p (crcBit w p (crcBit w p (crcBit w p (crcBit w p (crcBit w p (crcBit w p (crcBit w p c0)))))))

/-- CRC-16 of R235: polynomial 0x1021, initial value 0xFFFF, no reflection, no final XOR. -/
def crc16 (l : List Byte) : Nat := l.foldl (crcByte 16 0x1021) 0xFFFF

/-- CRC-8 of the two-wire PEC (R380): polynomial 0x07, initial value 0. -/
def crc8 (l : List Byte) : Nat := l.foldl (crcByte 8 0x07) 0

/-- One bit of the reflected CRC-32C (0x82F6_3B78 is 0x1EDC_6F41 reflected). -/
def crc32Bit (c : Nat) : Nat := if c % 2 = 1 then (c / 2) ^^^ 0x82F63B78 else c / 2

/-- One byte of CRC-32C. -/
def crc32Byte (c : Nat) (b : Byte) : Nat :=
  crc32Bit (crc32Bit (crc32Bit (crc32Bit (crc32Bit (crc32Bit (crc32Bit (crc32Bit (c ^^^ b.toNat))))))))

/-- CRC-32C (Castagnoli) of R25: initial value and final XOR 0xFFFF_FFFF, bits reflected as CRC-32C is defined
(DEDUCED, log entry 4). -/
def crc32c (l : List Byte) : Nat := (l.foldl crc32Byte 0xFFFFFFFF) ^^^ 0xFFFFFFFF

/-- The whole number nearest `a / b` (b positive), halves to even: the convergent rounding of the manual. -/
def convergentDiv (a : Int) (b : Nat) : Int :=
  let q := a / (b : Int)
  let r := a % (b : Int)
  if 2 * r < (b : Int) then q
  else if (b : Int) < 2 * r then q + 1
  else if q % 2 = 0 then q else q + 1

/-- The whole number nearest `a / b`, halves up. -/
def roundDiv (a b : Nat) : Nat := (2 * a + b) / (2 * b)

/-- Modular exponentiation-free integer square root by `fuel` Newton steps from above. -/
def isqrtLoop : Nat → Nat → Nat → Nat
  | 0, _, x => x
  | f + 1, n, x => let y := (x + n / x) / 2; if y < x then isqrtLoop f n y else x

/-- ⌊√n⌋ for n below 2^128. -/
def isqrt (n : Nat) : Nat := if n = 0 then 0 else isqrtLoop 200 n (2 ^ 64)

end Sys2Proof.Machine
end

