-- ==== Sys2Proof/Machine/RegMap.lean ====
section
/-! DEFINITION. The register map: one row per register (or array of registers) of the manual, written from its
register tables. A row gives the byte address (R14), the strides of an array, the masks of the access codes of R9
(bits in no mask are RO) and the reset value (R10). Registers that the manual keeps per stall behind a channel window
(R115, R118, R199) or an AF-list window (R231) have their one home above the 1 MiB register space, at
0x10_0000 + 0x400 n and 0x20_0000 + 0x400 n for stall n; the windows translate to it.
Reset values the manual gives as "fuse", "NV" or "cal" are the model's (log entry 3). -/

namespace Sys2Proof.Machine

/-- One register, or one array of registers `base + s1·i + s2·j` with `lo ≤ i < n1` and `j < n2`. -/
structure RegRow where
  base : Nat
  s1 : Nat := 0
  n1 : Nat := 1
  s2 : Nat := 0
  n2 : Nat := 1
  lo : Nat := 0
  rw : Nat := 0
  rwl : Nat := 0
  w1c : Nat := 0
  w1s : Nat := 0
  wo : Nat := 0
  reset : Nat := 0
deriving DecidableEq, Repr

/-- The byte address of element (i, j) of a row. -/
def RegRow.at (r : RegRow) (i : Nat := 0) (j : Nat := 0) : Nat := r.base + r.s1 * i + r.s2 * j

/-- Whether byte address `a` is an element of the row. -/
def RegRow.covers (r : RegRow) (a : Nat) : Bool :=
  if a < r.base then false
  else
    let d := a - r.base
    let i := if r.s1 = 0 then 0 else d / r.s1
    let e := if r.s1 = 0 then d else d % r.s1
    let j := if r.s2 = 0 then 0 else e / r.s2
    let z := if r.s2 = 0 then e else e % r.s2
    decide (z = 0) && decide (r.lo ≤ i) && decide (i < r.n1) && decide (j < r.n2)

namespace R

/-- R18. -/
def PG_ID : RegRow := { base := 0x0, s1 := 0x1000, n1 := 29 }

/-- R19. -/
def PG_CTRL : RegRow := { base := 0x4, s1 := 0x1000, n1 := 29, rw := 0x5, w1s := 0x2, reset := 0x1 }

/-- R21. -/
def PG_STATUS : RegRow := { base := 0x8, s1 := 0x1000, n1 := 29 }

/-- R22. -/
def PG_EVENT : RegRow := { base := 0xC, s1 := 0x1000, n1 := 29, w1c := 0xFFFFFFFF }

/-- R22. -/
def PG_EVENT_EN : RegRow := { base := 0x10, s1 := 0x1000, n1 := 29, rw := 0xFFFFFFFF }

/-- R23. -/
def PG_EVENT_FORCE : RegRow := { base := 0x14, s1 := 0x1000, n1 := 29, wo := 0xFFFFFFFF }

/-- R24. -/
def PG_LOCK : RegRow := { base := 0x18, s1 := 0x1000, n1 := 29, w1s := 0x1 }

/-- R25. -/
def PG_CHECK : RegRow := { base := 0x1C, s1 := 0x1000, n1 := 29 }

/-- R27. -/
def ST_CTRL : RegRow := { base := 0x20000, s1 := 0x100, n1 := 256, rw := 0x5, w1s := 0x2 }

/-- R28. -/
def ST_STATUS : RegRow := { base := 0x20004, s1 := 0x100, n1 := 256 }

/-- R29. -/
def ST_EVENT : RegRow := { base := 0x20008, s1 := 0x100, n1 := 256, w1c := 0x800000FF }

/-- R29. -/
def ST_EVENT_EN : RegRow := { base := 0x2000C, s1 := 0x100, n1 := 256, rw := 0x800000FF }

/-- R50. -/
def TIME_LO : RegRow := { base := 0x1040 }

/-- R50. -/
def TIME_HI : RegRow := { base := 0x1044 }

/-- R62. -/
def TRK_CFG : RegRow := { base := 0x1080, s1 := 0x40, n1 := 4, rw := 0xFFF1F, reset := 0x80000 }

/-- R31. -/
def IRQ_PAGE_SUM : RegRow := { base := 0x40 }

/-- R31. -/
def IRQ_STALL_SUM : RegRow := { base := 0x44, s1 := 0x4, n1 := 8 }

/-- R31. -/
def IRQ_ROUTE : RegRow := { base := 0x64, s1 := 0x4, n1 := 3, rw := 0xFFFFFFFF }

/-- R31, R32: the nibbles of the reserved pages are RO. -/
def IRQ_ROUTE3 : RegRow := { base := 0x64, s1 := 0x4, n1 := 4, lo := 3, rw := 0xFFFFF }

/-- R31. -/
def IRQ_ROUTE4 : RegRow := { base := 0x74, rw := 0xF, reset := 0xB }

/-- R31. -/
def IRQ_GLOBAL : RegRow := { base := 0x78, rw := 0x10000 }

/-- R31. -/
def IRQ_EOI : RegRow := { base := 0x7C, wo := 0xFF }

/-- R31. -/
def HOST_ERR : RegRow := { base := 0x80, w1c := 0x1FF }

/-- R31. -/
def HOST_ERR_ADDR : RegRow := { base := 0x84 }

/-- R31. -/
def HOST_WCOL_CNT : RegRow := { base := 0x88 }

/-- R31. -/
def POSTED : RegRow := { base := 0x8C }

/-- R63. -/
def TRK_FREE_LEN : RegRow := { base := 0x1084, s1 := 0x40, n1 := 4, rw := 0xFFFFFFFF, reset := 0x2EE0000 }

/-- R63. -/
def TRK_STATUS : RegRow := { base := 0x1088, s1 := 0x40, n1 := 4 }

/-- R63. -/
def TRK_PHASE : RegRow := { base := 0x108C, s1 := 0x40, n1 := 4 }

/-- R63. -/
def TRK_EPOCH_LO : RegRow := { base := 0x1090, s1 := 0x40, n1 := 4 }

/-- R63. -/
def TRK_EPOCH_HI : RegRow := { base := 0x1094, s1 := 0x40, n1 := 4 }

/-- R63. -/
def TRK_START_LO : RegRow := { base := 0x1098, s1 := 0x40, n1 := 4 }

/-- R63. -/
def TRK_START_HI : RegRow := { base := 0x109C, s1 := 0x40, n1 := 4 }

/-- R63. -/
def TRK_LEN : RegRow := { base := 0x10A0, s1 := 0x40, n1 := 4 }

/-- R63. -/
def TRK_EPOCH_SET_LO : RegRow := { base := 0x10A4, s1 := 0x40, n1 := 4, rw := 0xFFFFFFFF }

/-- R63. -/
def TRK_EPOCH_SET_HI : RegRow := { base := 0x10A8, s1 := 0x40, n1 := 4, rw := 0xFFFF, w1s := 0x80000000 }

/-- R63. -/
def TRK_JUMP : RegRow := { base := 0x10AC, s1 := 0x40, n1 := 4 }

/-- R63. -/
def TRK_GLITCH_CNT : RegRow := { base := 0x10B0, s1 := 0x40, n1 := 4 }

/-- R65. -/
def TT_STAGE_EPOCH : RegRow := { base := 0x1200, rw := 0xFFFFFFFF }

/-- R65. -/
def TT_STAGE_CTL : RegRow := { base := 0x1204, rw := 0xFFF7FFFF }

/-- R65. -/
def TT_STAGE_TARGET : RegRow := { base := 0x1208, rw := 0xFFFFF }

/-- R65. -/
def TT_STAGE_VALUE : RegRow := { base := 0x120C, rw := 0xFFFFFFFF }

/-- R65. -/
def TT_STAGE_MASK : RegRow := { base := 0x1210, rw := 0xFFFFFFFF, reset := 0xFFFFFFFF }

/-- R65. -/
def TT_GO : RegRow := { base := 0x1214, wo := 0x1FF0003 }

/-- R65. -/
def TT_RESULT : RegRow := { base := 0x1218 }

/-- R65. -/
def TT_FREE : RegRow := { base := 0x121C, reset := 0x1C0 }

/-- R65. -/
def TT_PEEK_SEL : RegRow := { base := 0x1220, rw := 0x1FF }

/-- R65. -/
def TT_PEEK : RegRow := { base := 0x1224, s1 := 0x4, n1 := 5 }

/-- R65. -/
def TT_PEEK_STATE : RegRow := { base := 0x1238 }

/-- R74. -/
def TS_QUERY_SEL : RegRow := { base := 0x1050, rw := 0xFFF }

/-- R74. -/
def TS_QUERY_ANA : RegRow := { base := 0x1054 }

/-- R74. -/
def TS_QUERY_FILT : RegRow := { base := 0x1058 }

/-- R74. -/
def TS_QUERY_ENG : RegRow := { base := 0x105C }

/-- R74. -/
def TS_QUERY_TOTAL : RegRow := { base := 0x1060 }

/-- R95. -/
def RF_CTRL : RegRow := { base := 0x3040, s1 := 0x1000, n1 := 3, rw := 0x7, reset := 0x1 }

/-- R95. -/
def RF_SETTING : RegRow := { base := 0x3044, s1 := 0x1000, n1 := 3, rw := 0x1F }

/-- R95. -/
def STEP_EPOCH : RegRow := { base := 0x3048, s1 := 0x1000, n1 := 3, rw := 0xFFFFFFFF }

/-- R95. -/
def STEP_CTL : RegRow := { base := 0x304C, s1 := 0x1000, n1 := 3, rw := 0x1F07FFFF }

/-- R95. -/
def STEP_GO : RegRow := { base := 0x3050, s1 := 0x1000, n1 := 3, wo := 0x3 }

/-- R95. -/
def STEP_RESULT : RegRow := { base := 0x3054, s1 := 0x1000, n1 := 3, reset := 0x800 }

/-- R95. -/
def STEP_LAST_TICK : RegRow := { base := 0x3058, s1 := 0x1000, n1 := 3 }

/-- R95. -/
def STEP_LAST : RegRow := { base := 0x305C, s1 := 0x1000, n1 := 3 }

/-- R95. -/
def STEP_LAT : RegRow := { base := 0x3060, s1 := 0x1000, n1 := 3 }

/-- R95. -/
def AGC_CFG : RegRow := { base := 0x3064, s1 := 0x1000, n1 := 3, rwl := 0xF1F1FFF, reset := 0x41E0036 }

/-- R95. -/
def CLIP_THR : RegRow := { base := 0x3068, s1 := 0x1000, n1 := 3, rwl := 0xFFFF, reset := 0x1FE0 }

/-- R95. -/
def CLIP_CNT : RegRow := { base := 0x306C, s1 := 0x1000, n1 := 3 }

/-- R95. -/
def RF_LEVEL : RegRow := { base := 0x3070, s1 := 0x1000, n1 := 3 }

/-- R95. -/
def TONE_CTRL : RegRow := { base := 0x3074, s1 := 0x1000, n1 := 3, rw := 0xFFF1, reset := 0x5840 }

/-- R95. -/
def ALIGN : RegRow := { base := 0x3078, s1 := 0x1000, n1 := 3 }

/-- R95. -/
def ANA_DELAY : RegRow := { base := 0x307C, s1 := 0x1000, n1 := 3 }

/-- R95. -/
def STEP_CNT : RegRow := { base := 0x3080, s1 := 0x1000, n1 := 3 }

/-- R95. -/
def GAIN_CORR : RegRow := { base := 0x3100, s1 := 0x1000, n1 := 3, s2 := 0x4, n2 := 31 }

/-- R115. -/
def WIN_SEL : RegRow := { base := 0x30000, s1 := 0x1000, n1 := 4, rw := 0xFF }

/-- R115. -/
def WIN_STATUS : RegRow := { base := 0x30004, s1 := 0x1000, n1 := 4 }

/-- R115. -/
def FIR_CTL : RegRow := { base := 0x100008, s1 := 0x400, n1 := 256, rw := 0x313FF }

/-- R115. -/
def FIR_DC_GAIN : RegRow := { base := 0x10000C, s1 := 0x400, n1 := 256 }

/-- R115. -/
def FIR_CRC : RegRow := { base := 0x100010, s1 := 0x400, n1 := 256 }

/-- R115. -/
def WIN_CHAIN : RegRow := { base := 0x100014, s1 := 0x400, n1 := 256 }

/-- R115. -/
def WIN_SETTLE : RegRow := { base := 0x100018, s1 := 0x400, n1 := 256 }

/-- R115. -/
def WIN_NCO : RegRow := { base := 0x10001C, s1 := 0x400, n1 := 256 }

/-- R115. -/
def COEF : RegRow := { base := 0x100100, s1 := 0x400, n1 := 256, s2 := 0x4, n2 := 64, rw := 0x3FFFF }

/-- R126. -/
def CHAN_STATUS : RegRow := { base := 0x6040 }

/-- R126. -/
def BIN_SAT_A : RegRow := { base := 0x6044 }

/-- R126. -/
def BIN_SAT_B : RegRow := { base := 0x6048 }

/-- R126. -/
def CH_SAT_CNT : RegRow := { base := 0x604C }

/-- R126. -/
def CH_SAT_LAST : RegRow := { base := 0x6050 }

/-- R126. -/
def BIN_LEVEL_SEQ : RegRow := { base := 0x6054 }

/-- R126. -/
def CH_CFG : RegRow := { base := 0x6400, s1 := 0x4, n1 := 256, rw := 0xF }

/-- R126. -/
def BIN_LEVEL_A : RegRow := { base := 0x6800, s1 := 0x4, n1 := 192, reset := 0x8000 }

/-- R126. -/
def BIN_LEVEL_B : RegRow := { base := 0x6B00, s1 := 0x4, n1 := 192, reset := 0x8000 }

/-- R147. -/
def ST_CLASS : RegRow := { base := 0x20010, s1 := 0x100, n1 := 256, rw := 0xF }

/-- R147. -/
def ST_FREQ : RegRow := { base := 0x20014, s1 := 0x100, n1 := 256, rw := 0xFFFFFFFF }

/-- R147. -/
def ST_ANT : RegRow := { base := 0x20018, s1 := 0x100, n1 := 256, rw := 0x7 }

/-- R147. -/
def ST_PRESET : RegRow := { base := 0x2001C, s1 := 0x100, n1 := 256, rw := 0xFFFF1F03, reset := 0x80000000 }

/-- R147. -/
def ST_LEVEL_FAST : RegRow := { base := 0x20020, s1 := 0x100, n1 := 256, reset := 0x8000 }

/-- R147. -/
def ST_LEVEL_FINE : RegRow := { base := 0x20024, s1 := 0x100, n1 := 256, reset := 0x8000 }

/-- R147. -/
def ST_QUALITY : RegRow := { base := 0x20028, s1 := 0x100, n1 := 256, reset := 0x8000 }

/-- R147. -/
def ST_ROUTE : RegRow := { base := 0x2002C, s1 := 0x100, n1 := 256, rw := 0xFF3F, reset := 0xFF00 }

/-- R149. -/
def STABLE_CFG : RegRow := { base := 0x7040, rwl := 0x1F01, reset := 0x401 }

/-- R149. -/
def OPEN_SEL : RegRow := { base := 0x7044, rw := 0xFF }

/-- R149. -/
def OPEN_EPOCH : RegRow := { base := 0x7048, rw := 0xFFFFFFFF }

/-- R149. -/
def OPEN_CTL : RegRow := { base := 0x704C, rw := 0x7FFFF }

/-- R149. -/
def OPEN_GO : RegRow := { base := 0x7050, wo := 0x7 }

/-- R149. -/
def OPEN_RESULT : RegRow := { base := 0x7054 }

/-- R149. -/
def LU_STATUS : RegRow := { base := 0x7058, reset := 0x2800000 }

/-- R149. -/
def CLASS_CNT0 : RegRow := { base := 0x705C }

/-- R149. -/
def CLASS_CNT1 : RegRow := { base := 0x7060 }

/-- R149. -/
def CLASS_CNT2 : RegRow := { base := 0x7064 }

/-- R149. -/
def CLASS_CNT3 : RegRow := { base := 0x7068 }

/-- R149. -/
def SPARE_CNT : RegRow := { base := 0x706C, reset := 0x1100110 }

/-- R149. -/
def MOVE_CNT : RegRow := { base := 0x7070 }

/-- R149. -/
def MOVE_ABANDON_CNT : RegRow := { base := 0x7074 }

/-- R149. -/
def MOVE_LAST : RegRow := { base := 0x7078 }

/-- R149. -/
def MOVE_LAST_TICK : RegRow := { base := 0x707C }

/-- R149. -/
def UNIT_SEL : RegRow := { base := 0x7080, rw := 0x1FF }

/-- R149. -/
def UNIT_INFO : RegRow := { base := 0x7084 }

/-- R149. -/
def FAULT_CNT : RegRow := { base := 0x7088 }

/-- R170. -/
def FM_CFG : RegRow := { base := 0x20030, s1 := 0x100, n1 := 256, rw := 0xFFFFFFF, reset := 0x1030 }

/-- R170. -/
def FM_STATUS : RegRow := { base := 0x20034, s1 := 0x100, n1 := 256 }

/-- R170. -/
def FM_MPX : RegRow := { base := 0x20038, s1 := 0x100, n1 := 256, reset := 0x8000 }

/-- R170. -/
def FM_PATH : RegRow := { base := 0x2003C, s1 := 0x100, n1 := 256 }

/-- R171. -/
def AM_CFG : RegRow := { base := 0x20030, s1 := 0x100, n1 := 256, rw := 0x1F, reset := 0xC }

/-- R171. -/
def AM_STATUS : RegRow := { base := 0x20034, s1 := 0x100, n1 := 256 }

/-- R171. -/
def AM_MOD : RegRow := { base := 0x20038, s1 := 0x100, n1 := 256 }

/-- R171. -/
def AM_CARRIER : RegRow := { base := 0x2003C, s1 := 0x100, n1 := 256, reset := 0x8000 }

/-- R199. -/
def SVC_SID : RegRow := { base := 0x100200, s1 := 0x400, n1 := 256, s2 := 0x8, n2 := 64 }

/-- R199. -/
def SVC_INFO : RegRow := { base := 0x100204, s1 := 0x400, n1 := 256, s2 := 0x8, n2 := 64 }

/-- R200. -/
def LS_STAGE_SID : RegRow := { base := 0x30400, rw := 0xFFFFFFFF }

/-- R200. -/
def LS_STAGE_CTL : RegRow := { base := 0x30404, rw := 0xFFFFF, reset := 0xFF00 }

/-- R200. -/
def LS_GO : RegRow := { base := 0x30408, wo := 0x3F0003 }

/-- R200. -/
def LS_RESULT : RegRow := { base := 0x3040C }

/-- R200. -/
def LS_UNITS : RegRow := { base := 0x30410, reset := 0x800000 }

/-- R200. -/
def LS_SID : RegRow := { base := 0x30800, s1 := 0x10, n1 := 64 }

/-- R200. -/
def LS_CTL : RegRow := { base := 0x30804, s1 := 0x10, n1 := 64 }

/-- R200. -/
def LS_FRAMES : RegRow := { base := 0x30808, s1 := 0x10, n1 := 64 }

/-- R200. -/
def LS_STAT : RegRow := { base := 0x3080C, s1 := 0x10, n1 := 64 }

/-- R201. -/
def DAB_CFG : RegRow := { base := 0x20030, s1 := 0x100, n1 := 256, rw := 0x1FFFF, reset := 0x10A49 }

/-- R201. -/
def DAB_STATUS : RegRow := { base := 0x20034, s1 := 0x100, n1 := 256 }

/-- R201. -/
def DAB_CIF : RegRow := { base := 0x20038, s1 := 0x100, n1 := 256 }

/-- R201. -/
def DAB_TII : RegRow := { base := 0x2003C, s1 := 0x100, n1 := 256 }

/-- R202. -/
def DRM_CFG : RegRow := { base := 0x20030, s1 := 0x100, n1 := 256, rw := 0x7, reset := 0x6 }

/-- R202. -/
def DRM_STATUS : RegRow := { base := 0x20034, s1 := 0x100, n1 := 256, reset := 0x1F8 }

/-- R202. -/
def DRM_SERVICE : RegRow := { base := 0x20038, s1 := 0x100, n1 := 256 }

/-- R202. -/
def DRM_FAC_MER : RegRow := { base := 0x2003C, s1 := 0x100, n1 := 256, reset := 0x8000 }

/-- R203. -/
def TC_CFG : RegRow := { base := 0x20030, s1 := 0x100, n1 := 256, rw := 0x1F, reset := 0x10 }

/-- R203. -/
def TC_STATUS : RegRow := { base := 0x20034, s1 := 0x100, n1 := 256 }

/-- R203. -/
def TC_TIME : RegRow := { base := 0x20038, s1 := 0x100, n1 := 256 }

/-- R203. -/
def TC_MARK_LO : RegRow := { base := 0x2003C, s1 := 0x100, n1 := 256 }

/-- R230. -/
def HS_CTL : RegRow := { base := 0x20040, s1 := 0x100, n1 := 256, rw := 0xFFFF00FF, reset := 0xFFFF0030 }

/-- R230. -/
def HS_THR : RegRow := { base := 0x20044, s1 := 0x100, n1 := 256, rw := 0xFFFFFFFF, reset := 0xB3000306 }

/-- R230. -/
def HS_DWELL : RegRow := { base := 0x20048, s1 := 0x100, n1 := 256, rw := 0xFFFFFFFF, reset := 0x28326432 }

/-- R230. -/
def HS_CMD : RegRow := { base := 0x2004C, s1 := 0x100, n1 := 256, wo := 0x3F0F }

/-- R230. -/
def HS_STATUS : RegRow := { base := 0x20050, s1 := 0x100, n1 := 256 }

/-- R230. -/
def HS_MARGIN : RegRow := { base := 0x20054, s1 := 0x100, n1 := 256, reset := 0x80008000 }

/-- R230. -/
def HS_OFS : RegRow := { base := 0x20058, s1 := 0x100, n1 := 256 }

/-- R230. -/
def HS_OFS_FM : RegRow := { base := 0x2005C, s1 := 0x100, n1 := 256 }

/-- R230. -/
def HS_LAST : RegRow := { base := 0x20060, s1 := 0x100, n1 := 256 }

/-- R230. -/
def HS_LAST_TICK : RegRow := { base := 0x20064, s1 := 0x100, n1 := 256 }

/-- R230. -/
def HS_DELTA : RegRow := { base := 0x20068, s1 := 0x100, n1 := 256 }

/-- R230. -/
def HS_GAIN : RegRow := { base := 0x2006C, s1 := 0x100, n1 := 256 }

/-- R230. -/
def HS_CNT_DONE : RegRow := { base := 0x20070, s1 := 0x100, n1 := 256 }

/-- R230. -/
def HS_CNT_ABANDON : RegRow := { base := 0x20074, s1 := 0x100, n1 := 256 }

/-- R230. -/
def HS_CNT_VISIT : RegRow := { base := 0x20078, s1 := 0x100, n1 := 256 }

/-- R230. -/
def HS_CNT_ALIGN_FAIL : RegRow := { base := 0x2007C, s1 := 0x100, n1 := 256 }

/-- R231. -/
def AFW_SEL : RegRow := { base := 0x34000, s1 := 0x1000, n1 := 4, rw := 0xFF }

/-- R231. -/
def AFW_STATUS : RegRow := { base := 0x34004, s1 := 0x1000, n1 := 4 }

/-- R231. -/
def AFE_TARGET : RegRow := { base := 0x200040, s1 := 0x400, n1 := 256, s2 := 0x10, n2 := 40, rw := 0xFFFFFFFF }

/-- R231. -/
def AFE_CTL : RegRow := { base := 0x200044, s1 := 0x400, n1 := 256, s2 := 0x10, n2 := 40, rw := 0xFFF63 }

/-- R231. -/
def AFE_MEAS : RegRow := { base := 0x200048, s1 := 0x400, n1 := 256, s2 := 0x10, n2 := 40, reset := 0x8000 }

/-- R231. -/
def AFE_STATE : RegRow := { base := 0x20004C, s1 := 0x400, n1 := 256, s2 := 0x10, n2 := 40 }

/-- R232. -/
def HOIST_CFG : RegRow := { base := 0x8040, rw := 0xFFF0F00, rwl := 0x7F, reset := 0x30A0440 }

/-- R232. -/
def HOIST_AGE : RegRow := { base := 0x8044, rw := 0xFFFFFFFF, reset := 0x3C0258 }

/-- R232. -/
def SCOUT_STATUS : RegRow := { base := 0x8048 }

/-- R232. -/
def HOIST_COUNT : RegRow := { base := 0x804C }

/-- R232. -/
def CNT_DONE : RegRow := { base := 0x8050 }

/-- R232. -/
def CNT_ABANDON : RegRow := { base := 0x8054 }

/-- R232. -/
def CNT_STARVE : RegRow := { base := 0x8058 }

/-- R232. -/
def CNT_VISIT : RegRow := { base := 0x805C }

/-- R232. -/
def SCOUT_SEL : RegRow := { base := 0x8060, rw := 0x3F }

/-- R232. -/
def SCOUT_INFO : RegRow := { base := 0x8064 }

/-- R232. -/
def SCOUT_FREQ : RegRow := { base := 0x8068 }

/-- R232. -/
def MEAS_FREQ : RegRow := { base := 0x806C, rw := 0xFFFFFFFF }

/-- R232. -/
def MEAS_CTL : RegRow := { base := 0x8070, rw := 0xF, wo := 0x100, reset := 0x4 }

/-- R232. -/
def MEAS_LEVEL : RegRow := { base := 0x8074, reset := 0x8000 }

/-- R232. -/
def MEAS_QUAL : RegRow := { base := 0x8078, reset := 0x8000 }

/-- R242. -/
def PN_CFG : RegRow := { base := 0x9040, rw := 0x3F3F }

/-- R242. -/
def PN_RESULT : RegRow := { base := 0x9044 }

/-- R242. -/
def PN_EMIT_CNT : RegRow := { base := 0x9048 }

/-- R242. -/
def PN_DROP_CNT : RegRow := { base := 0x904C }

/-- R242. -/
def PN_DL_CNT : RegRow := { base := 0x9050 }

/-- R242. -/
def PN_EVT_PAGES : RegRow := { base := 0x9054, rw := 0x1FFFFFFF }

/-- R242. -/
def PN_ROUTE : RegRow := { base := 0x9100, s1 := 0x4, n1 := 32, rw := 0xFFFFFFFF }

/-- R248. -/
def CMD_STATUS : RegRow := { base := 0xA06C, reset := 0x1000000 }

/-- R248. -/
def CQ0_BASE_LO : RegRow := { base := 0xA070, rw := 0xFFFFFFFF }

/-- R248. -/
def CQ0_BASE_HI : RegRow := { base := 0xA074, rw := 0xFFFFFFFF }

/-- R248. -/
def CQ0_PROD : RegRow := { base := 0xA078, rw := 0xFFFFFFFF }

/-- R248. -/
def CQ0_CONS : RegRow := { base := 0xA07C }

/-- R248. -/
def Q_CFG1 : RegRow := { base := 0xA000, s1 := 0x40, n1 := 2, lo := 1, rw := 0x1F3F03, reset := 0x60600 }

/-- R248. -/
def Q_CFG : RegRow := { base := 0xA000, s1 := 0x40, n1 := 64, lo := 2, rw := 0x3F03, reset := 0x600 }

/-- R248. -/
def Q_BASE_LO : RegRow := { base := 0xA004, s1 := 0x40, n1 := 64, lo := 1, rw := 0xFFFFFFFF }

/-- R248. -/
def Q_BASE_HI : RegRow := { base := 0xA008, s1 := 0x40, n1 := 64, lo := 1, rw := 0xFFFFFFFF }

/-- R248. -/
def Q_PROD : RegRow := { base := 0xA00C, s1 := 0x40, n1 := 64, lo := 1 }

/-- R248. -/
def Q_CONS : RegRow := { base := 0xA010, s1 := 0x40, n1 := 64, lo := 1, rw := 0xFFFFFFFF }

/-- R248. -/
def Q_NOTIFY : RegRow := { base := 0xA014, s1 := 0x40, n1 := 64, lo := 1, rw := 0xFFFFFFFF, reset := 0x1 }

/-- R248. -/
def Q_STATUS : RegRow := { base := 0xA018, s1 := 0x40, n1 := 64, lo := 1 }

/-- R248. -/
def Q_EVENT : RegRow := { base := 0xA01C, s1 := 0x40, n1 := 64, lo := 1, w1c := 0x3F }

/-- R248. -/
def Q_EVENT_EN : RegRow := { base := 0xA020, s1 := 0x40, n1 := 64, lo := 1, rw := 0x3F }

/-- R248. -/
def Q_DRAIN : RegRow := { base := 0xA024, s1 := 0x40, n1 := 64, lo := 1, rw := 0xFFFFFFFF }

/-- R248. -/
def Q_RATE : RegRow := { base := 0xA028, s1 := 0x40, n1 := 64, lo := 1 }

/-- R248. -/
def Q_DROP_CNT : RegRow := { base := 0xA02C, s1 := 0x40, n1 := 64, lo := 1 }

/-- R248. -/
def Q_LATE_CNT : RegRow := { base := 0xA030, s1 := 0x40, n1 := 64, lo := 1 }

/-- R248. -/
def Q_WRITTEN : RegRow := { base := 0xA034, s1 := 0x40, n1 := 64, lo := 1 }

/-- R248. -/
def Q_HOLD_PEAK : RegRow := { base := 0xA038, s1 := 0x40, n1 := 64, lo := 1 }

/-- R285. -/
def TEAM_STAGE : RegRow := { base := 0xB040, rw := 0x31F }

/-- R285. -/
def TEAM_GO : RegRow := { base := 0xB044, wo := 0x3 }

/-- R285. -/
def TEAM_RESULT : RegRow := { base := 0xB048 }

/-- R285. -/
def SUB_STAGE : RegRow := { base := 0xB04C, rw := 0x3FFFFF0F }

/-- R285. -/
def SUB_GO : RegRow := { base := 0xB050, wo := 0xFF0003 }

/-- R285. -/
def SUB_RESULT : RegRow := { base := 0xB054 }

/-- R285. -/
def SUB_SEL : RegRow := { base := 0xB058, rw := 0xFF }

/-- R285. -/
def SUB_INFO : RegRow := { base := 0xB05C }

/-- R285. -/
def MEMBER_SEL : RegRow := { base := 0xB060, rw := 0xFF }

/-- R285. -/
def MEMBER_UNDER_CNT : RegRow := { base := 0xB064 }

/-- R285. -/
def MEMBER_LATE_CNT : RegRow := { base := 0xB068 }

/-- R285. -/
def MEMBER_SILENT_CNT : RegRow := { base := 0xB06C }

/-- R285. -/
def TEAM : RegRow := { base := 0xB100, s1 := 0x4, n1 := 32 }

/-- R285. -/
def MEMBER : RegRow := { base := 0xB200, s1 := 0x4, n1 := 256 }

/-- R286. -/
def SAP_CFG : RegRow := { base := 0xC100, s1 := 0x80, n1 := 8, rw := 0x7FF }

/-- R286. -/
def SAP_STATUS : RegRow := { base := 0xC104, s1 := 0x80, n1 := 8 }

/-- R286. -/
def SAP_MASK_NEXT : RegRow := { base := 0xC108, s1 := 0x80, n1 := 8, rw := 0xFFFFFFFF }

/-- R286. -/
def SAP_MASK_CUR : RegRow := { base := 0xC10C, s1 := 0x80, n1 := 8 }

/-- R286. -/
def SAP_MASK_FRAME : RegRow := { base := 0xC110, s1 := 0x80, n1 := 8 }

/-- R286. -/
def SAP_FRAME : RegRow := { base := 0xC114, s1 := 0x80, n1 := 8 }

/-- R286. -/
def SAP_START_LO : RegRow := { base := 0xC118, s1 := 0x80, n1 := 8 }

/-- R286. -/
def SAP_START_HI : RegRow := { base := 0xC11C, s1 := 0x80, n1 := 8 }

/-- R286. -/
def SAP_MAP : RegRow := { base := 0xC140, s1 := 0x80, n1 := 8, s2 := 0x4, n2 := 16, rw := 0x81FF }

/-- R287. -/
def ASRC_STATUS : RegRow := { base := 0xD040, s1 := 0x10, n1 := 8 }

/-- R287. -/
def ASRC_RATIO : RegRow := { base := 0xD044, s1 := 0x10, n1 := 8 }

/-- R287. -/
def ASRC_DELAY : RegRow := { base := 0xD048, s1 := 0x10, n1 := 8 }

/-- R287. -/
def ASRC_DELAY_RX : RegRow := { base := 0xD04C, s1 := 0x10, n1 := 8 }

/-- R287. -/
def ASRC_CFG : RegRow := { base := 0xD0C0, rwl := 0x3, reset := 0x1 }

/-- R288. -/
def ETH_CFG : RegRow := { base := 0xE040, rw := 0x3FFF0D, rwl := 0x2, reset := 0x220000 }

/-- R288. -/
def ETH_STATUS : RegRow := { base := 0xE044 }

/-- R288. -/
def MAC_LO : RegRow := { base := 0xE048 }

/-- R288. -/
def MAC_HI : RegRow := { base := 0xE04C }

/-- R288. -/
def IP_ADDR : RegRow := { base := 0xE050, rw := 0xFFFFFFFF }

/-- R288. -/
def IP_MASK : RegRow := { base := 0xE054, rw := 0xFFFFFFFF }

/-- R288. -/
def IP_GW : RegRow := { base := 0xE058, rw := 0xFFFFFFFF }

/-- R288. -/
def ETH_VLAN : RegRow := { base := 0xE05C, rw := 0xFFFF }

/-- R288. -/
def PTP_OFFSET : RegRow := { base := 0xE060 }

/-- R288. -/
def PEN_DEST_IP : RegRow := { base := 0xE064, rw := 0xFFFFFFFF }

/-- R288. -/
def PEN_PORT : RegRow := { base := 0xE068, rw := 0xFFFFFFFF }

/-- R288. -/
def PEN_CFG : RegRow := { base := 0xE06C, rw := 0x1 }

/-- R288. -/
def PEN_SEQ : RegRow := { base := 0xE070 }

/-- R288. -/
def AES_CFG : RegRow := { base := 0xE400, s1 := 0x20, n1 := 64, rw := 0x7F7F }

/-- R288. -/
def AES_DEST_IP : RegRow := { base := 0xE404, s1 := 0x20, n1 := 64, rw := 0xFFFFFFFF }

/-- R288. -/
def AES_PORT : RegRow := { base := 0xE408, s1 := 0x20, n1 := 64, rw := 0xFFFFFFFF }

/-- R288. -/
def AES_SSRC : RegRow := { base := 0xE40C, s1 := 0x20, n1 := 64, rw := 0xFFFFFFFF }

/-- R288. -/
def AES_MAP : RegRow := { base := 0xE410, s1 := 0x20, n1 := 64, s2 := 0x4, n2 := 4, rw := 0x81FF81FF }

/-- R288. -/
def AES_STATUS : RegRow := { base := 0xEC00, s1 := 0x4, n1 := 64, w1c := 0x2 }

/-- R289. -/
def SHED_CFG : RegRow := { base := 0x1A040, rwl := 0x3, reset := 0x3 }

/-- R289. -/
def SHED_ACC_ADDR_LO : RegRow := { base := 0x1A044, rw := 0xFFFFFFC0 }

/-- R289. -/
def SHED_ACC_ADDR_HI : RegRow := { base := 0x1A048, rw := 0x3 }

/-- R289. -/
def SHED_ACC_GO : RegRow := { base := 0x1A04C, wo := 0x3 }

/-- R289. -/
def SHED_ACC_RESULT : RegRow := { base := 0x1A050 }

/-- R289. -/
def BAY_SEL : RegRow := { base := 0x1A054, rw := 0x1FF03 }

/-- R289. -/
def BAY_BASE_LO : RegRow := { base := 0x1A058 }

/-- R289. -/
def BAY_BASE_HI : RegRow := { base := 0x1A05C }

/-- R289. -/
def BAY_DEPTH : RegRow := { base := 0x1A060 }

/-- R289. -/
def BAY_WR_LO : RegRow := { base := 0x1A064 }

/-- R289. -/
def BAY_WR_HI : RegRow := { base := 0x1A068 }

/-- R289. -/
def BAY_FILL : RegRow := { base := 0x1A06C }

/-- R289. -/
def BW_SHED : RegRow := { base := 0x1A070, reset := 0xA000000 }

/-- R289. -/
def BW_PCIE : RegRow := { base := 0x1A074 }

/-- R289. -/
def BW_ETH : RegRow := { base := 0x1A078 }

/-- R289. -/
def SHED_ACC_DATA : RegRow := { base := 0x1A080, s1 := 0x4, n1 := 16, rw := 0xFFFFFFFF }

/-- R316. -/
def WR_CTRL : RegRow := { base := 0x11040, rw := 0x3FF, reset := 0x4 }

/-- R316. -/
def WR_STATUS : RegRow := { base := 0x11044, reset := 0x2010 }

/-- R316. -/
def WR_FOFS : RegRow := { base := 0x11048, rw := 0xFFFF }

/-- R316. -/
def WR_AGC_CFG : RegRow := { base := 0x1104C, rw := 0x3F001, rwl := 0xFC0FFE, reset := 0x31E231 }

/-- R316. -/
def WR_AGC_STATUS : RegRow := { base := 0x11050, reset := 0x1E }

/-- R316. -/
def WR_EXT_LNA : RegRow := { base := 0x11054, rwl := 0x7F }

/-- R316. -/
def WR_STEP_LAT : RegRow := { base := 0x11058 }

/-- R316. -/
def WR_CLIP_CNT : RegRow := { base := 0x1105C }

/-- R316. -/
def WR_FRZ_CLIP_CNT : RegRow := { base := 0x11060 }

/-- R316. -/
def WR_RSSI : RegRow := { base := 0x11064, reset := 0x8000 }

/-- R316. -/
def WR_DC : RegRow := { base := 0x11068, rw := 0xF, reset := 0x3 }

/-- R316. -/
def WR_IRC : RegRow := { base := 0x1106C }

/-- R316. -/
def WR_CAL_STATUS : RegRow := { base := 0x11070 }

/-- R316. -/
def WR_CAL_LAST_TICK : RegRow := { base := 0x11074 }

/-- R316. -/
def WR_RX_DELAY : RegRow := { base := 0x11078 }

/-- R316. -/
def WR_TX_DELAY : RegRow := { base := 0x1107C }

/-- R316. -/
def WR_TX_PWR : RegRow := { base := 0x11080, rw := 0x3F, reset := 0x14 }

/-- R316. -/
def WR_PA_CFG : RegRow := { base := 0x11084, rwl := 0x3FF3FF7, reset := 0x3FF0 }

/-- R316. -/
def WR_TX_LAST : RegRow := { base := 0x11088 }

/-- R316. -/
def WR_TX_LAST_TICK : RegRow := { base := 0x1108C }

/-- R316. -/
def WR_TX_LAST_AIR : RegRow := { base := 0x11090 }

/-- R316. -/
def WR_TX_CNT : RegRow := { base := 0x11094 }

/-- R316. -/
def WR_TX_LATE_CNT : RegRow := { base := 0x11098 }

/-- R316. -/
def WR_TX_REFUSE_CNT : RegRow := { base := 0x1109C }

/-- R316. -/
def WR_TEST : RegRow := { base := 0x110A0, rw := 0x3FF, wo := 0x10000 }

/-- R316. -/
def WR_CAL_CNT : RegRow := { base := 0x110A4 }

/-- R318. -/
def RL_ID : RegRow := { base := 0x13040 }

/-- R318. -/
def RL_BAND : RegRow := { base := 0x13044, s1 := 0x4, n1 := 3 }

/-- R318. -/
def RL_CHMASK : RegRow := { base := 0x13050 }

/-- R318. -/
def RL_SOFT_PWR : RegRow := { base := 0x13054, rwl := 0xFFFFFF, reset := 0xFFFFFF }

/-- R318. -/
def RL_SOFT_DUTY : RegRow := { base := 0x13058, s1 := 0x4, n1 := 3, rwl := 0xFFFF, reset := 0x2710 }

/-- R318. -/
def RL_SOFT_CHMASK : RegRow := { base := 0x13064, rwl := 0x1FFFFFF, reset := 0x1FFFFFF }

/-- R318. -/
def RL_DUTY_USED : RegRow := { base := 0x13068, s1 := 0x4, n1 := 3 }

/-- R318. -/
def RL_DUTY_LEFT : RegRow := { base := 0x13074, s1 := 0x4, n1 := 3 }

/-- R318. -/
def RL_PRECHARGE : RegRow := { base := 0x13080 }

/-- R350. -/
def WL_CFG : RegRow := { base := 0x12040, rw := 0xFF7F, reset := 0x206A }

/-- R350. -/
def WL_STATUS : RegRow := { base := 0x12044 }

/-- R350. -/
def WL_HUB_ADDR : RegRow := { base := 0x12048, rwl := 0xFFFFFFFF }

/-- R350. -/
def WL_NET : RegRow := { base := 0x1204C, rwl := 0x1F3F, reset := 0xC1D }

/-- R350. -/
def WL_SLOT_CFG : RegRow := { base := 0x12050, rwl := 0xFFFFFF03, reset := 0x8001000 }

/-- R350. -/
def WL_DL_MASK_NEXT : RegRow := { base := 0x12054, rw := 0xFFFFFFFF, reset := 0x3 }

/-- R350. -/
def WL_HUB_MASK_NEXT : RegRow := { base := 0x12058, rw := 0xFFFFFFFF }

/-- R350. -/
def WL_DL_MASK_CUR : RegRow := { base := 0x1205C, reset := 0x3 }

/-- R350. -/
def WL_HUB_MASK_CUR : RegRow := { base := 0x12060 }

/-- R350. -/
def WL_MASK_FRAME : RegRow := { base := 0x12064 }

/-- R350. -/
def WL_AFRAME : RegRow := { base := 0x12068 }

/-- R350. -/
def WL_BEACON : RegRow := { base := 0x1206C, rw := 0x77, reset := 0x10 }

/-- R350. -/
def WL_FWD_CFG : RegRow := { base := 0x12070, rw := 0xF77, reset := 0x400 }

/-- R350. -/
def WL_DET_CFG : RegRow := { base := 0x12074, rwl := 0xFFFFFF, reset := 0x200609 }

/-- R350. -/
def WL_LOAD_CFG : RegRow := { base := 0x12078, rwl := 0xFFFFFF, reset := 0x80383 }

/-- R350. -/
def WL_LANE_SF : RegRow := { base := 0x1207C, reset := 0x66666666 }

/-- R350. -/
def WL_LANE_SF_NEXT : RegRow := { base := 0x12080, reset := 0x66666666 }

/-- R350. -/
def WL_LANE_SF_MAN : RegRow := { base := 0x12084, rw := 0xFFFFFFFF, reset := 0x66666666 }

/-- R350. -/
def WL_NOISE : RegRow := { base := 0x12088, s1 := 0x4, n1 := 8, reset := 0x8000 }

/-- R350. -/
def WL_AFC : RegRow := { base := 0x120A8, rw := 0x3 }

/-- R350. -/
def WL_PEER_SEL : RegRow := { base := 0x120AC, rw := 0xFFF }

/-- R350. -/
def WL_PEER_INFO : RegRow := { base := 0x120B0, s1 := 0x4, n1 := 6 }

/-- R350. -/
def WL_PEER_COUNT : RegRow := { base := 0x120C8 }

/-- R350. -/
def WL_RX_OK : RegRow := { base := 0x120CC }

/-- R350. -/
def WL_HDR_FAIL : RegRow := { base := 0x120D0 }

/-- R350. -/
def WL_CRC_FAIL : RegRow := { base := 0x120D4 }

/-- R350. -/
def WL_FALSE_START : RegRow := { base := 0x120D8 }

/-- R350. -/
def WL_PREEMPT : RegRow := { base := 0x120DC }

/-- R350. -/
def WL_CAPTURE_LOST : RegRow := { base := 0x120E0 }

/-- R350. -/
def WL_DET_BUSY : RegRow := { base := 0x120E4 }

/-- R350. -/
def WL_BLANKED : RegRow := { base := 0x120E8 }

/-- R350. -/
def WL_ACK_DROP : RegRow := { base := 0x120EC }

/-- R350. -/
def WL_FWD_DROP : RegRow := { base := 0x120F0 }

/-- R350. -/
def WL_PEER_FULL : RegRow := { base := 0x120F4 }

/-- R350. -/
def WL_ROUTE_PREFIX : RegRow := { base := 0x12100, s1 := 0xC, n1 := 16, rw := 0xFFFFFFFF }

/-- R350. -/
def WL_ROUTE_MASK : RegRow := { base := 0x12104, s1 := 0xC, n1 := 16, rw := 0xFFFFFFFF }

/-- R350. -/
def WL_ROUTE_NEXT : RegRow := { base := 0x12108, s1 := 0xC, n1 := 16, rw := 0xFFFFFFFF }

/-- R350. -/
def WL_ROUTE_VALID : RegRow := { base := 0x121C0, rw := 0xFFFF }

/-- R370. -/
def SYN_CFG : RegRow := { base := 0x2040, rw := 0x1, rwl := 0x2, reset := 0x2 }

/-- R370. -/
def SYN0_STATUS : RegRow := { base := 0x2044 }

/-- R370. -/
def SYN0_LOOP : RegRow := { base := 0x2048, rw := 0x3, rwl := 0xFFFF00, reset := 0xC81401 }

/-- R370. -/
def SYN0_DISC : RegRow := { base := 0x204C, rw := 0xFFFF00F7, reset := 0xC80040 }

/-- R370. -/
def SYN0_Y : RegRow := { base := 0x2050 }

/-- R370. -/
def SYN0_Y_HOLD : RegRow := { base := 0x2054 }

/-- R370. -/
def SYN0_UNLOCK_CNT : RegRow := { base := 0x2058 }

/-- R370. -/
def SYN0_LAST_UNLOCK : RegRow := { base := 0x205C }

/-- R370. -/
def SYN0_LAST_LOCK : RegRow := { base := 0x2060 }

/-- R370. -/
def SYN1_STATUS : RegRow := { base := 0x2064 }

/-- R370. -/
def SYN1_UNLOCK_CNT : RegRow := { base := 0x2068 }

/-- R370. -/
def SYN2_CFG : RegRow := { base := 0x206C, rwl := 0x6, wo := 0x1, reset := 0x2 }

/-- R370. -/
def SYN2_STATUS : RegRow := { base := 0x2070, reset := 0x2 }

/-- R370. -/
def MCLK_CFG : RegRow := { base := 0x2074, rw := 0xFF, reset := 0x22 }

/-- R370. -/
def CLKOUT_CFG : RegRow := { base := 0x2078, rw := 0xDF }

/-- R370. -/
def SYN2_UNLOCK_CNT : RegRow := { base := 0x207C }

/-- R370. -/
def REF_SWITCH_CNT : RegRow := { base := 0x2080 }

/-- R388. -/
def TWB_CFG : RegRow := { base := 0x10040, rw := 0x30, rwl := 0xF0F, reset := 0x15 }

/-- R388. -/
def TWB_ADDR : RegRow := { base := 0x10044, rwl := 0xFFFFFFFF, reset := 0xDA }

/-- R388. -/
def TWB_STATUS : RegRow := { base := 0x10048, reset := 0x19 }

/-- R388. -/
def TWB_PTR : RegRow := { base := 0x1004C, reset := 0x1000000 }

/-- R388. -/
def TWB_TGT_CNT : RegRow := { base := 0x10050 }

/-- R388. -/
def TWB_ERR_CNT : RegRow := { base := 0x10054 }

/-- R388. -/
def TWB_ATTN : RegRow := { base := 0x10058, rw := 0xFFFFFFF, reset := 0x30A0800 }

/-- R388. -/
def TWB_ATTN_STATUS : RegRow := { base := 0x1005C }

/-- R388. -/
def TWB_MST_CTL : RegRow := { base := 0x10060, rw := 0x1F1FFF, wo := 0x1000000 }

/-- R388. -/
def TWB_MST_RESULT : RegRow := { base := 0x10064 }

/-- R388. -/
def TWB_ARB : RegRow := { base := 0x10068, rw := 0xF, reset := 0x8 }

/-- R388. -/
def TWB_CLEAR_CNT : RegRow := { base := 0x1006C }

/-- R388. -/
def TWB_MST_WDATA : RegRow := { base := 0x10070, s1 := 0x4, n1 := 4, rw := 0xFFFFFFFF }

/-- R388. -/
def TWB_MST_RDATA : RegRow := { base := 0x10080, s1 := 0x4, n1 := 4 }

/-- R409. -/
def RESET_CAUSE : RegRow := { base := 0xA0, w1c := 0x17F, reset := 0x1 }

/-- R409. -/
def BOOT_STATUS : RegRow := { base := 0xA4, reset := 0xFF000000 }

/-- R409. -/
def DEV_RESET : RegRow := { base := 0xA8, wo := 0xFF }

/-- R409. -/
def READY_TICK : RegRow := { base := 0xAC }

/-- R410. -/
def CAL_CFG : RegRow := { base := 0x14040, rwl := 0xFFF0F, reset := 0x53C0F }

/-- R410. -/
def CAL_STATUS : RegRow := { base := 0x14044 }

/-- R410. -/
def CAL_PEND_TICK : RegRow := { base := 0x14048 }

/-- R410. -/
def CAL_PEND_BLOCKS : RegRow := { base := 0x1404C }

/-- R410. -/
def CAL_APPLY_TICK : RegRow := { base := 0x14050 }

/-- R410. -/
def CAL_CNT : RegRow := { base := 0x14054 }

/-- R410. -/
def CAL_FAIL_CNT : RegRow := { base := 0x14058 }

/-- R410. -/
def CAL_TEMP : RegRow := { base := 0x1405C }

/-- R422. -/
def CHECK_CFG : RegRow := { base := 0x16040, rw := 0xFF04, rwl := 0xFF0003, reset := 0x80001 }

/-- R422. -/
def CHECK_STATUS : RegRow := { base := 0x16044 }

/-- R422. -/
def CHECK_CNT : RegRow := { base := 0x16048 }

/-- R422. -/
def CHECK_MM_CNT : RegRow := { base := 0x1604C }

/-- R422. -/
def CHECK_VOID_CNT : RegRow := { base := 0x16050 }

/-- R422. -/
def CHECK_SKIP_CNT : RegRow := { base := 0x16054 }

/-- R422. -/
def CHECK_LAST : RegRow := { base := 0x16058 }

/-- R422. -/
def CHECK_LAST_TICK : RegRow := { base := 0x1605C }

/-- R422. -/
def CHECK_INCONCL_CNT : RegRow := { base := 0x16060 }

/-- R432. -/
def STE_CFG : RegRow := { base := 0x15040, rwl := 0xFFFF3FFF, reset := 0x180A3200 }

/-- R432. -/
def STE_STATUS : RegRow := { base := 0x15044 }

/-- R432. -/
def STE_STAGE : RegRow := { base := 0x15048, rw := 0x33FF }

/-- R432. -/
def STE_STAGE_COUNT : RegRow := { base := 0x1504C, rw := 0xFFFFFFFF }

/-- R432. -/
def STE_GO : RegRow := { base := 0x15050, wo := 0x3 }

/-- R432. -/
def STE_RESULT : RegRow := { base := 0x15054 }

/-- R432. -/
def STE_LAST : RegRow := { base := 0x15058 }

/-- R432. -/
def STE_LAST_COUNT : RegRow := { base := 0x1505C }

/-- R432. -/
def STE_LAST_EXPECT : RegRow := { base := 0x15060 }

/-- R432. -/
def STE_LAST_SIG : RegRow := { base := 0x15064 }

/-- R432. -/
def STE_LAST_REF : RegRow := { base := 0x15068 }

/-- R432. -/
def STE_FAIL_ADDR : RegRow := { base := 0x1506C }

/-- R432. -/
def STE_FAIL_BIT : RegRow := { base := 0x15070 }

/-- R432. -/
def STE_LAST_TICK : RegRow := { base := 0x15074 }

/-- R432. -/
def STE_REGION_SEL : RegRow := { base := 0x15078, rw := 0x3FF }

/-- R432. -/
def STE_REGION_INFO : RegRow := { base := 0x1507C }

/-- R432. -/
def STE_PASS_CNT : RegRow := { base := 0x15080 }

/-- R432. -/
def STE_FAIL_CNT : RegRow := { base := 0x15084 }

/-- R432. -/
def STE_ABORT_CNT : RegRow := { base := 0x15088 }

/-- R432. -/
def STE_YIELD_CNT : RegRow := { base := 0x1508C }

/-- R432. -/
def STE_REPAIR_CNT : RegRow := { base := 0x15090 }

/-- R432. -/
def STE_RETIRED_CNT : RegRow := { base := 0x15094 }

/-- R432. -/
def SRAM_CE_CNT : RegRow := { base := 0x15098 }

/-- R432. -/
def SRAM_UE_CNT : RegRow := { base := 0x1509C }

/-- R432. -/
def SRAM_LAST : RegRow := { base := 0x150A0 }

/-- R432. -/
def SRAM_LAST_ADDR : RegRow := { base := 0x150A4 }

/-- R432. -/
def NOR_CORR_CNT : RegRow := { base := 0x150A8 }

/-- R432. -/
def NOR_UE_CNT : RegRow := { base := 0x150AC }

/-- R432. -/
def NOR_LAST : RegRow := { base := 0x150B0 }

/-- R432. -/
def NOR_REFRESH_CNT : RegRow := { base := 0x150B4 }

/-- R435. -/
def SHED_ECC_CFG : RegRow := { base := 0x1A200, rwl := 0xFF01, w1s := 0x30000, reset := 0x1801 }

/-- R435. -/
def SHED_CE_CNT : RegRow := { base := 0x1A204 }

/-- R435. -/
def SHED_UE_CNT : RegRow := { base := 0x1A208 }

/-- R435. -/
def SHED_ECC_LAST_LO : RegRow := { base := 0x1A20C }

/-- R435. -/
def SHED_ECC_LAST_HI : RegRow := { base := 0x1A210 }

/-- R435. -/
def SHED_SCRUB_POS : RegRow := { base := 0x1A214 }

/-- R435. -/
def SHED_SCRUB_PASS : RegRow := { base := 0x1A218 }

/-- R461. -/
def UPD_CFG : RegRow := { base := 0x17040, rw := 0xFF3F }

/-- R461. -/
def UPD_STATUS : RegRow := { base := 0x17044 }

/-- R461. -/
def UPD_SV : RegRow := { base := 0x17048 }

/-- R461. -/
def UPD_OFFER_VER : RegRow := { base := 0x1704C }

/-- R461. -/
def UPD_RUN_VER : RegRow := { base := 0x17050 }

/-- R461. -/
def UPD_BLOCKS : RegRow := { base := 0x17054 }

/-- R461. -/
def UPD_DIGEST_LO : RegRow := { base := 0x17058 }

/-- R461. -/
def UPD_DIGEST_HI : RegRow := { base := 0x1705C }

/-- R461. -/
def UPD_STAGE : RegRow := { base := 0x17060, rw := 0x1FFF0077 }

/-- R461. -/
def UPD_STAGE_EPOCH : RegRow := { base := 0x17064, rw := 0xFFFFFFFF }

/-- R461. -/
def UPD_STAGE_ADDR_LO : RegRow := { base := 0x17068, rw := 0xFFFFFFFF }

/-- R461. -/
def UPD_STAGE_ADDR_HI : RegRow := { base := 0x1706C, rw := 0x3 }

/-- R461. -/
def UPD_GO : RegRow := { base := 0x17070, wo := 0x1 }

/-- R461. -/
def UPD_RESULT : RegRow := { base := 0x17074 }

/-- R461. -/
def UPD_HO_TICK : RegRow := { base := 0x17078 }

/-- R461. -/
def UPD_CHAIN_BASE_LO : RegRow := { base := 0x1707C, rw := 0xFFFFFFFF }

/-- R461. -/
def UPD_CHAIN_BASE_HI : RegRow := { base := 0x17080, rw := 0xFFFFFFFF }

/-- R461. -/
def UPD_CHAIN_STATUS : RegRow := { base := 0x17084 }

/-- R461. -/
def UPD_CONFLICT_CNT : RegRow := { base := 0x17088 }

/-- R461. -/
def UPD_JOURNAL_SEQ : RegRow := { base := 0x1708C }

/-- R462. -/
def GRD_STATUS : RegRow := { base := 0x18040 }

/-- R462. -/
def GRD_CTRL : RegRow := { base := 0x18044, wo := 0x1 }

/-- R462. -/
def GRD_KEYS : RegRow := { base := 0x18048 }

/-- R462. -/
def GRD_OPEN_TICK : RegRow := { base := 0x1804C }

/-- R462. -/
def GRD_WINDOW_CNT : RegRow := { base := 0x18050 }

/-- R462. -/
def GRD_LONG_CNT : RegRow := { base := 0x18054 }

/-- R462. -/
def GRD_SEAL_OPEN_CNT : RegRow := { base := 0x18058 }

/-- R462. -/
def GRD_SEAL_FAIL_CNT : RegRow := { base := 0x1805C }

/-- R462. -/
def GRD_REFUSE_CNT : RegRow := { base := 0x18060 }

/-- R472. -/
def LB_CFG : RegRow := { base := 0x19040, rwl := 0xFFF, reset := 0x258 }

/-- R472. -/
def LB_STATUS : RegRow := { base := 0x19044, reset := 0x30 }

/-- R472. -/
def LB_SEQ : RegRow := { base := 0x19048 }

/-- R472. -/
def LB_REC_TICK : RegRow := { base := 0x1904C }

/-- R472. -/
def LB_SEL : RegRow := { base := 0x19050, rw := 0x13F01FF }

/-- R472. -/
def LB_DATA_LO : RegRow := { base := 0x19054 }

/-- R472. -/
def LB_DATA_HI : RegRow := { base := 0x19058 }

/-- R479. -/
def PT_TEMP : RegRow := { base := 0x1B040, reset := 0x80008000 }

/-- R479. -/
def PT_VCORE : RegRow := { base := 0x1B044, reset := 0xFFFF0000 }

/-- R479. -/
def PT_POWER : RegRow := { base := 0x1B048 }

/-- R479. -/
def PT_ALERT : RegRow := { base := 0x1B04C, rwl := 0xFFF, reset := 0x564 }

/-- R479. -/
def PT_STATUS : RegRow := { base := 0x1B050, reset := 0xFF00 }

/-- R488. -/
def GPIO_OUT : RegRow := { base := 0x1C040, rw := 0xFFFF }

/-- R488. -/
def GPIO_OE : RegRow := { base := 0x1C044, rw := 0xFFFF, reset := 0x1 }

/-- R488. -/
def GPIO_IN : RegRow := { base := 0x1C048 }

/-- R488. -/
def GPIO_EDGE : RegRow := { base := 0x1C04C, rw := 0xFFFFFFFF }

/-- R118. -/
def DET_CFG : RegRow := { base := 0x100020, s1 := 0x400, n1 := 256, s2 := 0x10, n2 := 4, rw := 0xFFFF0FF1, reset := 0xFFF0330 }

/-- R118. -/
def DET_FREQ : RegRow := { base := 0x100024, s1 := 0x400, n1 := 256, s2 := 0x10, n2 := 4, rw := 0xFFFFFF }

/-- R118. -/
def DET_THR : RegRow := { base := 0x100028, s1 := 0x400, n1 := 256, s2 := 0x10, n2 := 4, rw := 0xFFFF, reset := 0xEC00 }

/-- R118. -/
def DET_RESULT : RegRow := { base := 0x10002C, s1 := 0x400, n1 := 256, s2 := 0x10, n2 := 4, reset := 0x8000 }

/-- R148. -/
def D_START_LO : RegRow := { base := 0x200C0, s1 := 0x100, n1 := 256 }

/-- R148. -/
def D_START_HI : RegRow := { base := 0x200C4, s1 := 0x100, n1 := 256 }

/-- R148. -/
def D_RESET_TICK : RegRow := { base := 0x200C8, s1 := 0x100, n1 := 256 }

/-- R148. -/
def D_RESET_CNT : RegRow := { base := 0x200CC, s1 := 0x100, n1 := 256 }

/-- R148. -/
def D_MOVE_CNT : RegRow := { base := 0x200D0, s1 := 0x100, n1 := 256 }

/-- R148. -/
def D_W_A : RegRow := { base := 0x200D4, s1 := 0x100, n1 := 256, reset := 0x7FFF }

/-- R148. -/
def D_W_B : RegRow := { base := 0x200D8, s1 := 0x100, n1 := 256 }

/-- R148. -/
def D_LEVEL_A : RegRow := { base := 0x200DC, s1 := 0x100, n1 := 256, reset := 0x8000 }

/-- R148. -/
def D_LEVEL_B : RegRow := { base := 0x200E0, s1 := 0x100, n1 := 256, reset := 0x8000 }

/-- R148. -/
def D_BUDGET : RegRow := { base := 0x200E4, s1 := 0x100, n1 := 256 }

/-- R148. -/
def D_OUT_CNT : RegRow := { base := 0x200E8, s1 := 0x100, n1 := 256 }

/-- R148. -/
def D_SETTLE_CNT : RegRow := { base := 0x200EC, s1 := 0x100, n1 := 256 }

/-- R148. -/
def D_FAULT : RegRow := { base := 0x200F0, s1 := 0x100, n1 := 256 }

/-- R172. -/
def ST_COUNTER : RegRow := { base := 0x20080, s1 := 0x100, n1 := 256, s2 := 0x4, n2 := 16 }

/-- R78. -/
def DL_MISS_CNT : RegRow := { base := 0x1048 }

/-- R78. -/
def DL_LAST : RegRow := { base := 0x104C }

/-- R43. -/
def SHED_WIN_BASE : RegRow := { base := 0xF040, rw := 0x3F }

end R

/-- The registers of page group hdr. -/
def rows_hdr : List RegRow :=
  [R.PG_ID, R.PG_CTRL, R.PG_STATUS, R.PG_EVENT, R.PG_EVENT_EN, R.PG_EVENT_FORCE, R.PG_LOCK, R.PG_CHECK]

/-- The registers of page group stall. -/
def rows_stall : List RegRow :=
  [R.ST_CTRL, R.ST_STATUS, R.ST_EVENT, R.ST_EVENT_EN, R.ST_CLASS, R.ST_FREQ, R.ST_ANT, R.ST_PRESET, R.ST_LEVEL_FAST, R.ST_LEVEL_FINE, R.ST_QUALITY, R.ST_ROUTE, R.FM_CFG, R.FM_STATUS, R.FM_MPX, R.FM_PATH, R.AM_CFG, R.AM_STATUS, R.AM_MOD, R.AM_CARRIER, R.DAB_CFG, R.DAB_STATUS, R.DAB_CIF, R.DAB_TII] ++
  [R.DRM_CFG, R.DRM_STATUS, R.DRM_SERVICE, R.DRM_FAC_MER, R.TC_CFG, R.TC_STATUS, R.TC_TIME, R.TC_MARK_LO, R.HS_CTL, R.HS_THR, R.HS_DWELL, R.HS_CMD, R.HS_STATUS, R.HS_MARGIN, R.HS_OFS, R.HS_OFS_FM, R.HS_LAST, R.HS_LAST_TICK, R.HS_DELTA, R.HS_GAIN, R.HS_CNT_DONE, R.HS_CNT_ABANDON, R.HS_CNT_VISIT, R.HS_CNT_ALIGN_FAIL] ++
  [R.D_START_LO, R.D_START_HI, R.D_RESET_TICK, R.D_RESET_CNT, R.D_MOVE_CNT, R.D_W_A, R.D_W_B, R.D_LEVEL_A, R.D_LEVEL_B, R.D_BUDGET, R.D_OUT_CNT, R.D_SETTLE_CNT, R.D_FAULT, R.ST_COUNTER]

/-- The registers of page group p01. -/
def rows_p01 : List RegRow :=
  [R.TIME_LO, R.TIME_HI, R.TRK_CFG, R.TRK_FREE_LEN, R.TRK_STATUS, R.TRK_PHASE, R.TRK_EPOCH_LO, R.TRK_EPOCH_HI, R.TRK_START_LO, R.TRK_START_HI, R.TRK_LEN, R.TRK_EPOCH_SET_LO, R.TRK_EPOCH_SET_HI, R.TRK_JUMP, R.TRK_GLITCH_CNT, R.TT_STAGE_EPOCH, R.TT_STAGE_CTL, R.TT_STAGE_TARGET, R.TT_STAGE_VALUE, R.TT_STAGE_MASK, R.TT_GO, R.TT_RESULT, R.TT_FREE, R.TT_PEEK_SEL, R.TT_PEEK, R.TT_PEEK_STATE] ++
  [R.TS_QUERY_SEL, R.TS_QUERY_ANA, R.TS_QUERY_FILT, R.TS_QUERY_ENG, R.TS_QUERY_TOTAL, R.DL_MISS_CNT, R.DL_LAST]

/-- The registers of page group p00. -/
def rows_p00 : List RegRow :=
  [R.IRQ_PAGE_SUM, R.IRQ_STALL_SUM, R.IRQ_ROUTE, R.IRQ_ROUTE3, R.IRQ_ROUTE4, R.IRQ_GLOBAL, R.IRQ_EOI, R.HOST_ERR, R.HOST_ERR_ADDR, R.HOST_WCOL_CNT, R.POSTED, R.RESET_CAUSE, R.BOOT_STATUS, R.DEV_RESET, R.READY_TICK]

/-- The registers of page group rf. -/
def rows_rf : List RegRow :=
  [R.RF_CTRL, R.RF_SETTING, R.STEP_EPOCH, R.STEP_CTL, R.STEP_GO, R.STEP_RESULT, R.STEP_LAST_TICK, R.STEP_LAST, R.STEP_LAT, R.AGC_CFG, R.CLIP_THR, R.CLIP_CNT, R.RF_LEVEL, R.TONE_CTRL, R.ALIGN, R.ANA_DELAY, R.STEP_CNT, R.GAIN_CORR]

/-- The registers of page group win. -/
def rows_win : List RegRow :=
  [R.WIN_SEL, R.WIN_STATUS, R.LS_STAGE_SID, R.LS_STAGE_CTL, R.LS_GO, R.LS_RESULT, R.LS_UNITS, R.LS_SID, R.LS_CTL, R.LS_FRAMES, R.LS_STAT]

/-- The registers of page group chan. -/
def rows_chan : List RegRow :=
  [R.FIR_CTL, R.FIR_DC_GAIN, R.FIR_CRC, R.WIN_CHAIN, R.WIN_SETTLE, R.WIN_NCO, R.COEF, R.SVC_SID, R.SVC_INFO, R.DET_CFG, R.DET_FREQ, R.DET_THR, R.DET_RESULT]

/-- The registers of page group p06. -/
def rows_p06 : List RegRow :=
  [R.CHAN_STATUS, R.BIN_SAT_A, R.BIN_SAT_B, R.CH_SAT_CNT, R.CH_SAT_LAST, R.BIN_LEVEL_SEQ, R.CH_CFG, R.BIN_LEVEL_A, R.BIN_LEVEL_B]

/-- The registers of page group p07. -/
def rows_p07 : List RegRow :=
  [R.STABLE_CFG, R.OPEN_SEL, R.OPEN_EPOCH, R.OPEN_CTL, R.OPEN_GO, R.OPEN_RESULT, R.LU_STATUS, R.CLASS_CNT0, R.CLASS_CNT1, R.CLASS_CNT2, R.CLASS_CNT3, R.SPARE_CNT, R.MOVE_CNT, R.MOVE_ABANDON_CNT, R.MOVE_LAST, R.MOVE_LAST_TICK, R.UNIT_SEL, R.UNIT_INFO, R.FAULT_CNT]

/-- The registers of page group afw. -/
def rows_afw : List RegRow :=
  [R.AFW_SEL, R.AFW_STATUS]

/-- The registers of page group af. -/
def rows_af : List RegRow :=
  [R.AFE_TARGET, R.AFE_CTL, R.AFE_MEAS, R.AFE_STATE]

/-- The registers of page group p08. -/
def rows_p08 : List RegRow :=
  [R.HOIST_CFG, R.HOIST_AGE, R.SCOUT_STATUS, R.HOIST_COUNT, R.CNT_DONE, R.CNT_ABANDON, R.CNT_STARVE, R.CNT_VISIT, R.SCOUT_SEL, R.SCOUT_INFO, R.SCOUT_FREQ, R.MEAS_FREQ, R.MEAS_CTL, R.MEAS_LEVEL, R.MEAS_QUAL]

/-- The registers of page group p09. -/
def rows_p09 : List RegRow :=
  [R.PN_CFG, R.PN_RESULT, R.PN_EMIT_CNT, R.PN_DROP_CNT, R.PN_DL_CNT, R.PN_EVT_PAGES, R.PN_ROUTE]

/-- The registers of page group p0A. -/
def rows_p0A : List RegRow :=
  [R.CMD_STATUS, R.CQ0_BASE_LO, R.CQ0_BASE_HI, R.CQ0_PROD, R.CQ0_CONS, R.Q_CFG1, R.Q_CFG, R.Q_BASE_LO, R.Q_BASE_HI, R.Q_PROD, R.Q_CONS, R.Q_NOTIFY, R.Q_STATUS, R.Q_EVENT, R.Q_EVENT_EN, R.Q_DRAIN, R.Q_RATE, R.Q_DROP_CNT, R.Q_LATE_CNT, R.Q_WRITTEN, R.Q_HOLD_PEAK]

/-- The registers of page group p0B. -/
def rows_p0B : List RegRow :=
  [R.TEAM_STAGE, R.TEAM_GO, R.TEAM_RESULT, R.SUB_STAGE, R.SUB_GO, R.SUB_RESULT, R.SUB_SEL, R.SUB_INFO, R.MEMBER_SEL, R.MEMBER_UNDER_CNT, R.MEMBER_LATE_CNT, R.MEMBER_SILENT_CNT, R.TEAM, R.MEMBER]

/-- The registers of page group p0C. -/
def rows_p0C : List RegRow :=
  [R.SAP_CFG, R.SAP_STATUS, R.SAP_MASK_NEXT, R.SAP_MASK_CUR, R.SAP_MASK_FRAME, R.SAP_FRAME, R.SAP_START_LO, R.SAP_START_HI, R.SAP_MAP]

/-- The registers of page group p0D. -/
def rows_p0D : List RegRow :=
  [R.ASRC_STATUS, R.ASRC_RATIO, R.ASRC_DELAY, R.ASRC_DELAY_RX, R.ASRC_CFG]

/-- The registers of page group p0E. -/
def rows_p0E : List RegRow :=
  [R.ETH_CFG, R.ETH_STATUS, R.MAC_LO, R.MAC_HI, R.IP_ADDR, R.IP_MASK, R.IP_GW, R.ETH_VLAN, R.PTP_OFFSET, R.PEN_DEST_IP, R.PEN_PORT, R.PEN_CFG, R.PEN_SEQ, R.AES_CFG, R.AES_DEST_IP, R.AES_PORT, R.AES_SSRC, R.AES_MAP, R.AES_STATUS]

/-- The registers of page group p1A. -/
def rows_p1A : List RegRow :=
  [R.SHED_CFG, R.SHED_ACC_ADDR_LO, R.SHED_ACC_ADDR_HI, R.SHED_ACC_GO, R.SHED_ACC_RESULT, R.BAY_SEL, R.BAY_BASE_LO, R.BAY_BASE_HI, R.BAY_DEPTH, R.BAY_WR_LO, R.BAY_WR_HI, R.BAY_FILL, R.BW_SHED, R.BW_PCIE, R.BW_ETH, R.SHED_ACC_DATA, R.SHED_ECC_CFG, R.SHED_CE_CNT, R.SHED_UE_CNT, R.SHED_ECC_LAST_LO, R.SHED_ECC_LAST_HI, R.SHED_SCRUB_POS, R.SHED_SCRUB_PASS]

/-- The registers of page group p11. -/
def rows_p11 : List RegRow :=
  [R.WR_CTRL, R.WR_STATUS, R.WR_FOFS, R.WR_AGC_CFG, R.WR_AGC_STATUS, R.WR_EXT_LNA, R.WR_STEP_LAT, R.WR_CLIP_CNT, R.WR_FRZ_CLIP_CNT, R.WR_RSSI, R.WR_DC, R.WR_IRC, R.WR_CAL_STATUS, R.WR_CAL_LAST_TICK, R.WR_RX_DELAY, R.WR_TX_DELAY, R.WR_TX_PWR, R.WR_PA_CFG, R.WR_TX_LAST, R.WR_TX_LAST_TICK, R.WR_TX_LAST_AIR, R.WR_TX_CNT, R.WR_TX_LATE_CNT, R.WR_TX_REFUSE_CNT] ++
  [R.WR_TEST, R.WR_CAL_CNT]

/-- The registers of page group p13. -/
def rows_p13 : List RegRow :=
  [R.RL_ID, R.RL_BAND, R.RL_CHMASK, R.RL_SOFT_PWR, R.RL_SOFT_DUTY, R.RL_SOFT_CHMASK, R.RL_DUTY_USED, R.RL_DUTY_LEFT, R.RL_PRECHARGE]

/-- The registers of page group p12. -/
def rows_p12 : List RegRow :=
  [R.WL_CFG, R.WL_STATUS, R.WL_HUB_ADDR, R.WL_NET, R.WL_SLOT_CFG, R.WL_DL_MASK_NEXT, R.WL_HUB_MASK_NEXT, R.WL_DL_MASK_CUR, R.WL_HUB_MASK_CUR, R.WL_MASK_FRAME, R.WL_AFRAME, R.WL_BEACON, R.WL_FWD_CFG, R.WL_DET_CFG, R.WL_LOAD_CFG, R.WL_LANE_SF, R.WL_LANE_SF_NEXT, R.WL_LANE_SF_MAN, R.WL_NOISE, R.WL_AFC, R.WL_PEER_SEL, R.WL_PEER_INFO, R.WL_PEER_COUNT, R.WL_RX_OK] ++
  [R.WL_HDR_FAIL, R.WL_CRC_FAIL, R.WL_FALSE_START, R.WL_PREEMPT, R.WL_CAPTURE_LOST, R.WL_DET_BUSY, R.WL_BLANKED, R.WL_ACK_DROP, R.WL_FWD_DROP, R.WL_PEER_FULL, R.WL_ROUTE_PREFIX, R.WL_ROUTE_MASK, R.WL_ROUTE_NEXT, R.WL_ROUTE_VALID]

/-- The registers of page group p02. -/
def rows_p02 : List RegRow :=
  [R.SYN_CFG, R.SYN0_STATUS, R.SYN0_LOOP, R.SYN0_DISC, R.SYN0_Y, R.SYN0_Y_HOLD, R.SYN0_UNLOCK_CNT, R.SYN0_LAST_UNLOCK, R.SYN0_LAST_LOCK, R.SYN1_STATUS, R.SYN1_UNLOCK_CNT, R.SYN2_CFG, R.SYN2_STATUS, R.MCLK_CFG, R.CLKOUT_CFG, R.SYN2_UNLOCK_CNT, R.REF_SWITCH_CNT]

/-- The registers of page group p10. -/
def rows_p10 : List RegRow :=
  [R.TWB_CFG, R.TWB_ADDR, R.TWB_STATUS, R.TWB_PTR, R.TWB_TGT_CNT, R.TWB_ERR_CNT, R.TWB_ATTN, R.TWB_ATTN_STATUS, R.TWB_MST_CTL, R.TWB_MST_RESULT, R.TWB_ARB, R.TWB_CLEAR_CNT, R.TWB_MST_WDATA, R.TWB_MST_RDATA]

/-- The registers of page group p14. -/
def rows_p14 : List RegRow :=
  [R.CAL_CFG, R.CAL_STATUS, R.CAL_PEND_TICK, R.CAL_PEND_BLOCKS, R.CAL_APPLY_TICK, R.CAL_CNT, R.CAL_FAIL_CNT, R.CAL_TEMP]

/-- The registers of page group p16. -/
def rows_p16 : List RegRow :=
  [R.CHECK_CFG, R.CHECK_STATUS, R.CHECK_CNT, R.CHECK_MM_CNT, R.CHECK_VOID_CNT, R.CHECK_SKIP_CNT, R.CHECK_LAST, R.CHECK_LAST_TICK, R.CHECK_INCONCL_CNT]

/-- The registers of page group p15. -/
def rows_p15 : List RegRow :=
  [R.STE_CFG, R.STE_STATUS, R.STE_STAGE, R.STE_STAGE_COUNT, R.STE_GO, R.STE_RESULT, R.STE_LAST, R.STE_LAST_COUNT, R.STE_LAST_EXPECT, R.STE_LAST_SIG, R.STE_LAST_REF, R.STE_FAIL_ADDR, R.STE_FAIL_BIT, R.STE_LAST_TICK, R.STE_REGION_SEL, R.STE_REGION_INFO, R.STE_PASS_CNT, R.STE_FAIL_CNT, R.STE_ABORT_CNT, R.STE_YIELD_CNT, R.STE_REPAIR_CNT, R.STE_RETIRED_CNT, R.SRAM_CE_CNT, R.SRAM_UE_CNT] ++
  [R.SRAM_LAST, R.SRAM_LAST_ADDR, R.NOR_CORR_CNT, R.NOR_UE_CNT, R.NOR_LAST, R.NOR_REFRESH_CNT]

/-- The registers of page group p17. -/
def rows_p17 : List RegRow :=
  [R.UPD_CFG, R.UPD_STATUS, R.UPD_SV, R.UPD_OFFER_VER, R.UPD_RUN_VER, R.UPD_BLOCKS, R.UPD_DIGEST_LO, R.UPD_DIGEST_HI, R.UPD_STAGE, R.UPD_STAGE_EPOCH, R.UPD_STAGE_ADDR_LO, R.UPD_STAGE_ADDR_HI, R.UPD_GO, R.UPD_RESULT, R.UPD_HO_TICK, R.UPD_CHAIN_BASE_LO, R.UPD_CHAIN_BASE_HI, R.UPD_CHAIN_STATUS, R.UPD_CONFLICT_CNT, R.UPD_JOURNAL_SEQ]

/-- The registers of page group p18. -/
def rows_p18 : List RegRow :=
  [R.GRD_STATUS, R.GRD_CTRL, R.GRD_KEYS, R.GRD_OPEN_TICK, R.GRD_WINDOW_CNT, R.GRD_LONG_CNT, R.GRD_SEAL_OPEN_CNT, R.GRD_SEAL_FAIL_CNT, R.GRD_REFUSE_CNT]

/-- The registers of page group p19. -/
def rows_p19 : List RegRow :=
  [R.LB_CFG, R.LB_STATUS, R.LB_SEQ, R.LB_REC_TICK, R.LB_SEL, R.LB_DATA_LO, R.LB_DATA_HI]

/-- The registers of page group p1B. -/
def rows_p1B : List RegRow :=
  [R.PT_TEMP, R.PT_VCORE, R.PT_POWER, R.PT_ALERT, R.PT_STATUS]

/-- The registers of page group p1C. -/
def rows_p1C : List RegRow :=
  [R.GPIO_OUT, R.GPIO_OE, R.GPIO_IN, R.GPIO_EDGE]

/-- The registers of page group p0F. -/
def rows_p0F : List RegRow :=
  [R.SHED_WIN_BASE]

/-- The rows that can hold byte address `a`. -/
def rowsNear (a : Nat) : List RegRow :=
  match a / 4096 with
  | 0x00 => rows_hdr ++ rows_p00
  | 0x01 => rows_hdr ++ rows_p01
  | 0x02 => rows_hdr ++ rows_p02
  | 0x06 => rows_hdr ++ rows_p06
  | 0x07 => rows_hdr ++ rows_p07
  | 0x08 => rows_hdr ++ rows_p08
  | 0x09 => rows_hdr ++ rows_p09
  | 0x0A => rows_hdr ++ rows_p0A
  | 0x0B => rows_hdr ++ rows_p0B
  | 0x0C => rows_hdr ++ rows_p0C
  | 0x0D => rows_hdr ++ rows_p0D
  | 0x0E => rows_hdr ++ rows_p0E
  | 0x0F => rows_hdr ++ rows_p0F
  | 0x10 => rows_hdr ++ rows_p10
  | 0x11 => rows_hdr ++ rows_p11
  | 0x12 => rows_hdr ++ rows_p12
  | 0x13 => rows_hdr ++ rows_p13
  | 0x14 => rows_hdr ++ rows_p14
  | 0x15 => rows_hdr ++ rows_p15
  | 0x16 => rows_hdr ++ rows_p16
  | 0x17 => rows_hdr ++ rows_p17
  | 0x18 => rows_hdr ++ rows_p18
  | 0x19 => rows_hdr ++ rows_p19
  | 0x1A => rows_hdr ++ rows_p1A
  | 0x1B => rows_hdr ++ rows_p1B
  | 0x1C => rows_hdr ++ rows_p1C
  | 3 => rows_hdr ++ rows_rf
  | 4 => rows_hdr ++ rows_rf
  | 5 => rows_hdr ++ rows_rf
  | p =>
    if 0x20 ≤ p ∧ p < 0x30 then rows_stall
    else if 0x30 ≤ p ∧ p < 0x34 then rows_win
    else if 0x34 ≤ p ∧ p < 0x38 then rows_afw
    else if 0x100 ≤ p ∧ p < 0x140 then rows_chan
    else if 0x200 ≤ p ∧ p < 0x240 then rows_af
    else []

/-- The register at byte address `a`; `none` at a reserved page or offset (R16). -/
def findRow (a : Nat) : Option RegRow := (rowsNear a).find? (fun r => r.covers a)

/-- Reset values of single registers that differ from their row's: PG_ID carries its page number (R18), the routes
of R32, POWER of the RF pages (R96), the RFH values of R95; the class words of a stall read 0 until ST_CLASS names a class (R141). -/
def resetOf (a : Nat) : Option Nat :=
  match a with
  | 0x64 => some 0xBAAAA998
  | 0x68 => some 0x8CCCCCCC
  | 0x6C => some 0xFEEEDDDD
  | 0x70 => some 0x000E8CEF
  | 0x3008 => some 0x10000
  | 0x4008 => some 0x10000
  | 0x5008 => some 0x10000
  | 0x3064 => some 0x040F0036
  | 0x3068 => some 0x7F80
  | 0x3074 => some 0x5240
  | a =>
    if a % 4096 = 0 ∧ a < 0x1D000 then some (a / 4096 * 0x1000000)
    else if 0x20000 ≤ a ∧ a < 0x30000 ∧ 0x30 ≤ a % 256 ∧ a % 256 < 0x40 ∧ a % 4 = 0 then some 0
    else none

/-- What a register reads after reset. -/
def resetValue (a : Nat) : Word :=
  match resetOf a with
  | some v => BitVec.ofNat 32 v
  | none =>
    match findRow a with
    | some r => BitVec.ofNat 32 r.reset
    | none => 0

end Sys2Proof.Machine
end

