-- ==== Sys2Proof/Machine/Table.lean ====
section
/-! DEFINITION. Sparse tables: the register file, the Shed, the stalls and every other numbered collection of the
machine are lists of key and value pairs in one canonical form (keys strictly rising, no value equal to what the key
reads as when unlisted), so that equal contents are equal data. `d` is what an unlisted key reads as. -/

namespace Sys2Proof.Machine

/-- A table from keys to values. -/
abbrev Table (α : Type) := List (Nat × α)

/-- The value of key `k`; a listed key past `k` ends the search. -/
def Table.get {α : Type} (d : Nat → α) : Table α → Nat → α
  | [], k => d k
  | (k', v) :: r, k => if k < k' then d k else if k = k' then v else Table.get d r k

/-- Skip every entry whose key is at most `k`. -/
def Table.after {α : Type} (k : Nat) : Table α → Table α
  | [] => []
  | (k', v) :: r => if k' ≤ k then Table.after k r else (k', v) :: r

/-- Give key `k` the value `v`. -/
def Table.set {α : Type} [DecidableEq α] (d : Nat → α) : Table α → Nat → α → Table α
  | [], k, v => if v = d k then [] else [(k, v)]
  | (k', v') :: r, k, v =>
    if k < k' then (if v = d k then (k', v') :: r else (k, v) :: (k', v') :: r)
    else if k = k' then (if v = d k then Table.after k r else (k, v) :: Table.after k r)
    else (k', v') :: Table.set d r k v

/-- Key `k` lies above the bound `b`. -/
def Table.beyond : Option Nat → Nat → Bool
  | none, _ => true
  | some x, k => decide (x < k)

/-- Every key lies above `b`, the keys rise strictly, and no entry equals what its key reads as unlisted. -/
def Table.above {α : Type} [DecidableEq α] (d : Nat → α) : Option Nat → Table α → Bool
  | _, [] => true
  | b, (k, v) :: r =>
    Table.beyond b k && !decide (v = d k) && Table.above d (some k) r

/-- The canonical form. -/
def Table.wf {α : Type} [DecidableEq α] (d : Nat → α) (t : Table α) : Bool := Table.above d none t

end Sys2Proof.Machine
end

