-- ==== Sys2Proof/Machine/State.lean ====
section
/-! DEFINITION. The state of the FS2560 as plain data. `Core` holds everything the manual gives the device; `State` adds
the queue of waiting commands and the register image taken at the start of the current tick (R38), which host reads
are answered from. Registers whose value another part of the state fixes (track status, stall counts, summaries) are
read through `Machine/Read.lean`; every other register lives in `regs`. -/

namespace Sys2Proof.Machine

/-- Why a command stops the model: no command does. The manual gives every command of the table an effect, so this
constructor is raised by no meaning (safe). -/
inductive Fault where
  | unused
deriving DecidableEq, Repr

/-- Why a command is not run. `notModelled` stands only in the dispatch arms of rows without a meaning (safe). -/
inductive Refusal where
  | notModelled (mnemonic : String)
deriving DecidableEq, Repr

/-- What leaves the device in a tick: MSI-X messages, memory writes, read completions, frames and pin commands. -/
inductive Output where
  /-- An MSI-X message of a vector (R33, R247). -/
  | msix (vector : Nat)
  /-- A PCIe memory write of bytes at a bus address (R244). -/
  | hostWrite (addr : Nat) (bytes : List Byte)
  /-- A register read answered with a value (R38, R42). -/
  | readValue (port : Port) (addr : Nat) (value : Word)
  /-- A completion with status Unsupported Request (R41). -/
  | unsupportedRequest
  /-- Shed data returned through BAR2, poisoned or not (R43). -/
  | shedData (addr : Nat) (bytes : List Byte) (poisoned : Bool)
  /-- An AER report (R44). -/
  | aerReport
  /-- Bytes the two-wire target drives after an accepted command (R376). -/
  | twbData (bytes : List Byte)
  /-- The two-wire target's answer to a transfer: acknowledged or not (R377). -/
  | twbAck (ok : Bool)
  /-- A Host Notify message of the attention path (R381): data low byte and sequence number. -/
  | attention (host : Nat) (low seq : Nat)
  /-- A controller transfer on the two-wire bus (R382). -/
  | twbMaster (addr : Nat) (bytes : List Byte) (rlen : Nat)
  /-- An Ethernet frame of a kind: destination address, UDP ports (destination in the low half), DSCP, and its body; the tag of
  ETH_VLAN (R279, R280, R281). -/
  | ethernet (kind : EthKind) (dest ports : Word) (dscp : Nat) (vlan : Word) (bytes : List Byte)
  /-- The analogue gain command of an input, issued at an ADC sample of the tick (R86). -/
  | gainCommand (input setting sample : Nat)
  /-- The bits driven on SEAL_A by a check of the loop (R457). -/
  | sealBits (bits : Word)
  /-- A pin driven to a level. -/
  | pin (p : Pin) (level : Bool)
  /-- A PA ramp code (R305). -/
  | paRamp (code : Nat)
  /-- A frame's chips started on the air: lane, spreading factor and coded symbols (R326). -/
  | airFrame (lane sf : Nat) (symbols : List Nat)
deriving DecidableEq, Repr

/-- A posted register write that waits for the tick boundary (R38). -/
structure Posted where
  port : Port
  addr : Nat
  value : Word
deriving DecidableEq, Repr

/-- A write already applied at the present boundary (R47): port, address and the RW bits it set. -/
structure Applied where
  port : Port
  addr : Nat
  bits : Word
deriving DecidableEq, Repr

/-- The states of a track (R56), in TRK_STATUS order (R63). -/
inductive TrkState where
  | off | acquire | locked | coast | requal
deriving DecidableEq, Repr

/-- One Yard track (R51 to R61). Instants are in fine cycles; `start16` and `coast16` carry 16 fractional bits (R59). -/
structure Track where
  state : TrkState := .off
  /-- Accepted edges counted toward QUALIFY. -/
  qual : Nat := 0
  /-- The reference edge that the next edge is judged against. -/
  lastEdge : Option Nat := none
  /-- The last sign of life for the loss condition: an accepted edge or a filled mark. -/
  lossBase : Nat := 0
  /-- Accepted epoch lengths, newest first, at most 16. -/
  lens : List Nat := []
  /-- Current epoch number (48 bits). -/
  epoch : Nat := 0
  /-- Start of the current epoch. -/
  start16 : Nat := 0
  /-- Length of the last completed epoch, fine cycles. -/
  len : Nat := 0
  /-- Length that the running FREE or coasted epoch will have. -/
  plan16 : Nat := 0
  /-- The coasting length. -/
  coast16 : Nat := 0
  /-- Start of the last epoch that an accepted edge opened. -/
  openAt : Nat := 0
  /-- Epochs run without a reference, saturating at 0xFFFF. -/
  coastEpochs : Nat := 0
  /-- Whether epochs run on an internal grid (FREE, coasting, or a jump not yet complete). -/
  grid : Bool := false
  /-- A measured jump Δ that waits for the next coasted boundary. -/
  jump : Option Int := none
  /-- Phase units still to slew. -/
  slew : Int := 0
  /-- Units that the running epoch is slewed by. -/
  slewStep : Int := 0
  /-- The end of a STEP hold. -/
  holdEnd16 : Option Nat := none
  /-- The epoch armed by TRK_EPOCH_SET. -/
  armed : Option Nat := none
  /-- The current epoch may discipline SYN0 (R364). -/
  clean : Bool := false
  /-- Signed error of the last accepted edge, phase units. -/
  edgeErr : Int := 0
  /-- Δ of the last return. -/
  delta : Int := 0
deriving DecidableEq, Repr

/-- One timetable entry with its last contents (R65). `due` is the tick of an FS2560 action; `mark` is set when an
event of this tick makes the entry fire out of its own instant: `some true` fires LATE. -/
structure TTEntry where
  valid : Bool := false
  track : Nat := 0
  epoch : Nat := 0
  phase : Nat := 0
  action : Nat := 0
  pennant : Bool := false
  rept : Nat := 0
  target : Nat := 0
  value : Word := 0
  mask : Word := 0
  late : Bool := false
  failed : Bool := false
  due : Option Nat := none
  mark : Option Bool := none
deriving DecidableEq, Repr

/-- A record that a producer completed in this tick and that waits to be routed (R234, R240). `stall` tells a stall
source from a device source of the same number; `due` is its deadline (R75, R238) in ticks; `output` is the OUTPUT that
a DEADLINE pennant names; `queue` is set for records that follow a subscription or go to Q1. -/
structure Pennant where
  stamp : Nat
  typ : Nat
  source : Nat
  stall : Bool := true
  alert : Bool := false
  part : Bool := false
  more : Bool := false
  sub : Nat := 0
  payload : List Byte := []
  due : Option Nat := none
  output : Nat := 0
  queue : Option Nat := none
deriving DecidableEq, Repr

/-- A record in a queue's hold (R246): its 32 bytes without LATE and CRC, and what its deadline needs. -/
structure Held where
  entry : Pennant
  /-- It has waited for room, or for the link (R246). -/
  waited : Bool := false
  link : Bool := false
deriving DecidableEq, Repr

/-- Hidden state of one queue (R246, R247). -/
structure QState where
  hold : List Held := []
  /-- Entries made visible since the last NOTIFY set. -/
  fresh : Nat := 0
  /-- Tick in which the oldest of those became visible. -/
  oldest : Nat := 0
deriving DecidableEq, Repr

/-- A command fetched from the ring and not yet started (R251). -/
structure Fetched where
  bytes : List Byte
deriving DecidableEq, Repr

/-- What an AT_EFFECT completion awaits (R251, R254): the opcode and the stall, entry or block it names, and the result bytes known
at the execution tick. -/
structure Await where
  opcode : Nat
  key : Nat
  seq : Nat
  te : Nat
  result : List Byte := []
deriving DecidableEq, Repr


/-- One single-frequency detector (R118): the words in force since the last block start, and its runs of blocks. -/
structure DetRec where
  running : Bool := false
  cfg : Word := 0
  freq : Word := 0
  thr : Word := 0
  hits : Nat := 0
  misses : Nat := 0
deriving DecidableEq, Repr

/-- A pending gain step (R88, R91). `due` is fixed for NOW, AGC and overtaken steps; otherwise the track gives it. -/
structure RfStep where
  setting : Nat := 0
  track : Nat := 0
  epoch : Nat := 0
  phase : Nat := 0
  due : Option Nat := none
  agc : Bool := false
  late : Bool := false
  committed : Bool := false
  /-- Placed while the track had not locked. -/
  waiting : Bool := false
  /-- The sequence number of the STEP_ADD command that awaits the landing. -/
  seq : Option Nat := none
deriving DecidableEq, Repr

/-- Hidden state of one RF input (R83, R88 to R94). -/
structure RfRec where
  /-- Pending steps in placement order. -/
  steps : List RfStep := []
  /-- The tick in which a waking input becomes ready. -/
  wake : Option Nat := none
  /-- The tick of the last landing. -/
  landed : Nat := 0
  /-- Quiet windows since the last AGC landing, and whether the running window held a clip or a FAST step (R91). -/
  quiet : Nat := 0
  clips : Bool := false
  fast : Bool := false
  /-- An AGC decision that waits for the pending step: down, or up. -/
  want : Option Bool := none
  /-- The host's tone settings while calibration owns the tone (R94). -/
  tone : Option Word := none
deriving DecidableEq, Repr

/-- A pending opening or closing of the Stable (R131, R133): by tick (NOW) or by a track instant. -/
structure Sched where
  stall : Nat
  opens : Bool
  due : Option Nat := none
  track : Nat := 0
  epoch : Nat := 0
  phase : Nat := 0
deriving DecidableEq, Repr

/-- A stall move that has been placed (R144): source and target unit, placement tick, M, cause, the STATE before it and
its timetable entry. -/
structure Move where
  src : Nat
  tgt : Nat
  p : Nat
  m : Nat
  cause : Nat
  prior : Nat
  entry : Nat
deriving DecidableEq, Repr

/-- Hidden state of one stall. -/
structure StallRec where
  /-- The tick of a synchronising reset that is due. -/
  syncAt : Option Nat := none
  /-- T_r of the last synchronising reset. -/
  tr : Nat := 0
  /-- The last reset came from a CHAN soft reset, whose SETTLE run covers the bank history too (R126). -/
  deep : Bool := false
  /-- The tick in which the open fell due. -/
  openedAt : Option Nat := none
  /-- The tick in which the stall entered STOPPED or FAULT. -/
  stoppedAt : Nat := 0
  /-- The tick by which a CLOSING stall has drained (R133). -/
  drainBy : Option Nat := none
  /-- A move in progress. -/
  move : Option Move := none
  /-- The cause of a move that is to be placed (again), and the tick before which it is not (R144, R228). -/
  retry : Option Nat := none
  retryAt : Nat := 0
  /-- The unit left at the last FAULT (R146). -/
  faultUnit : Nat := 0
  /-- The gait that publishes until the stamp `gaitEdge`; 0: the gait of ST_PRESET alone publishes (R124). -/
  gaitOld : Nat := 0
  gaitEdge : Nat := 0
  /-- The window that an ended chain completed last: its tick of publication, end, gait, counted samples and PART (R124). -/
  lastWin : Option (Nat × Nat × Nat × Nat × Bool) := none
  /-- A sample of the current gait window saturated (R125). -/
  sat : Bool := false
  /-- The stamp up to which the FM measurements and the histogram were restarted (R169, R222). -/
  countFrom : Nat := 0
  /-- Output samples of the present chain that a scout produced before a hoist took the chain over (R222). -/
  base : Nat := 0
  /-- The stall's detectors (R118), by number. -/
  dets : Table DetRec := []
deriving DecidableEq, Repr

/-- The use of a physical unit (R142), in UNIT_INFO order: free, stall, checking, under test, retired. -/
structure UnitRec where
  use : Nat := 0
  stall : Nat := 0
deriving DecidableEq, Repr

/-- One RDS stream's block sync and partial group (R157, R158). -/
structure RdsStream where
  sync : Bool := false
  /-- Out of sync: bit indices and positions of the blocks of the last 26 bits whose syndrome matched an offset word. -/
  prev : List (Nat × Nat) := []
  /-- In sync: the bit index of the last block. -/
  last : Nat := 0
  /-- The position of the next block: 0 A, 1 B, 2 C, 3 D. -/
  pos : Nat := 0
  /-- A group has begun with its block A; its words with their statuses, oldest first. -/
  open_ : Bool := false
  words : List (Nat × Nat) := []
  corr : Nat := 0
  cprime : Bool := false
  /-- Consecutive UNCORRECTABLE or ERASED blocks. -/
  bad : Nat := 0
  /-- Group pennants since open. -/
  groups : Nat := 0
deriving DecidableEq, Repr

/-- A scout of Hoist (R215, R216, R217, R232). -/
structure Scout where
  /-- 0 free, 1 visit, 2 held for a hoist, 3 host measurement. -/
  use : Nat := 0
  stall : Nat := 0
  entry : Nat := 0
  ant : Nat := 0
  freq : Nat := 0
  /-- CANTER windows counted, the sum of their margins, the tick of the first and the stamp that the last one ended at. -/
  windows : Nat := 0
  sum : Int := 0
  since : Option Nat := none
  windowEnd : Nat := 0
  /-- The stream-0 decoder, the PI of the last group's block 1, and the identity check's result: 1 passed, 2 mismatch,
  3 timeout. -/
  rds : RdsStream := {}
  pi : Option Nat := none
  ident : Nat := 0
  /-- T_r of the scout's chain. -/
  tr : Nat := 0
deriving DecidableEq, Repr

/-- A subscription (R271). -/
structure Sub where
  valid : Bool := false
  kind : Nat := 0
  srcKind : Nat := 0
  source : Nat := 0
  sel : Nat := 0
  queue : Nat := 0
deriving DecidableEq, Repr

/-- Hidden state of a member place (R268, R269): its counters, whether its stream has begun, and the last instant it
presented. -/
structure MemberRec where
  under : Nat := 0
  late : Nat := 0
  silent : Nat := 0
  begun : Bool := false
  last : Nat := 0
  /-- Tick in which the present underrun began. -/
  since : Nat := 0
deriving DecidableEq, Repr

/-- Hidden state of a bay (R259 to R263). -/
structure BayRec where
  /-- Blocks closed since open, or bytes written (frame bays). -/
  written : Nat := 0
  /-- Samples of the present chain that lie in closed blocks. -/
  done : Nat := 0
  /-- The stamp that continues the last closed block. -/
  next : Option Nat := none
  /-- The next block is the first after an open or a synchronising reset. -/
  fresh : Bool := false
deriving DecidableEq, Repr


/-- Hidden state of the FM engine of one stall (R157 to R161). -/
structure FmRec where
  streams : Table RdsStream := []
  /-- The last values received: PI, PTY with TP, TA; and whether PTY and TP are accepted. -/
  piLast : Option Nat := none
  ptyLast : Option Nat := none
  taLast : Option Nat := none
  ptyKnown : Bool := false
  taKnown : Bool := false
  pty : Nat := 0
  /-- PS segments: characters and times received identically since the last PS change; the accepted PS. -/
  segs : Table (Nat × Nat) := []
  ps : Nat := 0
  psKnown : Bool := false
  /-- WALK windows counted toward the MPX power, at most 60. -/
  mpxWindows : Nat := 0
  /-- Stamp before which a histogram period has been discarded (R169). -/
  histFrom : Nat := 0
  /-- Head of the AF list in progress and whether it is a method B list (R212). -/
  afHead : Option Nat := none
  afB : Bool := false
deriving DecidableEq, Repr

/-- Hidden state of the AM engine of one stall (R166, R167). -/
structure AmRec where
  bad : Nat := 0
  units : Nat := 0
  /-- The kind of the last clean block out of sync. -/
  prev : Option Nat := none
deriving DecidableEq, Repr


/-- Hidden state of the DAB engine of one stall (R176 to R184). -/
structure DabRec where
  /-- Consecutive frames without a phase-reference pass, in COARSE or while the engine holds FRAME or ENSEMBLE. -/
  miss : Nat := 0
  /-- Phase-reference passes in COARSE, at most 2: in frames spaced 196 608 ± 2 samples; the last one's null symbol. -/
  passes : Nat := 0
  null : Nat := 0
  fig00 : Bool := false
  /-- Subchannels organised, and those that the services name. -/
  subs : Table (Option SubCh) := []
  named : List Nat := []
  /-- Frames since the last new SubChId. -/
  settled : Nat := 0
  /-- CIFs begun since FRAME was entered, and that count when a subchannel's organisation began. -/
  cifs : Nat := 0
  begun : Table Nat := []
  /-- An announced configuration and the CIF count at which it applies; the services of the next configuration. -/
  next : Option (Nat × List (Nat × SubCh)) := none
  nextSvc : List (Word × List SvcComp) := []
  /-- Frame numbers by subchannel since open, those already started since sync, and those whose next frame carries
  RECONF. -/
  seqs : Table Nat := []
  started : List Nat := []
  changed : List Nat := []
  /-- The last 64 FIGs emitted of each type and extension, newest first. -/
  figs : List (Nat × List Byte) := []
  /-- FIBs of the present transmission frame. -/
  fic : List Byte := []
  /-- What the present FIC says of alarms: the Al flag, an announcement with the Alarm bit, one without it. -/
  ficAl : Bool := false
  ficAlarm : Bool := false
  ficClear : Bool := false
  /-- Tick of the last FIG 0/19 with the Alarm bit, and what the ALARM pennant carries. -/
  alarmAt : Nat := 0
  alarm : List Byte := []
  /-- The engine left ENSEMBLE in the present TII window. -/
  tiiBroken : Bool := true
deriving DecidableEq, Repr

/-- Hidden state of the DRM engine of one stall (R186 to R188). -/
structure DrmRec where
  facPass : Nat := 0
  facFail : Nat := 0
  refMiss : Nat := 0
  /-- An SDC has passed its CRC since FAC was entered. -/
  sdcOk : Bool := false
  seqs : Table Nat := []
  started : List Nat := []
  frames : Nat := 0
  lastMode : Nat := 7
  /-- The streams that the SDC describes. -/
  streams : List Nat := []
  /-- A decode was admitted under the present mismatch (R188). -/
  held : Bool := false
deriving DecidableEq, Repr

/-- Hidden state of the timecode engine of one stall (R191, R192). -/
structure TcRec where
  /-- The last edges in SEARCH, or the last mark or predicted mark. -/
  edges : List Nat := []
  mark : Nat := 0
  miss : Nat := 0
  /-- The last decoded minute and the run of VALID minutes. -/
  minute : Option Nat := none
  run : Nat := 0
deriving DecidableEq, Repr

/-- Hidden state of a decode of the listening set (R196, R198, R224). -/
structure DecodeRec where
  /-- The stall whose hoist added the decode. -/
  owner : Option Nat := none
  /-- Consecutive frames concealed. -/
  bad : Nat := 0
  /-- A frame was concealed since the last CANTER window of the hoist that it carries (R228). -/
  concealed : Bool := false
  /-- Stamp that follows the last PCM sample decoded. -/
  last : Nat := 0
  /-- The frames of DRM mode E counted, to pair halves of an audio superframe (R197). -/
  half : Bool := false
deriving DecidableEq, Repr

/-- Hidden state of one candidate entry of a stall (R213 to R218). -/
structure CandRec where
  /-- Consecutive CANTER windows in which the qualifying condition held, and in which LOSS qualifying held. -/
  qual : Nat := 0
  lossQual : Nat := 0
  /-- Tick of the last visit's end. -/
  visited : Option Nat := none
  /-- Tick of the last confirmation of an automatic entry. -/
  confirmed : Nat := 0
  /-- Tick at which a bar ends. -/
  barEnd : Option Nat := none
deriving DecidableEq, Repr

/-- Hidden state of Hoist on one stall (R218 to R227). -/
structure HoistRec where
  /-- Windows in a row with the current margin below SEEK_THR, at or above SEEK_THR + HYST, below LOSS_THR, and with the
  candidate in ALIGN below current. -/
  below : Nat := 0
  above : Nat := 0
  loss : Nat := 0
  lost : Nat := 0
  /-- The same for the RETURN candidate: windows with its condition met, and with LOSS qualifying. -/
  ret : Nat := 0
  retLoss : Nat := 0
  /-- The hoist in progress: KIND of R208, 0 none. -/
  kind : Nat := 0
  /-- HS_STATUS.STATE before ALIGN. -/
  prior : Nat := 0
  /-- Correlation windows that failed in this ALIGN, and whether every one failed the RMS test alone. -/
  tries : Nat := 0
  silent : Bool := true
  /-- Alignment has passed and the switch waits for a timetable entry or for the end of a stall move (R222, R228). -/
  passed : Bool := false
  /-- H of a placed switch, and of the last hoist. -/
  h : Option Nat := none
  /-- Δ, OFS_new, ρ × 256 and the gain of the alignment that passed. -/
  delta : Int := 0
  ofsNew : Int := 0
  rho : Nat := 0
  gain : Int := 0
  rescue : Bool := false
  /-- Margins when ALIGN began. -/
  oldMargin : Int := 0
  newMargin : Int := 0
  /-- The source before the hoist: frequency or SId, and DAB stall. -/
  oldSource : Nat := 0
  oldStall : Nat := 255
  /-- Tick at which HOLD ends. -/
  holdEnd : Option Nat := none
  /-- Tick of the end of the fade of a RETURN, after which its decode is dropped. -/
  fadeEnd : Option Nat := none
  /-- The DAB stall and SId of the decode that carries the stream. -/
  linkStall : Nat := 0
  linkSid : Nat := 0
  /-- Hidden state of the candidate entries. -/
  cands : Table CandRec := []
deriving DecidableEq, Repr


/-- Hidden state of a serial audio port (R274, R276): the Yard instant of the frame at which a pending mask applies, and that
at which a stopped port stops. -/
structure SapRec where
  maskAt : Option Nat := none
  stopAt : Option Nat := none
deriving DecidableEq, Repr

/-- Hidden state of an AES67 stream (R280, R284): RTP sequence number, the timestamp that continues the last packet, and
whether the present outage has been reported. -/
structure AesRec where
  seq : Nat := 0
  next : Option Nat := none
  lost : Bool := false
deriving DecidableEq, Repr

/-- Hidden state of the PTP servo (R279): consecutive good and bad Sync messages and the tick of the last. -/
structure PtpRec where
  good : Nat := 0
  bad : Nat := 0
  last : Nat := 0
deriving DecidableEq, Repr

/-- A transmit request (R308) with the frame that it carries. Origins: 0 host, 1 ACK, 2 beacon, 3 forward, 4 WR_TEST. -/
structure TxReq where
  band : Nat := 0
  chan : Nat := 0
  /-- Wanted first chip, end of the air slot and frame duration, fine cycles. -/
  x1 : Nat := 0
  slotEnd : Nat := 0
  fd : Nat := 0
  pwr : Nat := 0
  origin : Nat := 4
  lane : Nat := 0
  sf : Nat := 6
  len : Nat := 0
  typ : Nat := 0
  flags : Nat := 0
  tag : Nat := 0
  dst : Nat := 0
  payload : List Byte := []
  /-- The initial value of HCRC. -/
  init : Nat := 0
  /-- Command: its opcode, SEQ and the number that its AT_EFFECT completion awaits. -/
  opcode : Nat := 0
  seq : Nat := 0
  id : Nat := 0
  /-- It has been placed a second time (R338). -/
  again : Bool := false
  /-- The run that carries it starts no earlier (R337, R347). -/
  after : Nat := 0
  /-- The first air slot, counted from epoch 0, whose run may carry it (R347); its SF follows the lane table until it is submitted. -/
  fromSlot : Nat := 0
  byTable : Bool := false
  /-- It came while another request was committed (R308). -/
  queued : Bool := false
deriving DecidableEq, Repr

/-- The committed request: its first chip and marks, and whether its airtime has been charged. -/
structure Commit where
  req : TxReq
  x1 : Nat
  held : Bool := false
  shifted : Bool := false
  chcal : Bool := false
  charged : Bool := false
deriving DecidableEq, Repr

/-- Hidden state of the Wamelon radio (R292 to R315). Instants are in fine cycles. -/
structure RadioRec where
  requests : List TxReq := []
  commit : Option Commit := none
  /-- The end of the calibration in progress; whether it is the repeat; a calibration that starts at the next tick. -/
  calEnd : Option Nat := none
  calAgain : Bool := false
  calNext : Bool := false
  /-- A host channel change that waits to be taken. -/
  change : Bool := false
  /-- The end of the last chip, while its turn-round runs. -/
  ended : Option Nat := none
  /-- Pin transitions still to come. -/
  pins : List (Nat × Pin × Bool) := []
  /-- A pending gain step: tick of landing, G and LNA_BYP; blocks in a row below the upper threshold. -/
  gain : Option (Nat × Nat × Bool) := none
  quiet : Nat := 0
  /-- The AGC holds LNA_BYP asserted (R302). -/
  byp : Bool := false
  /-- ε and φ of R296. -/
  eps : BitVec 18 := 0
  phi : BitVec 18 := 0
  /-- Background calibration values that wait, and since which tick; whether BGCAL_WAIT has been set for them. -/
  fresh : Option BgVals := none
  freshAt : Nat := 0
  warned : Bool := false
  /-- PWRFAIL_N has been asserted: no request is taken (R315). -/
  powerLost : Bool := false
  /-- Airtime charged: band, one more than the number of the bucket (0: the boot charge), fine cycles. -/
  duty : List (Nat × Nat × Nat) := []
deriving DecidableEq, Repr

/-- One detector instance (R329): 0 SEARCH, 1 PREAMBLE, 2 LOCKED; whether BLANK samples ended its frame; whether it preempted
another frame; the instant of its frame-start mark. -/
structure Detector where
  st : Nat := 0
  blanked : Bool := false
  preempting : Bool := false
  mark : Nat := 0
deriving DecidableEq, Repr

/-- A run in progress (R334): direction, start, end less GUARD, and the number of its first air slot. -/
structure Run where
  hub : Bool
  start : Nat
  slotEnd : Nat
  slot : Nat
deriving DecidableEq, Repr

/-- Hidden state of the Wamelon link (R332 to R344). -/
structure LinkRec where
  tag : Nat := 0
  ids : Nat := 0
  /-- Numbers of the last air slot and air frame begun. -/
  slot : Option Nat := none
  frame : Option Nat := none
  run : Option Run := none
  /-- The air frame whose beacon has been submitted. -/
  beaconed : Option Nat := none
  /-- A request of the link is with the radio. -/
  busy : Bool := false
  acks : List TxReq := []
  sends : List TxReq := []
  relays : List TxReq := []
  /-- Tick from which a pending mask may apply. -/
  maskFrom : Nat := 0
  /-- Consecutive computations with a lower candidate SF, by lane (R340). -/
  lower : Table Nat := []
  /-- The last 64 noise windows of each lane, and the lanes whose present window is spoilt (R339). -/
  noise : Table (List Int) := []
  spoilt : Nat := 0xFF
  /-- Carrier offsets of the present air frame, and a WR_FOFS that waits to be written (R342). -/
  offsets : List Int := []
  fofs : Option Int := none
  /-- The duplicate cache of R344: ORIG_SRC, ORIG_TAG and tick, newest first. -/
  cache : List (Nat × Nat × Nat) := []
deriving DecidableEq, Repr

/-- An entry of the peer table (R343, R351). STATE: 0 EMPTY, 1 KNOWN, 2 ACTIVE, 3 LOST. -/
structure PeerRec where
  addr : Word := 0
  st : Nat := 0
  lane : Nat := 0
  sf : Nat := 6
  ref : Bool := false
  pending : Option (Nat × Nat) := none
  rssi : BitVec 16 := 0
  snr : BitVec 16 := 0
  cfo : BitVec 16 := 0
  tagRx : Nat := 0
  tagTx : Nat := 0
  heard : Nat := 0
  heardFrame : Nat := 0
  heardSlot : Nat := 0
  rx : Nat := 0
  fail : Nat := 0
deriving DecidableEq, Repr


/-- Hidden state of the synthesizers (R359, R366, R367): the tick in which SYN1, SYN2 and the RF pages follow an unlock of SYN0, the
grid instant at which a written MCLK_CFG takes effect, the MCLK_CFG in force, the tick of the last unlock and the tick in which HOLD
began (R464). -/
structure SynRec where
  follow : Option Nat := none
  mclkAt : Option Nat := none
  mclk : Word := 0x22
  lostAt : Nat := 0
  holdAt : Option Nat := none
deriving DecidableEq, Repr

/-- Hidden state of the two-wire bus (R374, R381, R382): the settings of TWB_CFG and TWB_ADDR replaced so far, newest first, with the
tick of the write; failed attempts of the pending attention message and the tick of the next; the peripheral transfer that waits:
address, MST_PEC, write bytes, RLEN. -/
structure TwbRec where
  was : List (Nat × Word × Word) := []
  tries : Nat := 0
  retryAt : Option Nat := none
  mst : Option (Nat × Bool × List Byte × Nat) := none
deriving DecidableEq, Repr



/-- A pair of units under test after a mismatch (R420): former unit, checking unit, stall and the results so far. -/
structure Trial where
  former : Nat
  checker : Nat
  stall : Nat
  formerOk : Option Bool := none
  checkerOk : Option Bool := none
deriving DecidableEq, Repr

/-- Hidden state of the checking stall (R417 to R421). -/
structure CheckRec where
  /-- First tick of the check that runs, and whether its copy has been taken. -/
  p : Nat := 0
  copied : Bool := false
  /-- The stall last checked. -/
  after : Nat := 255
  /-- Stalls to be checked first in the next second (R420, R430). -/
  again : List Nat := []
  /-- The next bin (0 to 383, RFVA then RFVB) and whether the last check of it mismatched. -/
  bin : Nat := 0
  twice : Bool := false
  input : Nat := 0
  trials : List Trial := []
  /-- INCONCLUSIVE results by unit: the ticks of the last ones. -/
  inconcl : Table (List Nat) := []
  /-- Stalls whose mismatch found no unit free for the move; RESYNC after the move (R420). -/
  waiting : List Nat := []
  resync : List Nat := []
deriving DecidableEq, Repr

/-- A calibration correction that waits for its named tick (R405): the blocks and the values; `power` marks the power-up results. -/
structure CalPend where
  tick : Nat
  mask : Nat
  data : CalData
  power : Bool := false
deriving DecidableEq, Repr

/-- Hidden state of calibration (R404, R406): by block, the tick of the last calibration since the input turned ON, the temperature then
(plus 32 768), the tick of a retry, and the blocks to be calibrated at once. -/
structure CalRec where
  last : Table (Option Nat) := []
  temps : Table Nat := []
  retry : Table (Option Nat) := []
  again : Nat := 0
deriving DecidableEq, Repr

/-- Hidden state of start-up (R394, R396): the source of the last reset in the order of R394 and its SEQ_ERR, what holds the device in
reset, the tick of a 0xC3 written to DEV_RESET, and what BRING_UP has done. -/
structure StartRec where
  cause : Nat := 0
  seqErr : Bool := false
  pinLow : Bool := false
  hot : Bool := false
  rails : Bool := false
  key : Option Nat := none
  fuses : Bool := false
  tested : Bool := false
  profiled : Bool := false
deriving DecidableEq, Repr

/-- A Logbook record (R465). `sums` and `pads` are in µs, by band; `ue`: its NOR sectors hold an uncorrectable error. -/
structure LogRec where
  seq : Nat
  kind : Nat
  time : Nat
  boots : Nat
  sums : List Nat
  pads : List Nat
  counts : Table Nat
  bins : Table Nat
  ue : Bool := false
deriving DecidableEq, Repr

/-- A record that is being written (R466, R468): the tick at whose start it is complete, whether the NOR write succeeds, and
the source of a reset that waits for it. -/
structure LogJob where
  kind : Nat
  due : Nat
  nor : Bool
  entry : LogRec
  reset : Option Nat := none
deriving DecidableEq, Repr

/-- A copy of the boot record (R398). -/
structure BootCopy where
  seq : Nat := 0
  slot : Nat := 0
  trial : Bool := false
  attempts : Nat := 0
  good : Bool := true
deriving DecidableEq, Repr

/-- A firmware slot (R437): its header and payload blocks by number; `factory` marks the image that the device leaves the factory with
(log entry 3). -/
structure Slot where
  factory : Bool := false
  header : List Byte := []
  blocks : Table (List Byte) := []
  ue : Bool := false
deriving DecidableEq, Repr

/-- A journal record (R440). -/
structure Journal where
  seq : Nat
  digest : List Byte
  sources : Nat
  written : List Nat
deriving DecidableEq, Repr

/-- A profile copy (R453): sequence number, BOOT and the records. -/
structure Profile where
  seq : Nat
  boot : Bool
  writes : List (Nat × Word)
  good : Bool := true
deriving DecidableEq, Repr

/-- The fuse bank (R397): life-cycle state, thermometer count, key digests by slot, revoked slots, and the words of the Regulatory
Lock. -/
structure Fuses where
  lc : Nat := 0
  sv : Nat := 0
  keys : Table (List Byte) := []
  revoked : Nat := 0
  lock : List Word := [0, 0, 0, 0, 0]
deriving DecidableEq, Repr

/-- What the NOR and the fuses hold across resets (R395). -/
structure Nv where
  /-- Logbook records, newest first, and bad blocks. -/
  records : List LogRec := []
  badBlocks : Nat := 0
  /-- The boot record's copies, the slots and the newest journal record. -/
  copies : List BootCopy := [{}, {}]
  slots : List Slot := [{ factory := true }, {}]
  journal : Option Journal := none
  journals : Nat := 0
  /-- Profile copies, by 2 × profile + copy. -/
  profiles : Table (Option Profile) := []
  updCfg : Word := 0xA01
  /-- The field calibration record and its sequence number. -/
  field : Option (Nat × CalData) := none
  fieldSeq : Nat := 0
  fuses : Fuses := {}
deriving DecidableEq, Repr

/-- Hidden state of the Guard (R455 to R458): the tick of a counted fall; the tick of an initial low that still lasts; whether a level
has been counted; the window's last tick; the window at the start of this tick; the seal's sequence, failing and passing checks in a row
and the tick of the last check. -/
structure GuardRec where
  fell : Option Nat := none
  initial : Option Nat := none
  seen : Bool := false
  closeAt : Option Nat := none
  openAtStart : Bool := false
  prbs : BitVec 31 := 0
  fails : Nat := 0
  passes : Nat := 0
  sealTick : Option Nat := none
  /-- Secrets derived from the fuses are held (R436, R454). -/
  secrets : Bool := false
deriving DecidableEq, Repr

/-- The claim of the inactive slot (R439, R440): IMAGE_DIGEST, header, slot and written blocks. -/
structure Claim where
  digest : List Byte
  header : List Byte
  slot : Nat
  written : List Nat := []
deriving DecidableEq, Repr

/-- Hidden state of the firmware update (R439 to R451). -/
structure UpdRec where
  claim : Option Claim := none
  /-- The pending offer: its header and its source (1 HOST, 2 CHAIN). -/
  offer : Option (List Byte × Nat) := none
  /-- The tick of the last block of a bound source. -/
  lastBlock : Nat := 0
  /-- The register path asked for the verification that runs. -/
  verify : Bool := false
  /-- The activation: the track and epoch of B, whether the register path asked for it, whether the TRIAL record is written, whether B
  resets (R450). -/
  track : Nat := 0
  epoch : Nat := 0
  activate : Bool := false
  loaded : Bool := false
  /-- The slot whose image runs. -/
  run : Nat := 0
  resets : Bool := false
  /-- B in full, and the tick in which the image sets HB_OK. -/
  b : Option Nat := none
  hb : Option Nat := none
  hbAt : Option Nat := none
  /-- The tick of HB_OK, from which CONFIRM_S counts. -/
  hbTick : Nat := 0
  /-- The standby loads an image; a swap for self-test waits for an epoch. -/
  reload : Bool := false
  swap : Bool := false
  /-- Re-reads by upstream block, and the tick since which every read has failed. -/
  rereads : Table Nat := []
  failing : Option Nat := none
  /-- An image is published (R443). -/
  published : Bool := false
deriving DecidableEq, Repr

/-- A run of the self-test engine (R424 to R426): region, KIND, programmed count, host run, the STE_RUN command's SEQ with AT_EFFECT,
the slice index, consecutive yields of the slice, and cut short. -/
structure SteRun where
  region : Nat
  kind : Nat
  count : Nat
  host : Bool
  seq : Option Nat := none
  slice : Nat := 0
  yields : Nat := 0
  cut : Bool := false
  /-- The slice has taken a free unit. -/
  took : Bool := false
  began : Nat := 0
deriving DecidableEq, Repr

/-- Hidden state of the self-test engine (R429): the run, the rotation's place, the tick from which its next slice may start, and the tick
of each region's last PASS. -/
structure SteRec where
  run : Option SteRun := none
  place : Nat := 0
  nextAt : Nat := 0
  passAt : Table (Option Nat) := []
  /-- Internal scan is enabled, or the key-holding partition has latched FAULT (R436). -/
  scan : Bool := false
  keyFault : Bool := false
deriving DecidableEq, Repr


/-- The contents of the Shed (R258): byte cells in canonical form; an unlisted byte reads 0 (log entry 5). -/
abbrev Memory := List Host.Cell

/-- What an unlisted byte of the Shed reads as: the Shed is initialised to 0 at start-up (R395, R396). -/
def unlistedByte (_ : Nat) : Byte := 0

/-- The canonical form of the Shed's cells. -/
def Memory.wf (m : Memory) : Bool := Table.wf unlistedByte m

/-- Everything the manual gives the device. -/
structure Core where
  /-- The number of the current tick (R49); Yard time at its start is 48 · now. -/
  now : Nat := 0
  /-- Yard time runs: SYN0 has locked since the last device reset (R48). -/
  yardRuns : Bool := false
  /-- Registers, by byte address (R14), unlisted at their reset value. -/
  regs : Table Word := []
  /-- The model's counter of open values drawn (log entry 2). -/
  drawn : Nat := 0
  /-- What left the device in the current tick. -/
  out : List Output := []
  /-- Event bits that hardware set in the current tick, by register address (R9: a set wins over a clear). -/
  hwSet : Table Word := []
  /-- Posted writes not yet applied (R38). -/
  posted : List Posted := []
  /-- Writes applied at the present boundary (R47). -/
  applied : List Applied := []
  /-- GO words that execute in the next tick, by register address (R66). -/
  goLatch : Table (Option Word) := []
  /-- EOI bits written in the current tick (R33). -/
  eoi : Word := 0
  /-- Values that frozen pages and stall slots hold, by register address (R19). -/
  frozen : List (Nat × Word) := []
  /-- PG_CHECK as captured at lock, by page (R25). -/
  captured : Table Word := []
  /-- The PCIe link is up. -/
  linkUp : Bool := false
  /-- MSI-X and bus mastering are enabled (R497). -/
  busMaster : Bool := false
  /-- Vectors whose MSI-X table entry is unmasked, by vector. -/
  unmasked : Table Bool := []
  /-- The MSI-X pending-bit array, by vector (R497). -/
  vecPend : Table Bool := []
  /-- A re-enable of R497 happened in this tick: every vector, or the vectors named. -/
  again : List MsixChange := []
  /-- The BAR2 window is 2^bar2Log bytes (R40). -/
  bar2Log : Nat := 34
  /-- The four tracks, by number. -/
  tracks : Table Track := []
  /-- The timetable, by entry. -/
  tt : Table TTEntry := []
  /-- Records completed in this tick, in production order (R245). -/
  made : List Pennant := []
  /-- Hidden state of the queues, by number. -/
  queues : Table QState := []
  /-- Commands fetched and not started (R251). -/
  fetched : List Fetched := []
  /-- Sequence numbers of commands in flight, oldest first (R251). -/
  inflight : List Nat := []
  /-- Completions that await an effect (R251). -/
  awaits : List Await := []
  /-- Queues whose vector a Q_CONS write of this tick re-arms (R247). -/
  rearm : List Nat := []
  /-- Vector 0 falls due: a fetch from a command ring that was full (R247). -/
  ringWasFull : Bool := false
  /-- The Shed (R258). -/
  shed : Memory := []
  /-- 8-byte Shed words that hold an uncorrectable error (R413, R435), by word address. -/
  shedBad : Table Bool := []
  /-- 8-byte Shed words that hold a single-bit error, by word address. -/
  shedCe : Table Bool := []
  /-- Hidden state of the stalls, by number. -/
  stalls : Table StallRec := []
  /-- Pending openings and closings in placement order (R131). -/
  sched : List Sched := []
  /-- The physical units, by number (R142). -/
  units : Table UnitRec := []
  /-- The checking stall is suspended (R143). -/
  checkSuspended : Bool := false
  /-- The scouts, by number. -/
  scouts : Table Scout := []
  /-- The subscriptions, by index. -/
  subs : Table Sub := []
  /-- Hidden state of the member places, by number. -/
  members : Table MemberRec := []
  /-- Open blocks: stall bay 2n, MPX bay 2n + 1, decode 512 + d, member ring 1024 + m, port input 2048 + p. -/
  bays : Table BayRec := []
  /-- The rate and width divisors of the last trained PCIe link: MB/s of R282; 0 until it first trains. -/
  pcieCap : Nat := 0
  /-- Pennants that wait in the UDP stream's datagram, and the tick of the first (R281). -/
  penStream : List (List Byte) := []
  penSince : Nat := 0
  /-- Uses that wait for a unit until its stall releases it: 3 under test, 4 retired (R146). -/
  unitNext : List (Nat × Nat) := []
  /-- Hidden state of the RF inputs: 0 RFH, 1 RFVA, 2 RFVB. -/
  rfs : Table RfRec := []
  /-- Hidden state of the engines, by stall. -/
  fm : Table FmRec := []
  am : Table AmRec := []
  dab : Table DabRec := []
  drm : Table DrmRec := []
  tc : Table TcRec := []
  /-- Hidden state of the checking stall. -/
  check : CheckRec := {}
  /-- Hidden state of the decodes, by index. -/
  decs : Table DecodeRec := []
  /-- Hidden state of Hoist, by stall. -/
  hoists : Table HoistRec := []
  /-- The tick in which a host measurement's result is due is not fixed; whether one runs, and on which scout (R232). -/
  measScout : Option Nat := none
  /-- The visit last counted as starved (R215). -/
  starved : Option (Nat × Nat) := none
  /-- Hidden state of the serial audio ports, the AES67 streams and the PTP servo. -/
  saps : Table SapRec := []
  aess : Table AesRec := []
  ptp : PtpRec := {}
  /-- The pennant stream's present outage has been reported (R284). -/
  penLost : Bool := false
  /-- Regions of the self-test engine that are repaired (2) or retired (3), by number (R423, R427). -/
  regions : Table Nat := []
  /-- Hidden state of the Wamelon radio, its detectors by instance, the link and the peer table. -/
  radio : RadioRec := {}
  detectors : Table Detector := []
  link : LinkRec := {}
  peers : Table PeerRec := []
  /-- Hidden state of the synthesizers. -/
  syn : SynRec := {}
  /-- Hidden state of the two-wire bus. -/
  twb : TwbRec := {}
  /-- Pending corrections in the order of their naming (R405), and hidden state of calibration and start-up. -/
  calPend : List CalPend := []
  cal : CalRec := {}
  start : StartRec := {}
  /-- The Logbook's live counters by index, its histogram bins by 64 × histogram + bin (R463, R464), and the records being written, in order. -/
  counts : Table Nat := []
  bins : Table Nat := []
  logJobs : List LogJob := []
  /-- What the NOR and the fuses hold. -/
  nv : Nv := {}
  /-- Hidden state of the Guard, the update and the self-test engine. -/
  guard : GuardRec := {}
  upd : UpdRec := {}
  ste : SteRec := {}
  /-- PT_ALERT as it stood when the present 1024-tick window began (R480, R495). -/
  alertWord : Word := 0x564
  /-- Pages whose soft reset was written, with the tick of the write (R19). -/
  resets : List (Nat × Nat) := []
  /-- PG_CTRL and ST_CTRL words, by address, whose FREEZE rose in this tick (R19, R27). -/
  freezing : List Nat := []
  /-- BAR0 reads that wait for the writes received before them (R42). -/
  pcieReads : List Nat := []
deriving DecidableEq, Repr

/-- How far the current tick has come (R69): events arrive, then host writes and commands apply, then what has fallen due
and the queue notifications. -/
inductive TickPhase where
  | events | writes | schedule
deriving DecidableEq, Repr

/-- The machine: the queue of commands that wait, first in first out, the device, the device as it stood at the start of
the current tick, and how far the tick has come. -/
structure State where
  pending : List Instr := []
  core : Core := {}
  image : Core := {}
  phase : TickPhase := .events
deriving DecidableEq, Repr

/-- The device right after power-on reset (R394, R395): every register at its reset value, STAGE 0x0, nothing open,
nothing queued, Yard time not running. -/
def State.reset : State := {}

end Sys2Proof.Machine
end

