-- ==== Sys2Proof/Machine/Ops.lean ====
section
/-! DEFINITION. The named operations over registers, counters, events, records and the Shed that every command's meaning
is built from. -/

namespace Sys2Proof.Machine

/-! ### Registers -/

/-- The register at byte address `a` (R14). -/
def Core.reg (c : Core) (a : Nat) : Word := Table.get resetValue c.regs a

/-- `c` with register `a` holding `v`. -/
def Core.setReg (c : Core) (a : Nat) (v : Word) : Core := { c with regs := Table.set resetValue c.regs a v }

/-- The `n`-bit field at bit `lo` of register `a`. -/
def Core.fld (c : Core) (a lo n : Nat) : Nat := fieldOf (c.reg a) lo n

/-- `c` with that field set to `v`. -/
def Core.setFld (c : Core) (a lo n v : Nat) : Core := c.setReg a (putField (c.reg a) lo n v)

/-- `c` with register `a` holding the number `v`. -/
def Core.setNat (c : Core) (a v : Nat) : Core := c.setReg a (BitVec.ofNat 32 v)

/-- A saturating 32-bit counter register advanced by `k`. -/
def Core.bumpBy (c : Core) (a k : Nat) : Core := c.setNat a (satAdd 32 (c.reg a).toNat k)

/-- A saturating 32-bit counter register advanced by one. -/
def Core.bump (c : Core) (a : Nat) : Core := c.bumpBy a 1

/-- A saturating counter field advanced by one. -/
def Core.bumpFld (c : Core) (a lo n : Nat) : Core := c.setFld a lo n (satAdd n (c.fld a lo n) 1)

/-- A counter field advanced by one, modulo its width (SEQ fields). -/
def Core.wrapFld (c : Core) (a lo n : Nat) : Core := c.setFld a lo n (c.fld a lo n + 1)

/-- A 64-bit value kept in two registers, the low word at `a`, the high word at `b`. -/
def Core.setPair (c : Core) (a b v : Nat) : Core := (c.setNat a v).setNat b (v / 2 ^ 32)

/-- The low 32 bits of a tick number into a TICK register. -/
def Core.stampTick (c : Core) (a : Nat) : Core := c.setNat a c.now

/-! ### Addresses -/

/-- The row indices of byte address `a`, an element of `r`. -/
def RegRow.index (r : RegRow) (a : Nat) : Nat × Nat :=
  let d := a - r.base
  let i := if r.s1 = 0 then 0 else d / r.s1
  let e := if r.s1 = 0 then d else d % r.s1
  (i, if r.s2 = 0 then 0 else e / r.s2)

/-- Where the register of byte address `a` has its home: the windows show the stall selected in `sel` (R115, R199, R231); the listening set
stands once behind all four (R199). -/
def Core.home (sel : Core) (a : Nat) : Nat :=
  let p := a / 4096
  let o := a % 4096
  if 0x30 ≤ p ∧ p < 0x34 then
    (if o < 8 then a else if o < 0x400 then 0x100000 + 0x400 * sel.fld (R.WIN_SEL.at (p - 0x30)) 0 8 + o else 0x30000 + o)
  else if 0x34 ≤ p ∧ p < 0x38 then
    (if o < 8 then a else if o < 0x400 then 0x200000 + 0x400 * sel.fld (R.AFW_SEL.at (p - 0x34)) 0 8 + o else 0x34000 + 0xFFF)
  else a

/-- The row of a host address, none for a reserved one (R16). -/
def Core.rowAt (sel : Core) (a : Nat) : Option RegRow := if a < 0x100000 ∧ a % 4 = 0 then findRow (sel.home a) else none

/-! ### Open values and outputs -/

/-- A fresh open 32-bit value, and the device with the counter of open values advanced (log entry 2). -/
def Core.draw (c : Core) : Word × Core := (Config.freeWord c.drawn, { c with drawn := c.drawn + 1 })

/-- `c` with one more output in this tick. -/
def Core.put (c : Core) (o : Output) : Core := { c with out := c.out ++ [o] }

/-! ### Events (R9, R22, R29, R46) -/

/-- Hardware sets event bits of a W1C register: they stay set against a clear of the same tick (R9). -/
def Core.hwFlags (c : Core) (a : Nat) (bits : Word) : Core :=
  let c1 := c.setReg a (c.reg a ||| bits)
  { c1 with hwSet := Table.set (fun _ => 0) c1.hwSet a (Table.get (fun _ => 0) c1.hwSet a ||| bits) }

/-- One bit as a word. -/
def bit (b : Nat) : Word := BitVec.ofNat 32 (2 ^ b)

/-- Event `b` of page `p` (R22). -/
def Core.event (c : Core) (p b : Nat) : Core := c.hwFlags (R.PG_EVENT.at p) (bit b)

/-- Event `b` of stall `n` (R29). -/
def Core.stEvent (c : Core) (n b : Nat) : Core := c.hwFlags (R.ST_EVENT.at n) (bit b)

/-- Event `b` of queue `q` (R248). -/
def Core.qEvent (c : Core) (q b : Nat) : Core := c.hwFlags (R.Q_EVENT.at q) (bit b)

/-- A write to page `p` is refused (R22). -/
def Core.refusePage (c : Core) (p : Nat) : Core × Bool := (c.event p 31, false)

/-- A write to stall slot `n` is refused (R29). -/
def Core.refuseStall (c : Core) (n : Nat) : Core × Bool := (c.stEvent n 31, false)

/-- The port code of HOST_ERR_ADDR (R31, R46). -/
def portCode : Port → Nat
  | .hrp => 0 | .pcie => 1 | .twb => 2 | .command => 3 | .profile => 3 | .action => 3

/-- Host access error `b` at address `a` (R46): the flag, HOST_ACCESS at its rise, and the capture of the first error
since every flag was clear. -/
def Core.hostErr (c : Core) (port : Port) (a b : Nat) : Core :=
  let e := R.HOST_ERR.at
  let rise := !bitOf (c.reg e) b
  let c1 := if c.reg e = 0 then
      c.setNat R.HOST_ERR_ADDR.at (a % 2 ^ 20 + portCode port * 2 ^ 28 + 2 ^ 31) else c
  let c2 := c1.hwFlags e (bit b)
  if rise then c2.event 0 0 else c2

/-! ### The Logbook's counters (R463, R464) -/

/-- Counter `i` of the Logbook advanced by `k`: 64 bits, saturating. -/
def Core.tally (c : Core) (i : Nat) (k : Nat := 1) : Core :=
  { c with counts := Table.set (fun _ => 0) c.counts i (satAdd 64 (Table.get (fun _ => 0) c.counts i) k) }

/-- One more in bin `b` of histogram `h`: 32 bits, saturating. -/
def Core.tallyBin (c : Core) (h b : Nat) : Core :=
  { c with bins := Table.set (fun _ => 0) c.bins (64 * h + b) (satAdd 32 (Table.get (fun _ => 0) c.bins (64 * h + b)) 1) }

/-- The bin of a quantity whose bins double from `base` on, the last one being `top`. -/
def doublingBin (base top x : Nat) : Nat := if x < base then 0 else min top (Nat.log2 (x / base) + 1)

/-! ### Records (R234) -/

/-- A producer completes a record in this tick. -/
def Core.emit (c : Core) (p : Pennant) : Core := { c with made := c.made ++ [p] }

/-- Yard time at the start of the current tick. -/
def Core.time (c : Core) : Nat := 48 * c.now

/-- A record of a device source, stamped with the start of the tick (R237). -/
def Core.deviceRecord (c : Core) (typ source sub : Nat) (payload : List Byte) : Pennant :=
  { stamp := c.time, typ := typ, source := source, stall := false, sub := sub, payload := payload }

/-- Fine cycles in `ms` milliseconds (R13). -/
def fineMs (ms : Nat) : Nat := 49152 * ms

/-- A pennant of stall `n` with a deadline of `ms` after its stamp (R75, R238). -/
def stallPennant (n typ stamp ms sub : Nat) (payload : List Byte) : Pennant :=
  { stamp := stamp, typ := typ, source := n, sub := sub, payload := payload, due := some (stamp + fineMs ms) }

/-- A missed deadline of a record of stall `n` (R78): the events, the counter, DL_LAST and one DEADLINE pennant. -/
def Core.deadlineMiss (c : Core) (n : Nat) (isStall : Bool) (output cause typ queue stamp : Nat) (dropped : Bool)
    (lateTicks : Nat) : Core :=
  let c1 := if isStall then c.stEvent n 5 else c
  let c2 := (c1.event 1 18).bump R.DL_MISS_CNT.at
  let c3 := c2.setNat R.DL_LAST.at (cause % 16 + n % 256 * 2 ^ 8 + output % 16 * 2 ^ 16)
  let c4 := ((c3.bump R.PN_DL_CNT.at).tally 16).tallyBin 6 (doublingBin 16 19 lateTicks)
  c4.emit { stamp := c.time, typ := 0x29, source := n, stall := isStall, sub := output,
            payload := leBytes 1 cause ++ leBytes 1 typ ++ leBytes 1 (b2n dropped) ++ leBytes 1 queue ++
              leBytes 8 stamp ++ leBytes 4 (min lateTicks 0xFFFFFFFF) }

/-! ### The Shed (R258) -/

/-- The byte at Shed address `a`. -/
def Core.shedByte (c : Core) (a : Nat) : Byte := Table.get unlistedByte c.shed a

/-- The `n` bytes from Shed address `a`. -/
def Core.shedRead (c : Core) (a : Nat) : Nat → List Byte
  | 0 => []
  | n + 1 => c.shedByte a :: Core.shedRead c (a + 1) n

/-- A memory with bytes stored from address `a` up. -/
def Memory.store (m : Memory) (a : Nat) : List Byte → Memory
  | [] => m
  | b :: r => Memory.store (Table.set unlistedByte m a b) (a + 1) r

/-- `c` with bytes stored in the Shed from address `a`; the stored words hold good ECC again (R413). -/
def Core.shedWrite (c : Core) (a : Nat) (l : List Byte) : Core :=
  { c with shed := Memory.store c.shed a l,
           shedBad := c.shedBad.filter (fun e => !(decide (a / 8 ≤ e.1) && decide (e.1 ≤ (a + l.length - 1) / 8))),
           shedCe := c.shedCe.filter (fun e => !(decide (a / 8 ≤ e.1) && decide (e.1 ≤ (a + l.length - 1) / 8))) }

/-! ### Register writes (R9, R24, R46, R47, R400, R496) -/

/-- What a write of `v` leaves in a register of row `r` that held `cur`, when no rule refuses it: RW and RWL bits from
`v`, W1C bits cleared unless hardware set them in this tick, W1S bits set. -/
def RegRow.merge (r : RegRow) (hw cur v : Word) : Word :=
  let w := BitVec.ofNat 32 (r.rw ||| r.rwl)
  let w1c := BitVec.ofNat 32 r.w1c
  let w1s := BitVec.ofNat 32 r.w1s
  (((cur &&& ~~~ w) ||| (v &&& w)) &&& ~~~ (v &&& w1c &&& ~~~ hw)) ||| (v &&& w1s)

/-- The plain handler: store what `merge` leaves. -/
def plainWrite (r : RegRow) (a : Nat) (c : Core) (v : Word) : Core × Bool :=
  (c.setReg a (r.merge (Table.get (fun _ => 0) c.hwSet a) (c.reg a) v), true)

/-- The start-up stage (R396). -/
def Core.stage (c : Core) : Nat := c.fld R.BOOT_STATUS.at 0 4

/-- DEVICE.PG_STATUS.READY (R402). -/
def Core.ready (c : Core) : Bool := bitOf (c.reg (R.PG_STATUS.at 0)) 0

/-- PG_LOCK.LOCK of page `p` (R24). -/
def Core.locked (c : Core) (p : Nat) : Bool := bitOf (c.reg (R.PG_LOCK.at p)) 0

/-- Whether a write from a host port to page `p` is discarded because the device is not READY (R400). -/
def Core.bootBlocks (c : Core) (port : Port) (p : Nat) : Bool :=
  !c.ready && decide (p ≠ 0) && decide (p ≠ 0x17) && decide (p ≠ 0x19) &&
    (match port with | .hrp => true | .pcie => true | .twb => true | _ => false)

/-- The rank of a port among writes of one tick (R47, R252, R401); scheduled actions apply after all of them. -/
def portRank : Port → Nat
  | .hrp => 0 | .pcie => 1 | .twb => 2 | .profile => 3 | .command => 4 | .action => 5

/-- The RW bits of register `a` that a higher-ranked port has already written in this tick (R47). -/
def Core.takenBits (c : Core) (port : Port) (a : Nat) : Word :=
  if port = .action then 0 else
  c.applied.foldl (fun m x => if x.addr = a ∧ portRank x.port < portRank port then m ||| x.bits else m) 0

/-- The block of page `p` is being reset: its page was soft-reset in this tick or in the tick before, and what else targets the block
is discarded (R19, R69). -/
def Core.inReset (c : Core) (p : Nat) : Bool := c.yardRuns && c.resets.any (fun e => decide (e.2 = p))

/-- A write of the bits `mask` of `v` to register `a` of row `r` from a port, judged by the boot rule (R400), a running reset (R69),
same-tick collisions (R47), the page lock (R24) and then the register's own handler. Unmasked RW bits keep what stands; unmasked
W1C, W1S and WO bits are written 0 (R68). `host` is the address that the port gave, where it differs from the register's home. The flag
tells whether all of it was taken. -/
def Core.maskedWrite (c : Core) (port : Port) (r : RegRow) (a : Nat) (v mask : Word)
    (handler : Core → Word → Core × Bool) (host : Nat := a) : Core × Bool :=
  let p := a / 4096
  if c.bootBlocks port p then (c.event 0 2, false)
  else if c.inReset p then (c, true)
  else
    let cur := c.reg a
    let store := BitVec.ofNat 32 (r.rw ||| r.rwl)
    let mine := store &&& mask
    let v0 := (v &&& mask) ||| (cur &&& store &&& ~~~ mask)
    let lost := c.takenBits port a &&& mine
    let c1 := if lost = 0 then c else (c.hostErr port host 3).bump R.HOST_WCOL_CNT.at
    let v1 := (v0 &&& ~~~ lost) ||| (cur &&& lost)
    let held := if c.locked p then BitVec.ofNat 32 r.rwl else 0
    let v2 := (v1 &&& ~~~ held) ||| (cur &&& held)
    let broke := decide (v1 &&& held ≠ cur &&& held)
    let c2 := if broke then c1.event p 31 else c1
    let d := handler { c2 with applied := c2.applied ++ [⟨port, a, mine⟩] } v2
    (d.1, d.2 && !broke && decide (lost = 0))

/-- A write of all of `v`. -/
def Core.hostWrite (c : Core) (port : Port) (r : RegRow) (a : Nat) (v : Word)
    (handler : Core → Word → Core × Bool) (host : Nat := a) : Core × Bool :=
  c.maskedWrite port r a v (BitVec.allOnes 32) handler host

/-! ### Command completions (R251, R253) -/

/-- One COMPLETION record into Q1: status, table, execution tick and result bytes 20 to 29. -/
def Core.complete (c : Core) (opcode seq status table te : Nat) (result : List Byte) : Core :=
  c.emit { stamp := c.time, typ := 0x70, source := 0, stall := false, sub := opcode, queue := some 1,
           payload := leBytes 2 seq ++ leBytes 1 status ++ leBytes 1 table ++ leBytes 4 te ++ result.take 10 }

/-- The completion of a command at its execution tick. With AT_EFFECT and status OK it waits for the effect `key` names
(R251); otherwise it is made at once. -/
def Core.finish (c : Core) (h : CmdHead) (opcode status table key : Nat) (result : List Byte) : Core :=
  if h.atEffect && decide (status = 0) then { c with awaits := c.awaits ++ [⟨opcode, key, h.seq, c.now, result⟩] }
  else c.complete opcode h.seq status table c.now result

/-- The effect of an opcode on `key` has come about: every completion that awaits it is made. The effect's own bytes stand in
front of the result bytes known at the execution tick (log entry 35). -/
def Core.effectDone (c : Core) (opcode key table status : Nat) (result : List Byte) : Core :=
  let hit := c.awaits.filter (fun w => decide (w.opcode = opcode ∧ w.key = key))
  let rest := c.awaits.filter (fun w => !decide (w.opcode = opcode ∧ w.key = key))
  hit.foldl (fun d w =>
    d.complete opcode w.seq status table w.te (if status = 0 then result ++ w.result.drop result.length else result))
    { c with awaits := rest }

/-- Commands executed before READY complete with ABORTED (R400). -/
def Core.command (c : Core) (h : CmdHead) (opcode : Nat) (f : Core → Core) : Core :=
  if c.ready then f c else c.complete opcode h.seq 8 0 c.now []

/-- A command that writes the registers `addrs` (R252): when a port has written one of them in this tick, the port's value
stands, the lost write is counted and captured (R46, R47), and the command completes with COLLIDE without acting (log
entry 24). -/
def Core.writes (c : Core) (h : CmdHead) (opcode : Nat) (addrs : List Nat) (f : Core → Core) : Core :=
  let lost := addrs.filter (fun a => decide (c.takenBits .command a ≠ 0))
  if lost.isEmpty then f c
  else (lost.foldl (fun d a => (d.hostErr .command a 3).bump R.HOST_WCOL_CNT.at) c).complete opcode h.seq 6 0 c.now []

/-! ### The machine -/

/-- An effect on the machine. -/
abbrev Act := State → Host.Outcome State Fault Refusal

/-- A command whose meaning changes the device alone. -/
def State.run (s : State) (f : Core → Core) : Host.Outcome State Fault Refusal := .next { s with core := f s.core }

/-- PG_CTRL.ENABLE of page `p` (R19): a stopped block takes part in no event. -/
def Core.enabled (c : Core) (p : Nat) : Bool := bitOf (c.reg (R.PG_CTRL.at p)) 0

/-- The image that host reads are answered from (R38): the device at the start of the tick, or as it stands while Yard time does not
run. -/
def State.view (s : State) : Core := if s.core.yardRuns then s.image else s.core

/-- The block of page `p` takes part in what happens: it is enabled, and it is not being reset (R19, R69). -/
def State.runs (s : State) (p : Nat) : Bool := s.view.enabled p && !s.core.inReset p

/-- An event of the block on page `p`: nothing happens while the block is stopped, from the tick after the write that stopped it, or is
being reset. -/
def State.act (s : State) (p : Nat) (f : Core → Core) : Host.Outcome State Fault Refusal :=
  s.run (fun c => if s.runs p then f c else c)

/-- A register-write command. -/
def State.write (s : State) (port : Port) (r : RegRow) (a : Nat) (v : Word) (handler : Core → Word → Core × Bool) (host : Nat := a) :
    Host.Outcome State Fault Refusal :=
  s.run (fun c => (c.hostWrite port r a v handler host).1)

end Sys2Proof.Machine
end

