-- ==== Sys2Proof/Machine/Chain.lean ====
section
/-! DEFINITION. What a stall's class and preset fix: input, bins, NCO word, delays and settle length (R72, R98 to R112,
R127). Delays are fine cycles; `g4` counts quarter cycles. -/

namespace Sys2Proof.Machine

/-- The classes of R127. -/
def clsFm : Nat := 1
def clsAm : Nat := 2
def clsDab : Nat := 3
def clsDrm : Nat := 4
def clsDrmPlus : Nat := 5
def clsTime : Nat := 6
def clsIq : Nat := 7

/-- One configuration of a fine chain: VHF input, output period P, G in quarter cycles, L_proc, FIR taps, and the sample
period at L times the FIR input rate (0 without a FIR). -/
structure ChainCfg where
  vhf : Bool
  p : Nat
  g4 : Nat
  lproc : Nat
  taps : Nat
  firStep : Nat
  cicR : Nat
  hb1 : Bool
  hb2 : Bool
  l3 : Bool
  firD : Nat
  k1 : Nat := 0
  k2 : Nat := 0
deriving DecidableEq, Repr

/-- The chain of a demodulating class (R109, R110). -/
def classChain (cls : Nat) : Option ChainCfg :=
  match cls with
  | 1 => some ⟨true, 128, 11392, 2808, 128, 32, 2, true, true, true, 4, 0, 0⟩
  | 2 => some ⟨false, 1024, 148219, 13080, 128, 512, 0, true, true, false, 2, 0, 0⟩
  | 3 => some ⟨true, 24, 4824, 1648, 64, 24, 1, true, false, false, 1, 0, 0⟩
  | 4 => some ⟨false, 1024, 148219, 13080, 128, 512, 0, true, true, false, 2, 0, 0⟩
  | 5 => some ⟨true, 256, 22880, 5932, 128, 64, 4, true, true, true, 4, 0, 0⟩
  | 6 => some ⟨false, 6144, 884219, 78772, 128, 3072, 0, true, true, false, 2, 6, 1⟩
  | _ => none

/-- The chain of an IQ-tap preset (R112). -/
def iqChain (code : Nat) : Option ChainCfg :=
  match code with
  | 0x00 => some ⟨true, 12, 0, 192, 0, 0, 1, false, false, false, 1, 0, 0⟩
  | 0x01 => some ⟨true, 24, 3552, 384, 64, 24, 1, true, false, false, 1, 0, 0⟩
  | 0x02 => some ⟨true, 48, 7200, 768, 64, 48, 2, true, false, false, 1, 0, 0⟩
  | 0x03 => some ⟨true, 96, 15360, 1536, 64, 96, 2, true, true, false, 1, 0, 0⟩
  | 0x04 => some ⟨true, 128, 11392, 2048, 128, 32, 2, true, true, true, 4, 0, 0⟩
  | 0x05 => some ⟨true, 192, 30816, 3072, 64, 192, 4, true, true, false, 1, 0, 0⟩
  | 0x06 => some ⟨true, 256, 22880, 4096, 128, 64, 4, true, true, true, 4, 0, 0⟩
  | 0x07 => some ⟨true, 384, 61728, 6144, 64, 384, 8, true, true, false, 1, 0, 0⟩
  | 0x08 => some ⟨true, 768, 123552, 12288, 64, 768, 16, true, true, false, 1, 0, 0⟩
  | 0x10 => some ⟨false, 128, 17403, 2048, 64, 128, 0, false, false, false, 1, 0, 0⟩
  | 0x11 => some ⟨false, 256, 39163, 4096, 64, 256, 0, true, false, false, 1, 0, 0⟩
  | 0x12 => some ⟨false, 512, 82683, 8192, 64, 512, 0, true, true, false, 1, 0, 0⟩
  | 0x13 => some ⟨false, 1024, 148219, 16384, 128, 512, 0, true, true, false, 2, 0, 0⟩
  | 0x14 => some ⟨false, 2048, 164347, 32768, 64, 1024, 0, true, true, false, 2, 2, 1⟩
  | 0x15 => some ⟨false, 4096, 327675, 65536, 64, 2048, 0, true, true, false, 2, 4, 1⟩
  | 0x16 => some ⟨false, 8192, 654331, 131072, 64, 4096, 0, true, true, false, 2, 8, 1⟩
  | 0x17 => some ⟨false, 16384, 1307643, 262144, 64, 8192, 0, true, true, false, 2, 8, 2⟩
  | 0x18 => some ⟨false, 32768, 2614267, 524288, 64, 16384, 0, true, true, false, 2, 8, 4⟩
  | _ => none

/-- G in quarter cycles with a host set of `taps` in place of the ROM set (R112). -/
def ChainCfg.withTaps (c : ChainCfg) (taps : Nat) : ChainCfg :=
  if c.firStep = 0 then c
  else { c with g4 := c.g4 - 2 * (c.taps - 1) * c.firStep + 2 * (taps - 1) * c.firStep, taps := taps }

/-- D = ⌈G / P⌉ (R111). -/
def ChainCfg.settle (c : ChainCfg) : Nat := (c.g4 + 4 * c.p - 1) / (4 * c.p)

/-- The bank delay B (R110). -/
def ChainCfg.bank (c : ChainCfg) : Nat := if c.vhf then 144 else 0

/-- F = B + G + L_proc to the nearest fine cycle (R110). -/
def ChainCfg.filt (c : ChainCfg) : Nat := (4 * (c.bank + c.lproc) + c.g4 + 2) / 4

/-- The class of stall `n`. -/
def Core.cls (c : Core) (n : Nat) : Nat := c.fld (R.ST_CLASS.at n) 0 4

/-- ST_STATUS.STATE of stall `n` (R28). -/
def Core.stState (c : Core) (n : Nat) : Nat := c.fld (R.ST_STATUS.at n) 0 4

/-- ST_PRESET.IQ of stall `n`. -/
def Core.iqCode (c : Core) (n : Nat) : Nat := c.fld (R.ST_PRESET.at n) 8 5

/-- The chain that class `cls` and preset `iq` give, with stall `n`'s host set where one is selected (R112, R114). -/
def Core.chainOf (c : Core) (n cls iq : Nat) : Option ChainCfg :=
  if cls = clsIq then
    let taps := c.fld (R.FIR_CTL.at n) 0 8
    (iqChain iq).map (fun g => if c.fld (R.FIR_CTL.at n) 12 1 = 1 ∧ 16 ≤ taps then g.withTaps taps else g)
  else classChain cls

/-- The chain of stall `n` as it is configured. -/
def Core.chain (c : Core) (n : Nat) : Option ChainCfg := c.chainOf n (c.cls n) (c.iqCode n)

/-- Whether class `cls` with preset `iq` draws on VHF. -/
def drawsVhf (cls iq : Nat) : Bool :=
  decide (cls = clsFm) || decide (cls = clsDab) || decide (cls = clsDrmPlus) ||
    (decide (cls = clsIq) && decide (iq < 0x10))

/-- The ST_FREQ range of a class (R127), Hz. -/
def freqRange (cls iq : Nat) : Nat × Nat :=
  match cls with
  | 1 => (64000000, 108000000)
  | 2 => (100000, 30000000)
  | 3 => (47000000, 250000000)
  | 4 => (100000, 30000000)
  | 5 => (47000000, 250000000)
  | 6 => (40000, 80000)
  | 7 => if iq < 0x10 then (47000000, 250000000) else (40000, 30000000)
  | _ => (1, 0)

/-- Load units of a class (R127). -/
def classUnits (cls : Nat) : Nat :=
  match cls with | 1 => 2 | 2 => 1 | 3 => 12 | 4 => 6 | 5 => 8 | 6 => 1 | 7 => 2 | _ => 0

/-- Count limit of a class (R127). -/
def classLimit (cls : Nat) : Nat :=
  match cls with | 1 => 256 | 2 => 256 | 3 => 40 | 4 => 32 | 5 => 32 | 6 => 8 | 7 => 64 | _ => 0

/-- The bin nearest to `f` Hz; a frequency halfway takes the lower (R98). -/
def nearestBin (f : Nat) : Nat := (f + 1024000 - 1) / 2048000

/-- The lower bin and whether a pair is drawn (R98, R99). -/
def binsOf (cls f : Nat) : Nat × Bool :=
  let k := nearestBin f
  if cls = clsDab ∧ 768000 < ((f : Int) - (k * 2048000 : Int)).natAbs then (f / 2048000, true) else (k, false)

/-- Bin centre or pair midpoint, Hz (R98, R99). -/
def centreOf (cls f : Nat) : Nat :=
  let b := binsOf cls f
  if b.2 then b.1 * 2048000 + 1024000 else b.1 * 2048000

/-- The NCO word W (R103), nearest with halves up (the manual's round). -/
def ncoWord (vhf : Bool) (cls f : Nat) : Nat :=
  if vhf then codeOf 32 ((2 * ((f : Int) - centreOf cls f) * (2 ^ 32 : Nat) + 4096000) / (2 * 4096000))
  else ((2 * f * 2 ^ 32 + 98304000) / (2 * 98304000)) % 2 ^ 32

/-- The RF page a stall draws on: RFH, or by antenna (R136); MRC takes both VHF inputs and counts as RFVA. -/
def rfIndex (vhf : Bool) (mode : Nat) : Nat := if vhf then (if mode = 1 then 2 else 1) else 0

/-- A of R71 for stall `n`: ANA_DELAY of the input it draws on; in MRC that of RFVA (log entry 14). -/
def Core.anaDelay (c : Core) (n : Nat) : Nat :=
  (c.reg (R.ANA_DELAY.at (rfIndex (drawsVhf (c.cls n) (c.iqCode n)) (c.fld (R.ST_ANT.at n) 0 2)))).toNat

end Sys2Proof.Machine
end

