-- ==== Sys2Proof/Machine/Yard.lean ====
section
/-! DEFINITION. The Yard: tracks (R48 to R63), the timetable (R65 to R68) and SYN0 disciplining by a track (R363 to
R365). Instants are fine cycles; names ending in 16 carry 16 fractional bits. -/

namespace Sys2Proof.Machine

/-! ### Tracks -/

/-- Track `k`. -/
def Core.track (c : Core) (k : Nat) : Track := Table.get (fun _ => {}) c.tracks k

/-- `c` with track `k` replaced. -/
def Core.setTrack (c : Core) (k : Nat) (t : Track) : Core := { c with tracks := Table.set (fun _ => {}) c.tracks k t }

/-- TRK_CFG.SRC of track `k` (R51). -/
def Core.trkSrc (c : Core) (k : Nat) : Nat := c.fld (R.TRK_CFG.at k) 0 3

/-- TRK_CFG.QUALIFY. -/
def Core.trkQualify (c : Core) (k : Nat) : Nat := c.fld (R.TRK_CFG.at k) 16 4

/-- The running mean of the accepted epoch lengths (R51), 16 fractional bits; 0 while none exists. -/
def Track.mean16 (t : Track) : Nat := if t.lens.length = 0 then 0 else t.lens.sum * 65536 / t.lens.length

/-- The length that phase counts against: the planned length of a grid or slewed epoch, else the last completed length (R58, R60). -/
def Track.length16 (t : Track) : Nat := if t.grid ∨ t.slew ≠ 0 then t.plan16 else t.len * 65536

/-- The track has epochs (R53). -/
def Track.hasEpochs (t : Track) : Bool := match t.state with | .locked | .coast | .requal => true | _ => false

/-- The phase at Yard time `x` (R58): saturating at 0xFFFF, held there during a STEP hold (R60). -/
def Track.phaseAt (t : Track) (x : Nat) : Nat :=
  if t.holdEnd16.isSome then 0xFFFF
  else if t.length16 = 0 then 0
  else min 0xFFFF ((x * 65536 - t.start16) * 65536 / t.length16)

/-- The instant of phase `p` of the current epoch. -/
def Track.phaseInstant16 (t : Track) (p : Nat) : Nat := t.start16 + (p * t.length16 + 65535) / 65536

/-- The reference interval of a source without accepted lengths: its nominal epoch (R51, R363). -/
def nominalEpoch (src : Nat) : Nat := if src = 4 then 4718592 else 49152000

/-- Whole epochs between the last accepted edge and an edge `d` later (R51): 1 but for DAB and LF. -/
def epochsSpanned (src d mean16 : Nat) : Nat :=
  if src = 4 ∨ src = 5 then
    max 1 (roundDiv (d * 65536) (if mean16 = 0 then nominalEpoch src * 65536 else mean16))
  else 1

/-- The acceptance windows of R51 for an edge `d` fine cycles after the last accepted edge. -/
def Track.windowTakes (t : Track) (src d : Nat) (servo : Bool) : Bool :=
  let m := t.mean16
  let n := epochsSpanned src d m
  let err := (d * 65536 : Int) - (n * m : Int)
  match src with
  | 1 => decide (688128 ≤ d) && decide (d ≤ 1179648) &&
      (decide (t.state ≠ .locked) || decide (m = 0) || decide (20 * err.natAbs ≤ m))
  | 2 => decide (49127424 ≤ d) && decide (d ≤ 49176576)
  | 3 => servo
  | 4 =>
    if t.state = .locked then decide (err.natAbs ≤ 6442450)
    else
      let k := max 1 (roundDiv d 4718592)
      decide (k * 471810048 ≤ 100 * d) && decide (100 * d ≤ k * 471908352)
  | 5 =>
    if t.lens.isEmpty then
      let k := roundDiv d 49152000
      (decide (k = 1) || decide (k = 2)) && decide (((d : Int) - (k * 49152000 : Int)).natAbs ≤ 98304)
    else decide (err.natAbs ≤ 98304 * 65536)
  | _ => false

/-- An accepted edge `x` enters the track's books: reference, lengths (at most 16) and edge error. -/
def Track.take (t : Track) (src x : Nat) : Track :=
  match t.lastEdge with
  | none => { t with lastEdge := some x, lossBase := x }
  | some e =>
    let d := x - e
    let m := t.mean16
    let n := epochsSpanned src d m
    let err : Int := if m = 0 then 0 else ((d * 65536 : Int) - (n * m : Int)) * 65536 / (m : Int)
    { t with lastEdge := some x, lossBase := x, lens := (roundDiv d n :: t.lens).take 16,
             edgeErr := if t.hasEpochs then satInt 16 err else t.edgeErr }

/-- Mark timetable entries of track `k` to fire in this tick: `f` gives the LATE mark, or `none` to leave an entry. -/
def Core.markEntries (c : Core) (k : Nat) (f : TTEntry → Option Bool) : Core :=
  { c with tt := c.tt.map (fun e =>
      if e.2.valid && decide (e.2.track = k) && e.2.due.isNone && e.2.mark.isNone then
        (e.1, { e.2 with mark := f e.2 }) else e) }

/-- Epoch `e` lies before epoch `now`, modulo 2^32 (R67). -/
def epochPast (e now : Nat) : Bool := decide (2 ^ 31 ≤ (e + 2 ^ 32 - now % 2 ^ 32) % 2 ^ 32)

/-- An epoch of track `k` starts at `start16` with the planned length `plan16` (R56, R58, R59, R61): unfired entries of
the ended epoch fire now, the armed number is taken, and entries that a renumbering puts in the past fire LATE. -/
def Core.beginEpoch (c : Core) (k : Nat) (t : Track) (start16 plan16 : Nat) : Core :=
  let ended := t.epoch
  let had := t.len ≠ 0 ∨ t.hasEpochs = true
  let number := match t.armed with | some a => a | none => (ended + 1) % 2 ^ 48
  let c1 := if had then c.markEntries k (fun e => if e.epoch = ended % 2 ^ 32 then some false else none) else c
  let c2 := match t.armed with
    | some _ => (c1.markEntries k (fun e => if epochPast e.epoch number then some true else none)).setFld
        (R.TRK_EPOCH_SET_HI.at k) 31 1 0
    | none => c1
  c2.setTrack k { t with epoch := number, armed := none, start16 := start16, plan16 := plan16,
                         len := (start16 - t.start16) / 65536, holdEnd16 := none }

/-- The first epoch after ACQUIRE (R56, R67): epoch 0 or the armed epoch, opened by the qualifying edge. -/
def Core.lockTrack (c : Core) (k : Nat) (t : Track) (x : Nat) : Core :=
  let number := t.armed.getD 0
  let c1 := (if t.armed.isSome then c.setFld (R.TRK_EPOCH_SET_HI.at k) 31 1 0 else c).markEntries k
    (fun e => if epochPast e.epoch number then some true else none)
  (c1.setTrack k { t with state := .locked, qual := 0, epoch := number, armed := none, start16 := x * 65536,
                          len := t.mean16 / 65536, openAt := x, grid := false, clean := true, jump := none,
                          slew := 0, slewStep := 0, holdEnd16 := none }).event 1 k

/-! ### Disciplining SYN0 (R363 to R365) -/

/-- SYN0 takes its frequency from track `k`. -/
def Core.disciplines (c : Core) (k : Nat) : Bool :=
  decide (c.fld R.SYN0_DISC.at 0 1 = 1) && decide (c.fld R.SYN0_DISC.at 1 2 = k)

/-- y is held at its value in force (R365). -/
def Core.discHold (c : Core) : Core :=
  (((c.setReg R.SYN0_Y_HOLD.at (c.reg R.SYN0_Y.at)).setFld R.SYN0_STATUS.at 6 1 0).setFld R.SYN0_STATUS.at 7 1 1).event 2 5

/-- The disciplining track `k` leaves LOCKED (R365). -/
def Core.discLeave (c : Core) (k : Nat) : Core := if c.disciplines k then c.discHold else c

/-- y after an admitted epoch of `len` fine cycles of source `src`, and whether a limit acted (R363, R364). -/
def discStep (y : Int) (src len kk slew : Nat) : Int × Bool :=
  let nom := nominalEpoch src
  let raw : Int := - convergentDiv (((len : Int) - nom) * (2 ^ 40 : Nat)) (nom * 2 ^ kk)
  let lim : Int := (slew * 2 ^ 40 / 1000000000 : Nat)
  let dy := max (-lim) (min lim raw)
  let y1 := y + dy
  let y2 := max (-109951163) (min 109951163 y1)
  (y2, decide (dy ≠ raw) || decide (y2 ≠ y1))

/-- An accepted edge of track `k` ended an admitted epoch of `len` fine cycles (R364). -/
def Core.discUpdate (c : Core) (k : Nat) (clean : Bool) (len : Nat) : Core :=
  if c.disciplines k && clean && decide (c.fld R.SYN0_STATUS.at 0 3 = 1) then
    let d := discStep (signedOf 32 (c.reg R.SYN0_Y.at).toNat) (c.trkSrc k) len
      (c.fld R.SYN0_DISC.at 4 4) (c.fld R.SYN0_DISC.at 16 16)
    let c1 := c.setNat R.SYN0_Y.at (codeOf 32 d.1)
    let c2 := if d.2 then c1.event 2 7 else c1
    let c3 := if c2.fld R.SYN0_STATUS.at 7 1 = 1 then (c2.setFld R.SYN0_STATUS.at 7 1 0).event 2 6 else c2
    c3.setFld R.SYN0_STATUS.at 6 1 1
  else c

/-! ### Loss, coasting and return -/

/-- The loss of a track (R51, R59, R60): in ACQUIRE the count restarts; in LOCKED and REQUAL the track coasts at the mean
length, on the grid laid from the last edge-opened epoch (a jump in progress stops where it stands), and entries whose
instants lie before this tick fire LATE. -/
def Core.loseTrack (c : Core) (k : Nat) : Core :=
  let t := c.track k
  match t.state with
  | .acquire => c.setTrack k { t with qual := 0, lastEdge := none, lens := [] }
  | .locked | .requal =>
    let w := if t.mean16 = 0 then t.length16 else t.mean16
    let base := if t.grid ∨ t.slew ≠ 0 then t.start16 else t.openAt * 65536
    let behind := if w = 0 then 0 else (c.time * 65536 - base) / w
    let first := t.armed.getD ((t.epoch + 1) % 2 ^ 48)
    let number := if behind = 0 then t.epoch else (first + behind - 1) % 2 ^ 48
    let t1 : Track := { t with state := .coast, qual := 0, lastEdge := none, coast16 := w, plan16 := w, grid := true,
                               start16 := base + behind * w, epoch := number,
                               len := if behind = 0 then t.len else w / 65536,
                               coastEpochs := min 0xFFFF behind, jump := none, slew := 0, slewStep := 0,
                               holdEnd16 := none, clean := false, armed := if behind = 0 then t.armed else none }
    let c1 := if behind ≠ 0 ∧ t.armed.isSome then c.setFld (R.TRK_EPOCH_SET_HI.at k) 31 1 0 else c
    let c2 := (c1.setTrack k t1).markEntries k (fun e =>
      if epochPast e.epoch number then some true
      else if e.epoch = number % 2 ^ 32 ∧ t1.phaseInstant16 e.phase < c.time * 65536 then some true else none)
    ((if t.state = .locked then c2.discLeave k else c2).event 1 (4 + k)).tally 15
  | _ => c

/-- Δ of R60: the qualifying edge minus the nearest coasted boundary, in phase units. -/
def Track.jumpOf (t : Track) (x : Nat) : Int :=
  if t.plan16 = 0 then 0
  else signedOf 16 ((((x * 65536 : Int) - t.start16) * 65536 / (t.plan16 : Int)) % 65536).toNat

/-- An accepted edge on a LOCKED track (R56, R58): it ends the epoch and starts the next, unless a jump still runs on the
grid, or the edge belongs to the epoch that the jump has just opened (log entry 12). The last slewed epoch is ended by the edge (log
entry 36). -/
def Core.lockedEdge (c : Core) (k : Nat) (t : Track) (x : Nat) : Core :=
  if t.grid || decide (2 * (x * 65536 - t.start16) < t.length16) then c.setTrack k t
  else
    let len := (x * 65536 - t.start16) / 65536
    let c1 := c.beginEpoch k { t with openAt := x, slew := 0, slewStep := 0 } (x * 65536) 0
    (c1.setTrack k { c1.track k with clean := decide (c.fld R.SYN0_STATUS.at 0 3 = 1) }).discUpdate k t.clean len

/-- A reference edge at `x` on track `k` (R51, R55, R56, R60). -/
def Core.edge (c : Core) (k : Nat) (x : Nat) : Core :=
  let t := c.track k
  let src := c.trkSrc k
  let servo := decide (c.fld R.ETH_STATUS.at 1 1 = 1)
  let good := match t.lastEdge with | none => decide (src ≠ 3) || servo | some e => t.windowTakes src (x - e) servo
  let glitch := (c.bump (R.TRK_GLITCH_CNT.at k)).event 1 (12 + k)
  match t.state with
  | .off => c
  | .acquire =>
    if good then
      let t1 := t.take src x
      if t1.qual + 1 < c.trkQualify k then c.setTrack k { t1 with qual := t1.qual + 1 }
      else c.lockTrack k t1 x
    else glitch.setTrack k { t with lastEdge := some x, lossBase := x, qual := 1, lens := [] }
  | .locked => if src = 6 then c else if good then c.lockedEdge k (t.take src x) x else glitch
  | .coast => if good then c.setTrack k { t.take src x with state := .requal, qual := 1 } else glitch
  | .requal =>
    if good then
      let t1 := t.take src x
      if t1.qual + 1 < c.trkQualify k then c.setTrack k { t1 with qual := t1.qual + 1 }
      else (c.setTrack k { t1 with state := .locked, qual := 0, jump := some (t1.jumpOf x), delta := t1.jumpOf x,
                                   clean := false }).event 1 k
    else glitch.loseTrack k

/-- The track's source can deliver edges now (R54): for DAB the stall reads FRAME or beyond, for LF MARKS or beyond. -/
def Core.sourceDelivers (c : Core) (k : Nat) : Bool :=
  let n := c.fld (R.TRK_CFG.at k) 8 8
  let cls := c.fld (R.ST_CLASS.at n) 0 4
  let open_ := decide (c.fld (R.ST_STATUS.at n) 0 4 ≠ 0)
  match c.trkSrc k with
  | 4 => open_ && decide (cls = 3) && decide (2 ≤ c.fld (R.DAB_STATUS.at n) 0 2)
  | 5 => open_ && decide (cls = 6) && decide (1 ≤ c.fld (R.TC_STATUS.at n) 0 2)
  | _ => true

/-- TRACK_EDGE (R51 to R60, R364). -/
def execTrackEdge (k : Fin 4) (x : Nat) (s : State) : Host.Outcome State Fault Refusal :=
  s.run (fun c => if c.sourceDelivers k then c.edge k x else c)

/-- The loss condition of a source that is a time without an edge has run out (R51): for MAINS once a running mean exists (DEDUCED, log entry
34); the other sources declare theirs. -/
def Core.lossDue (c : Core) (k : Nat) : Bool :=
  let t := c.track k
  match c.trkSrc k with
  | 1 => !t.lens.isEmpty && decide (t.lossBase * 65536 + 2 * t.mean16 ≤ c.time * 65536)
  | 2 => decide (t.lossBase + 73728000 ≤ c.time)
  | 6 => false
  | _ => true

/-- TRACK_LOSS (R51, R56, R59, R365). -/
def execTrackLoss (k : Fin 4) (s : State) : Host.Outcome State Fault Refusal :=
  s.run (fun c => if c.lossDue k then c.loseTrack k else c)

/-- FILLED_MARK (R53): on an LF track the filled mark ends the epoch and starts the next, and holds off loss. -/
def execFilledMark (k : Fin 4) (x : Nat) (s : State) : Host.Outcome State Fault Refusal :=
  s.run (fun c =>
    let t := c.track k
    if c.trkSrc k = 5 then
      let t1 := { t with lossBase := x, clean := false, slew := if t.grid then t.slew else 0, slewStep := if t.grid then t.slewStep else 0 }
      if t.hasEpochs then c.beginEpoch k t1 (x * 65536) t.plan16
      else if t.state = .off then c else c.setTrack k t1
    else c)

/-- The boundary at which the running grid epoch of track `k` ends has been reached. -/
def Core.boundaryReached (c : Core) (t : Track) : Bool :=
  t.grid && t.holdEnd16.isNone && decide (t.start16 + t.plan16 ≤ c.time * 65536)

/-- The length of an epoch slewed by `u` phase units (R60). -/
def slewed16 (coast16 : Nat) (u : Int) : Nat := ((coast16 : Int) + u * (coast16 : Int) / 65536).toNat

/-- The units of the next slewed epoch: at most 16 of what is left, with its sign (R60). -/
def slewUnits (left : Int) : Int := max (-16) (min 16 left)

/-- EPOCH_BOUNDARY (R57, R59, R60, R61): a FREE, coasted or slewed epoch reaches its length. -/
def execEpochBoundary (k : Fin 4) (s : State) : Host.Outcome State Fault Refusal :=
  s.run (fun c =>
    let t := c.track k
    if c.boundaryReached t && t.jump.isNone then
      let b := t.start16 + t.plan16
      if c.trkSrc k = 6 then c.beginEpoch k t b ((c.reg (R.TRK_FREE_LEN.at k)).toNat * 65536)
      else if t.state = .locked then
        let left := t.slew - t.slewStep
        let u := slewUnits left
        c.beginEpoch k { t with slew := left, slewStep := u, grid := decide (u ≠ left), openAt := b / 65536 } b (slewed16 t.coast16 u)
      else c.beginEpoch k { t with coastEpochs := min 0xFFFF (t.coastEpochs + 1) } b t.coast16
    else c)

/-- TRACK_JUMP_START (R60): at the coasted boundary B the jump starts as STEP or SLEW. -/
def execTrackJumpStart (k : Fin 4) (s : State) : Host.Outcome State Fault Refusal :=
  s.run (fun c =>
    let t := c.track k
    match t.jump with
    | none => c
    | some d =>
      if c.boundaryReached t then
        let b := t.start16 + t.plan16
        let w := t.coast16
        if d.natAbs ≤ 16 ∨ c.fld (R.TRK_CFG.at k) 4 1 = 1 then
          let u := slewUnits d
          (c.beginEpoch k { t with jump := none, slew := d, slewStep := u, grid := decide (u ≠ d), openAt := b / 65536 } b (slewed16 w u)).event 1
            (8 + k)
        else if d < 0 then
          let c1 := c.beginEpoch k { t with jump := none, grid := false, openAt := b / 65536 } (b - d.natAbs * w / 65536) 0
          let t1 := c1.track k
          ((c1.setTrack k { t1 with len := w / 65536 }).markEntries k
            (fun e => if e.epoch = t1.epoch % 2 ^ 32 ∧ e.phase < d.natAbs then some true else none)).event 1 (8 + k)
        else
          (c.setTrack k { t with jump := none, holdEnd16 := some (b + d.natAbs * w / 65536) }).event 1 (8 + k)
      else c)

/-- STEP_HOLD_END (R60): the next epoch starts at the reference-aligned instant. -/
def execStepHoldEnd (k : Fin 4) (s : State) : Host.Outcome State Fault Refusal :=
  s.run (fun c =>
    let t := c.track k
    match t.holdEnd16 with
    | none => c
    | some e =>
      if e ≤ c.time * 65536 then
        let c1 := c.beginEpoch k { t with grid := false, openAt := e / 65536 } e 0
        c1.setTrack k { c1.track k with len := t.coast16 / 65536 }
      else c)

/-! ### Track registers -/

/-- Whether a track is referred to by a timetable entry or by a block's schedule (R57). -/
def Core.trackInUse (c : Core) (k : Nat) : Bool :=
  c.tt.any (fun e => e.2.valid && e.2.due.isNone && decide (e.2.track = k)) || c.disciplines k ||
    (decide (c.fld R.WL_CFG.at 0 1 = 1) && decide (c.fld R.WL_SLOT_CFG.at 0 2 = k))

/-- The nominal epochs of an old and a new source are the same (R57). -/
def sameNominal (old new freeLen : Nat) : Bool :=
  let sec := fun s : Nat => decide (s = 2) || decide (s = 3) || decide (s = 5)
  let free := fun s : Nat =>
    if s = 1 then decide (756185 ≤ freeLen) && decide (freeLen ≤ 1092267)
    else decide (nominalEpoch s = freeLen)
  (sec old && sec new) || (decide (old = 6) && free new) || (decide (new = 6) && free old)

/-- A track's reference goes away by a write (R57): it enters COAST. -/
def Core.coastByWrite (c : Core) (k : Nat) : Core :=
  let t := c.track k
  match t.state with
  | .locked =>
    let c1 := if c.trkSrc k = 6 then c.setTrack k { t with lens := [t.plan16 / 65536] } else c
    c1.loseTrack k
  | .requal => c.loseTrack k
  | .coast => c.setTrack k { t with lastEdge := none, qual := 0 }
  | .acquire => c.setTrack k { t with lastEdge := none, qual := 0, lens := [] }
  | .off => c

/-- A write of TRK_CFG (R57, R62, R363). `used` tells whether a block schedule outside the Yard refers to the track. -/
def trkCfgWrite (used : Core → Nat → Bool) (k : Nat) (c : Core) (v : Word) : Core × Bool :=
  let a := R.TRK_CFG.at k
  let old := c.trkSrc k
  let new := fieldOf v 0 3
  let t := c.track k
  let put := fun d : Core => d.setReg a (R.TRK_CFG.merge 0 (c.reg a) v)
  if new = 7 ∨ fieldOf v 16 4 < 2 then c.refusePage 1
  else if new = old then
    if fieldOf v 8 8 ≠ c.fld a 8 8 ∧ (old = 4 ∨ old = 5) then (put (c.coastByWrite k), true) else (put c, true)
  else if new = 0 then
    if c.trackInUse k || used c k then c.refusePage 1
    else ((put (if t.state = .locked then c.discLeave k else c)).setTrack k { armed := t.armed }, true)
  else if old = 0 then
    if new = 6 then
      let w := (c.reg (R.TRK_FREE_LEN.at k)).toNat
      let x := 48 * (c.now + 1)
      let c1 := (put c).lockTrack k { t with lens := [w] } x
      (c1.setTrack k { c1.track k with grid := true, plan16 := w * 65536, clean := false }, true)
    else ((put c).setTrack k { state := .acquire, armed := t.armed }, true)
  else if new = 6 ∧ c.disciplines k then c.refusePage 1
  else if sameNominal old new (c.reg (R.TRK_FREE_LEN.at k)).toNat then
    if new = 6 then
      if t.hasEpochs then
        (((put c).setTrack k { t with state := .locked, grid := true, jump := none, slew := 0, slewStep := 0,
                                      holdEnd16 := none, plan16 := t.length16, clean := false }).event 1 k, true)
      else
        let w := (c.reg (R.TRK_FREE_LEN.at k)).toNat
        let c1 := (put c).lockTrack k { t with lens := [w] } (48 * (c.now + 1))
        (c1.setTrack k { c1.track k with grid := true, plan16 := w * 65536, clean := false }, true)
    else (put (c.coastByWrite k), true)
  else c.refusePage 1

/-- A write of TRK_FREE_LEN: lengths below 48 are refused (R63). -/
def trkFreeLenWrite (k : Nat) (c : Core) (v : Word) : Core × Bool :=
  if v.toNat < 48 then c.refusePage 1 else plainWrite R.TRK_FREE_LEN (R.TRK_FREE_LEN.at k) c v

/-- A write of TRK_EPOCH_SET_HI (R61): ARM arms the staged number. -/
def trkEpochSetWrite (k : Nat) (c : Core) (v : Word) : Core × Bool :=
  let d := (plainWrite R.TRK_EPOCH_SET_HI (R.TRK_EPOCH_SET_HI.at k) c v).1
  if bitOf v 31 then
    (d.setTrack k { d.track k with
      armed := some ((d.reg (R.TRK_EPOCH_SET_LO.at k)).toNat + d.fld (R.TRK_EPOCH_SET_HI.at k) 0 16 * 2 ^ 32) }, true)
  else (d, true)

/-- TRK_EPOCH_ARM (R61). -/
def execTrkEpochArm (port : Port) (k : Fin 4) (v : Word) (s : State) : Host.Outcome State Fault Refusal :=
  s.write port R.TRK_EPOCH_SET_HI (R.TRK_EPOCH_SET_HI.at k) v (trkEpochSetWrite k)

/-! ### The timetable -/

/-- Entry `i`. -/
def Core.entry (c : Core) (i : Nat) : TTEntry := Table.get (fun _ => {}) c.tt i

/-- `c` with entry `i` replaced. -/
def Core.setEntry (c : Core) (i : Nat) (e : TTEntry) : Core := { c with tt := Table.set (fun _ => {}) c.tt i e }

/-- The lowest entry of [a, a + n) that is not pending. -/
def Core.freeEntry (c : Core) (a n : Nat) : Option Nat :=
  (List.range n).findSome? (fun i => if (c.entry (a + i)).valid then none else some (a + i))

/-- Free host entries (R65). -/
def Core.ttFree (c : Core) : Nat := 448 - (c.tt.filter (fun e => decide (e.1 < 448) && e.2.valid)).length

/-- An instant (epoch, phase) of a track with epochs is due in this tick or earlier, or PAST (R49, R58, R67). Phase 0 of
the current epoch is due from the tick of the edge that opened it (R70, R131). -/
def Core.instantDue (c : Core) (t : Track) (epoch phase : Nat) : Bool :=
  epochPast epoch t.epoch ||
    (decide (epoch = t.epoch % 2 ^ 32) && (decide (phase = 0) || decide (t.phaseInstant16 phase ≤ c.time * 65536)))

/-- The tick in which an instant of track `k` is predicted to fall due (R49, R88): from the current epoch's start, the last
completed length, or the coasting length in COAST and REQUAL. None while the track has not locked. -/
def Core.predictTick (c : Core) (k epoch phase : Nat) : Option Nat :=
  let t := c.track k
  if !t.hasEpochs then none
  else
    let len := if t.state = .locked then t.len * 65536 else t.coast16
    let ahead := signedOf 32 (epoch + 2 ^ 32 - t.epoch % 2 ^ 32)
    let x : Int := (t.start16 : Int) + ahead * (len : Int) + (len * phase / 65536 / 65536 * 65536 : Nat)
    some ((x + (48 * 65536 - 1 : Nat)) / (48 * 65536 : Nat)).toNat

/-- The entry is due in this tick (R58, R68), or an event of this tick has marked it. -/
def Core.entryDue (c : Core) (i : Nat) : Bool :=
  let e := c.entry i
  let t := c.track e.track
  e.valid && decide (i < 448) &&
    (e.mark.isSome || (t.hasEpochs && decide (e.epoch = t.epoch % 2 ^ 32) &&
      (decide (e.phase = 0) || decide (t.phaseInstant16 e.phase ≤ c.time * 65536))))

/-- WRITE may not reach a reserved address or the UPDATE, GUARD, REGLOCK or YARD page (R65). -/
def Core.badTarget (c : Core) (a : Nat) : Bool :=
  (c.rowAt a).isNone || decide (a / 4096 = 0x17) || decide (a / 4096 = 0x18) || decide (a / 4096 = 0x13) ||
    decide (a / 4096 = 1)

/-- The checks of a timetable ADD in their order (R66): the code of the first that fails, 0 for none. -/
def Core.ttCheck (c : Core) (e : TTEntry) : Nat :=
  let t := c.track e.track
  if 2 < e.action then 6
  else if e.action = 1 ∧ c.badTarget e.target = true then 4
  else if t.state = .off then 3
  else if t.hasEpochs && c.instantDue t e.epoch e.phase then 2
  else if (c.freeEntry 0 448).isNone then 1
  else 0

/-- Add a host entry: the code and the entry's index. -/
def Core.ttAdd (c : Core) (e : TTEntry) : Core × Nat × Nat :=
  let code := c.ttCheck e
  if code = 0 then
    let i := (c.freeEntry 0 448).getD 0
    (c.setEntry i { e with valid := true, late := false, failed := false, due := none, mark := none }, 0, i)
  else (c, code, 0)

/-- Cancel a host entry: the code (R66). -/
def Core.ttCancel (c : Core) (i : Nat) : Core × Nat :=
  let e := c.entry i
  if 448 ≤ i ∨ e.valid = false then (c, 5) else (c.setEntry i { e with valid := false, mark := none }, 0)

/-- TT_RESULT after a GO (R65). -/
def Core.ttResult (c : Core) (i code : Nat) : Core :=
  ((c.setFld R.TT_RESULT.at 0 9 i).setFld R.TT_RESULT.at 12 4 code).wrapFld R.TT_RESULT.at 16 8

/-- The staged entry (R65). -/
def Core.ttStaged (c : Core) : TTEntry :=
  let w := R.TT_STAGE_CTL.at
  { track := c.fld w 16 2, epoch := (c.reg R.TT_STAGE_EPOCH.at).toNat, phase := c.fld w 0 16, action := c.fld w 20 4,
    pennant := decide (c.fld w 18 1 = 1), rept := c.fld w 24 8, target := c.fld R.TT_STAGE_TARGET.at 0 20,
    value := c.reg R.TT_STAGE_VALUE.at, mask := c.reg R.TT_STAGE_MASK.at }

/-- TT_GO_ADD (R65 to R67). -/
def execTtGoAdd (s : State) : Host.Outcome State Fault Refusal :=
  s.run (fun c => let d := c.ttAdd c.ttStaged; d.1.ttResult d.2.2 d.2.1)

/-- TT_GO_CANCEL (R65, R66). -/
def execTtGoCancel (i : Fin 512) (s : State) : Host.Outcome State Fault Refusal :=
  s.run (fun c => let d := c.ttCancel i; d.1.ttResult i d.2)

/-- TT_ADD (R254): track, epoch and phase from the command's header. -/
def execTtAdd (h : CmdHead) (pennant : Bool) (action rept target : Nat) (value mask : Word) (s : State) :
    Host.Outcome State Fault Refusal :=
  s.run (fun c => c.command h 0x18 (fun c =>
    let d := c.ttAdd { track := h.track, epoch := h.epoch % 2 ^ 32, phase := h.phase % 2 ^ 16, action := action,
                       pennant := pennant, rept := rept % 256, target := target % 2 ^ 20, value := value, mask := mask }
    d.1.finish h 0x18 d.2.1 2 0 (leBytes 2 d.2.2)))

/-- TT_CANCEL (R254). -/
def execTtCancel (h : CmdHead) (i : Nat) (s : State) : Host.Outcome State Fault Refusal :=
  s.run (fun c => c.command h 0x19 (fun c =>
    let d := c.ttCancel i
    d.1.finish h 0x19 d.2 2 0 []))

/-- A repeating entry's next instant (R68): a whole number of REPEAT epochs after its scheduled one, the first not yet due
on the track. -/
def Core.rearmEpoch (c : Core) (e : TTEntry) : Nat :=
  let t := c.track e.track
  let behind := (t.epoch + 2 ^ 32 - e.epoch) % 2 ^ 32
  let jump := if 2 ^ 31 ≤ behind then 1 else behind / e.rept + 1
  let e1 := (e.epoch + jump * e.rept) % 2 ^ 32
  let back := (e.epoch + (jump - 1) * e.rept) % 2 ^ 32
  if 1 < jump ∧ ¬ c.instantDue t back e.phase then back else e1

/-- An entry has fired (R68): freed, or re-armed; LATE and FAILED recorded, TT_LATE, TT_FAIL and the TIMETABLE record. -/
def Core.ttFired (c : Core) (i : Nat) (late failed : Bool) : Core :=
  let e := c.entry i
  let e1 : TTEntry := if e.rept = 0 then { e with valid := false, late := late, failed := failed, mark := none }
    else { e with epoch := c.rearmEpoch e, late := late, failed := failed, mark := none }
  let c1 := c.setEntry i e1
  let c2 := if late then c1.event 1 16 else c1
  let c3 := if failed then c2.event 1 17 else c2
  if e.pennant then
    c3.emit (c3.deviceRecord 0x28 e.track 0
      (leBytes 2 i ++ leBytes 1 e.action ++ leBytes 1 (b2n late + 2 * b2n failed) ++ leBytes 4 e.epoch ++
        leBytes 2 e.phase ++ leBytes 1 e.rept ++ leBytes 1 0 ++ leBytes 3 e.target))
  else c3

/-- The lowest free entry of the device's own part of the timetable (R65): moves and hoist switches share 448 to 507,
calibration applications and handovers use 508 to 511. -/
def Core.ownEntry (c : Core) (late : Bool) : Option Nat := if late then c.freeEntry 508 4 else c.freeEntry 448 60

/-- Place an action of the device's own, due at tick `due` (R65). -/
def Core.placeOwn (c : Core) (i action target due track epoch : Nat) : Core :=
  c.setEntry i { valid := true, track := track, epoch := epoch, action := action, target := target,
                 value := BitVec.ofNat 32 due, mask := 0, due := some due }

/-- Free the device's own entries of an action and target. -/
def Core.freeOwn (c : Core) (action target : Nat) : Core :=
  { c with tt := c.tt.map (fun e =>
      if e.2.valid && decide (448 ≤ e.1) && decide (e.2.action = action) && decide (e.2.target = target) then
        (e.1, { e.2 with valid := false }) else e) }

end Sys2Proof.Machine
end

