-- ==== Sys2Proof/Machine/Pool.lean ====
section
/-! DEFINITION. What the Stable's admission counts: open stalls, load units, class counts, physical units, member places
and teams, pennant rates and queues, and the Shed, PCIe and Ethernet budgets (R76, R77, R127, R128, R142, R238, R241,
R265, R266, R271, R282, R498). Rates are in millionths of an entry per second. -/

namespace Sys2Proof.Machine

/-! ### Stalls, load units and physical units -/

/-- The stalls that are not CLOSED, in order. -/
def Core.openStalls (c : Core) : List Nat :=
  c.regs.filterMap (fun e =>
    if 0x20000 ≤ e.1 ∧ e.1 < 0x30000 ∧ e.1 % 256 = 4 ∧ fieldOf e.2 0 4 ≠ 0 then some ((e.1 - 0x20000) / 256) else none)

/-- Hidden state of stall `n`. -/
def Core.stallRec (c : Core) (n : Nat) : StallRec := Table.get (fun _ => {}) c.stalls n

/-- `c` with the hidden state of stall `n` replaced. -/
def Core.setStallRec (c : Core) (n : Nat) (r : StallRec) : Core := { c with stalls := Table.set (fun _ => {}) c.stalls n r }

/-- Scout `i`. -/
def Core.scout (c : Core) (i : Nat) : Scout := Table.get (fun _ => {}) c.scouts i

/-- `c` with scout `i` replaced. -/
def Core.setScout (c : Core) (i : Nat) (x : Scout) : Core := { c with scouts := Table.set (fun _ => {}) c.scouts i x }

/-- Scouts that run (R128, R232). -/
def Core.scoutsRunning (c : Core) : Nat := (c.scouts.filter (fun e => decide (e.2.use ≠ 0))).length

/-- Load units held by stalls that are not CLOSED and by running scouts (R128). -/
def Core.unitsUsed (c : Core) : Nat := (c.openStalls.map (fun n => classUnits (c.cls n))).sum + c.scoutsRunning

/-- Stalls of a class that are not CLOSED. -/
def Core.classCount (c : Core) (k : Nat) : Nat := (c.openStalls.filter (fun n => decide (c.cls n = k))).length

/-- Physical unit `u`. -/
def Core.unit (c : Core) (u : Nat) : UnitRec := Table.get (fun _ => {}) c.units u

/-- `c` with unit `u` in a new use. -/
def Core.setUnit (c : Core) (u use stall : Nat) : Core :=
  { c with units := Table.set (fun _ => {}) c.units u ⟨use, stall⟩ }

/-- Free units, ascending (R142). -/
def Core.freeUnits (c : Core) : List Nat := (List.range 272).filter (fun u => decide ((c.unit u).use = 0))

/-- Units not retired: SPARE_CNT.USABLE. -/
def Core.usableUnits (c : Core) : Nat := 272 - (c.units.filter (fun e => decide (e.2.use = 4))).length

/-- A unit in a given use: 2 checking, 3 under test. -/
def Core.unitInUse (c : Core) (use : Nat) : Option Nat := (c.units.find? (fun e => decide (e.2.use = use))).map (·.1)

/-- STABLE_CFG.SPARE_WARN judged after a retirement (R149). -/
def Core.spareCheck (c : Core) : Core :=
  if c.usableUnits < 256 + c.fld R.STABLE_CFG.at 8 5 then c.event 7 4 else c

/-- A region of the self-test engine is retired (R427). -/
def Core.regionRetired (c : Core) (r : Nat) : Bool := decide (Table.get (fun _ => 0) c.regions r = 3)

/-- Unit `u` is retired (R142, R427). -/
def Core.retireUnit (c : Core) (u : Nat) : Core := (({ c with regions := Table.set (fun _ => 0) c.regions u 3 }.setUnit u 4 0).event 7 3).tally 25 |>.spareCheck

/-- A released unit goes free, or to the use that waits for it (R146). -/
def Core.releaseUnit (c : Core) (u : Nat) : Core :=
  match (c.unitNext.find? (fun e => decide (e.1 = u))).map (·.2) with
  | none => c.setUnit u 0 0
  | some use =>
    let d := { c with unitNext := c.unitNext.filter (fun e => decide (e.1 ≠ u)) }
    if use = 4 then d.retireUnit u else d.setUnit u use 0

/-- The physical unit that serves stall `n` (R28). -/
def Core.unitOf (c : Core) (n : Nat) : Nat := c.fld (R.ST_STATUS.at n) 16 9

/-- An RF input (0 RFH, 1 RFVA, 2 RFVB) is ON (R83): POWER is ON and the input is not WAKING. -/
def Core.inputOn (c : Core) (i : Nat) : Bool :=
  decide (c.fld (R.RF_CTRL.at i) 0 2 = 2) && !bitOf (c.reg (R.PG_STATUS.at (3 + i))) 18

/-- The inputs that a class, preset and antenna mode draw on (R127, R136). -/
def inputsOf (cls iq mode : Nat) : List Nat :=
  if drawsVhf cls iq then (if mode = 2 then [1, 2] else if mode = 1 then [2] else [1]) else [0]

/-- The inputs that stall `n` draws on. -/
def Core.stallInputs (c : Core) (n : Nat) : List Nat := inputsOf (c.cls n) (c.iqCode n) (c.fld (R.ST_ANT.at n) 0 2)

/-! ### Teams and member places (R265, R266) -/

/-- Team `k` is open. -/
def Core.teamOpen (c : Core) (k : Nat) : Bool := decide (k < 32) && decide (c.fld (R.TEAM.at k) 0 1 = 1)

/-- The latencies of R265, fine cycles. -/
def latencyOf (lat : Nat) : Nat :=
  match lat with | 0 => 786432 | 1 => 31457280 | 2 => 100663296 | _ => 201326592

/-- The latency of team `k`. -/
def Core.teamLatency (c : Core) (k : Nat) : Nat := latencyOf (c.fld (R.TEAM.at k) 1 2)

/-- Member place `m` is taken. -/
def Core.memberValid (c : Core) (m : Nat) : Bool := bitOf (c.reg (R.MEMBER.at m)) 0

/-- The team of member `m`. -/
def Core.memberTeam (c : Core) (m : Nat) : Nat := c.fld (R.MEMBER.at m) 1 5

/-- The members of team `k`. -/
def Core.teamMembers (c : Core) (k : Nat) : List Nat :=
  (List.range 256).filter (fun m => c.memberValid m && decide (c.memberTeam m = k))

/-- The lowest free member place. -/
def Core.freeMember (c : Core) : Option Nat := (List.range 256).find? (fun m => !c.memberValid m)

/-- The member whose stream is that of a source: kind 0 a stall, 1 a decode. -/
def Core.memberOf (c : Core) (kind source : Nat) : Option Nat :=
  (List.range 256).find? (fun m =>
    c.memberValid m && decide (c.fld (R.MEMBER.at m) 6 2 = kind) && decide (c.fld (R.MEMBER.at m) 8 8 = source))

/-- Hidden state of member `m`. -/
def Core.member (c : Core) (m : Nat) : MemberRec := Table.get (fun _ => {}) c.members m

/-- `c` with that state replaced. -/
def Core.setMember (c : Core) (m : Nat) (x : MemberRec) : Core := { c with members := Table.set (fun _ => {}) c.members m x }

/-- A source takes the lowest free member place of a team (R266). -/
def Core.joinTeam (c : Core) (team kind source : Nat) : Core :=
  match c.freeMember with
  | none => c
  | some m => (c.setNat (R.MEMBER.at m) (1 + 2 * (team % 32) + 64 * kind + 256 * (source % 256))).setMember m
      { c.member m with begun := false }

/-- A source leaves its team (R266). -/
def Core.leaveTeam (c : Core) (kind source : Nat) : Core :=
  match c.memberOf kind source with
  | none => c
  | some m => c.setReg (R.MEMBER.at m) 0

/-- A team has room, and a member place is free (R266). -/
def Core.teamRoom (c : Core) (k : Nat) : Bool := decide ((c.teamMembers k).length < 64) && c.freeMember.isSome

/-- A + F of an IQ tap's chain for stall `n` (R76). -/
def Core.iqDelay (c : Core) (n iq mode : Nat) : Nat :=
  match c.chainOf n clsIq iq with
  | none => 0
  | some g => (c.reg (R.ANA_DELAY.at (rfIndex g.vhf mode))).toNat + g.filt

/-- The minimum team latency of stall `n`'s stream (R76, R211). -/
def Core.stallMinimum (c : Core) (n cls iq mode : Nat) : Nat :=
  if cls = clsIq then (if c.iqDelay n iq mode ≤ 589728 then 786432 else 31457280)
  else if cls = clsFm ∧ c.fld (R.HS_CTL.at n) 1 1 = 1 then 100663296
  else 786432

/-- The minimum team latency of a decode of stall `n` (R76, R196). -/
def Core.decodeMinimum (c : Core) (n : Nat) : Nat :=
  if c.cls n = clsDrm ∧ c.fld (R.DRM_CFG.at n) 0 1 = 1 then 201326592 else 31457280

/-! ### Pennant rates (R238, R498) -/

/-- What a stall's pennant rates depend on: class, class word, hoist word, gait, detectors and default queue. -/
structure RateCfg where
  cls : Nat
  word : Word
  hoist : Word
  gait : Nat
  dets : List Word
  queue : Nat
deriving DecidableEq, Repr

/-- The settings in force of stall `n`. -/
def Core.rateCfg (c : Core) (n : Nat) : RateCfg :=
  { cls := c.cls n, word := c.reg (R.FM_CFG.at n), hoist := c.reg (R.HS_CTL.at n), gait := c.fld (R.ST_PRESET.at n) 0 2,
    dets := (List.range 4).map (fun i => c.reg (R.DET_CFG.at n i)), queue := c.fld (R.ST_ROUTE.at n) 0 6 }

/-- A rate that counts while bit `b` of the class word is 1. -/
def whenBit (w : Word) (b r : Nat) : Nat := if bitOf w b then r else 0

/-- The TONE rate of one detector (R238). -/
def toneRate (fs : Nat) (w : Word) : Nat :=
  if bitOf w 0 then fs * 1000000 / ((fieldOf w 16 16 + 1) * max 1 (min (fieldOf w 4 4) (fieldOf w 8 4))) else 0

/-- Pennant types with their worst-case rates at the settings given. A type that a setting disables counts 0. -/
def RateCfg.types (r : RateCfg) : List (Nat × Nat) :=
  let w := r.word
  match r.cls with
  | 1 =>
    [(0x01, whenBit w 5 12000000), (0x02, 12000000 * (b2n (bitOf w 6) + b2n (bitOf w 7) + b2n (bitOf w 8))),
     (0x03, 12000000), (0x04, whenBit w 15 1000000),
     (0x05, if fieldOf w 16 12 = 0 then 0 else 16000000 / fieldOf w 16 12), (0x06, (r.dets.map (toneRate 384000)).sum),
     (0x20, whenBit r.hoist 0 200000000), (0x21, if bitOf r.hoist 0 then whenBit r.hoist 7 400000000 else 0)]
  | 2 =>
    [(0x06, (r.dets.map (toneRate 48000)).sum), (0x08, whenBit w 2 2000000), (0x09, 100000000),
     (0x0A, whenBit w 4 (match r.gait with | 0 => 1000000000 | 1 => 100000000 | 2 => 10000000 | _ => 1000000))]
  | 3 =>
    [(0x10, if fieldOf w 0 2 = 2 then 0 else 3750000000), (0x11, 11000000), (0x12, whenBit w 16 11000000),
     (0x13, whenBit w 3 (62500000 / max 1 (fieldOf w 4 4)))]
  | 4 => [(0x14, whenBit w 1 2500000), (0x15, whenBit w 2 53333334), (0x16, 3500000)]
  | 5 => [(0x14, whenBit w 1 10000000), (0x15, whenBit w 2 160000000), (0x16, 11000000)]
  | 6 => [(0x18, whenBit w 3 1000000), (0x19, whenBit w 4 1000000), (0x1A, 2000000)]
  | _ => []

/-- The route byte of a pennant type (R242). -/
def Core.routeByte (c : Core) (typ : Nat) : Nat := c.fld (R.PN_ROUTE.at (typ / 4)) (8 * (typ % 4)) 8

/-- HOIST and HOIST_VISIT follow the stall's queue whatever their route says (R240). -/
def hoistType (typ : Nat) : Bool := decide (typ = 0x20) || decide (typ = 0x21)

/-- Whether pennants of a type may carry ALERT at the settings given (R159, R238). -/
def RateCfg.alerts (r : RateCfg) (typ : Nat) : Bool :=
  decide (typ = 0x12) || (decide (typ = 0x03) && bitOf r.word 14)

/-- The queues that a stall's pennants of a type reach (R240), `route` giving the route byte of a type. -/
def RateCfg.reach (r : RateCfg) (route : Nat → Nat) (alertQ typ : Nat) : List Nat :=
  let b := route typ
  if b / 64 % 2 = 1 then []
  else
    let q := if b % 64 ≠ 0 ∧ !hoistType typ then b % 64 else r.queue
    (if q = 0 then [] else [q]) ++ (if r.alerts typ && decide (alertQ ≠ 0) && decide (alertQ ≠ q) then [alertQ] else [])

/-- Rates by destination queue of one stall. -/
def RateCfg.loads (r : RateCfg) (route : Nat → Nat) (alertQ : Nat) : List (Nat × Nat) :=
  r.types.flatMap (fun e => (r.reach route alertQ e.1).map (fun q => (q, e.2)))

/-- The rate of the pennants that a stall copies to the UDP stream (R240). -/
def RateCfg.ethRate (r : RateCfg) (route : Nat → Nat) : Nat :=
  (r.types.map (fun e => if route e.1 / 128 % 2 = 1 then e.2 else 0)).sum

/-- PN_CFG.ALERT_QUEUE. -/
def Core.alertQueue (c : Core) : Nat := c.fld R.PN_CFG.at 8 6

/-- The loads of stall `n` at the settings in force; none while CLOSED. -/
def Core.stallLoads (c : Core) (n : Nat) : List (Nat × Nat) :=
  if c.stState n = 0 then [] else (c.rateCfg n).loads c.routeByte c.alertQueue

/-! ### Subscriptions (R271) -/

/-- Subscription `i`. -/
def Core.sub (c : Core) (i : Nat) : Sub := Table.get (fun _ => {}) c.subs i

/-- The output period, in fine cycles, of a source and OUTPUT (R259). -/
def Core.outputPeriod (c : Core) (kind source output : Nat) : Nat :=
  if kind = 0 then
    if c.cls source = clsIq then (match c.chain source with | some g => g.p | none => 1024)
    else if c.cls source = clsFm ∧ output = 1 then 256 else 1024
  else 1024

/-- The output period of member `m`'s stream. -/
def Core.memberPeriod (c : Core) (m : Nat) : Nat :=
  c.outputPeriod (c.fld (R.MEMBER.at m) 6 2) (c.fld (R.MEMBER.at m) 8 8) 0

/-- The worst-case rate of a subscription (R271). DRM carries at most four streams. -/
def Core.subRate (c : Core) (s : Sub) : Nat :=
  match s.kind with
  | 0 =>
    let cls := c.cls s.source
    if cls = clsDab then
      if s.sel ≠ 0xFF then 41666667
      else
        let known := decide (c.fld (R.DAB_STATUS.at s.source) 2 1 = 1)
        41666667 * (if known then c.fld (R.DAB_STATUS.at s.source) 8 7 else 64) + 10416667
    else (if cls = clsDrmPlus then 10000000 else 2500000) * (if s.sel = 0xFF then 4 else 1)
  | 1 => 48000000000 / c.outputPeriod s.srcKind s.source s.sel
  | 2 => 48000000000 / c.memberPeriod s.source
  | _ => 46875000

/-- The worst-case rates of the Wamelon records while the link is on (R346), by type. -/
def Core.linkRates (c : Core) : List (Nat × Nat) :=
  if c.fld R.WL_CFG.at 0 1 = 1 then
    [(0x30, 4096000000), (0x31, 1024000000), (0x32, 64000000), (0x33, 64000000), (0x34, 1000000)] else []

/-- The queue of a type without a stall source under a routing; 0 none (R240). -/
def deviceQueue (route : Nat → Nat) (devQ typ : Nat) : Nat :=
  if route typ / 64 % 2 = 1 then 0 else if route typ % 64 ≠ 0 then route typ % 64 else devQ

/-- Loads of pennants under a routing: type, queue and rate, of every open stall and of the link. -/
def Core.typeLoads (c : Core) (route : Nat → Nat) (alertQ devQ : Nat) : List (Nat × Nat × Nat) :=
  c.openStalls.flatMap (fun n =>
    let r := c.rateCfg n
    r.types.flatMap (fun e => (r.reach route alertQ e.1).map (fun q => (e.1, q, e.2)))) ++
  c.linkRates.filterMap (fun e =>
    let q := deviceQueue route devQ e.1
    if q = 0 then none else some (e.1, q, e.2))

/-- PN_CFG.DEV_QUEUE. -/
def Core.devQueue (c : Core) : Nat := c.fld R.PN_CFG.at 0 6

/-- All loads of the admitted sources, by queue. -/
def Core.allLoads (c : Core) : List (Nat × Nat) :=
  (c.typeLoads c.routeByte c.alertQueue c.devQueue).map (·.2) ++ (c.subs.filter (·.2.valid)).map (fun e => (e.2.queue, c.subRate e.2))

/-- The rate that reaches queue `q` in a list of loads. -/
def rateTo (q : Nat) (l : List (Nat × Nat)) : Nat := (l.map (fun e => if e.1 = q then e.2 else 0)).sum

/-- Q_RATE of queue `q`, entries per second, rounded up. -/
def Core.queueRate (c : Core) (q : Nat) : Nat := (rateTo q c.allLoads + 999999) / 1000000

/-- The QUEUE check (R249): each queue whose load rises from `old` to `new` keeps within its declared drain. -/
def Core.queueFits (c : Core) (all old new : List (Nat × Nat)) : Bool :=
  new.all (fun e =>
    let q := e.1
    let drain := (c.reg (R.Q_DRAIN.at q)).toNat
    decide (drain = 0) || decide (rateTo q new ≤ rateTo q old) ||
      decide (rateTo q all + rateTo q new ≤ drain * 1000000 + rateTo q old))

/-! ### Bandwidth (R282) -/

/-- Blocks per second, in millionths, of a bay whose samples have period `p`. -/
def blockRate (p : Nat) : Nat := 48000000000 / p

/-- Bytes per second of a stall's bays: sample bays at stride times block rate; frame bays at the rate that fills 40 MiB in
the depth R259 states (log entry 20). -/
def Core.stallBays (c : Core) (n cls iq : Nat) (mpx : Bool) : Nat :=
  match cls with
  | 1 => 8256 * blockRate 1024 / 1000000 + (if mpx then 4160 * blockRate 256 / 1000000 else 0)
  | 2 => 4160 * blockRate 1024 / 1000000
  | 3 => 381300
  | 4 => 24672
  | 5 => 24672
  | 7 => match c.chainOf n clsIq iq with | some g => 8256 * blockRate g.p / 1000000 | none => 0
  | _ => 0

/-- Bytes per second that a member adds: its bay read, and its presented ring written. -/
def memberCost (bay period : Nat) : Nat := bay + 8256 * blockRate period / 1000000

/-- Bytes per second of a decode's bay. -/
def decodeBay : Nat := 8256 * blockRate 1024 / 1000000

/-- Decodes admitted: LSn_CTL.STATE is not FREE (R198). -/
def Core.decodeState (c : Core) (d : Nat) : Nat := c.fld (R.LS_CTL.at d) 28 4

/-- The decodes admitted, ascending. -/
def Core.decodes (c : Core) : List Nat := (List.range 64).filter (fun d => decide (c.decodeState d ≠ 0))

/-- Bytes per second that a subscription reads. -/
def Core.subBytes (c : Core) (s : Sub) : Nat :=
  match s.kind with
  | 0 => c.stallBays s.source (c.cls s.source) 0 false
  | 1 => if s.srcKind = 1 then decodeBay
    else if s.sel = 1 then 4160 * blockRate 256 / 1000000
    else (if c.cls s.source = clsAm then 4160 else 8256) * blockRate (c.outputPeriod 0 s.source 0) / 1000000
  | 2 => 8256 * blockRate (c.memberPeriod s.source) / 1000000
  | _ => 65600 * blockRate 1024 / 1000000

/-- FM_CFG.MPX_OUT of stall `n`. -/
def Core.mpxOut (c : Core) (n : Nat) : Bool := decide (c.cls n = clsFm) && bitOf (c.reg (R.FM_CFG.at n)) 10

/-- The Shed bandwidth in use, bytes per second. -/
def Core.shedUsed (c : Core) : Nat :=
  (c.openStalls.map (fun n => c.stallBays n (c.cls n) (c.iqCode n) (c.mpxOut n))).sum
  + c.decodes.length * decodeBay
  + (((List.range 256).filter c.memberValid).map (fun m =>
      let kind := c.fld (R.MEMBER.at m) 6 2
      let src := c.fld (R.MEMBER.at m) 8 8
      memberCost (if kind = 1 then decodeBay else c.stallBays src (c.cls src) (c.iqCode src) false) (c.memberPeriod m))).sum
  + (c.subs.map (fun e => if e.2.valid then c.subBytes e.2 else 0)).sum
  + ((List.range 8).map (fun p =>
      if c.fld (R.SAP_CFG.at p) 0 1 = 1 ∧ c.fld (R.SAP_MASK_CUR.at p) 16 16 ≠ 0 then 65600 * blockRate 1024 / 1000000
      else 0)).sum

/-- The Shed capacity, bytes per second. -/
def shedCapacity : Nat := 25600000000

/-- A LOC 0 queue that is enabled. -/
def Core.hostQueue (c : Core) (q : Nat) : Bool :=
  decide (c.fld (R.Q_CFG.at q) 0 1 = 1) && decide (c.fld (R.Q_CFG.at q) 1 1 = 0)

/-- PCIe bytes per second of a list of loads: 64 B per record of each LOC 0 queue. -/
def Core.pcieBytes (c : Core) (l : List (Nat × Nat)) : Nat :=
  (l.map (fun e => if c.hostQueue e.1 then 64 * e.2 else 0)).sum / 1000000

/-- The Ethernet capacity, bit/s (R282). -/
def Core.ethCapacity (c : Core) : Nat := if c.fld R.ETH_CFG.at 1 1 = 1 then 2000000000 else 8000000000

/-- Bit/s of an AES67 stream with configuration word `w` (R280, R282). -/
def aesBits (w : Word) : Nat :=
  let pt := fieldOf w 1 2
  let samples := if pt = 0 then 48 else if pt = 1 then 12 else 6
  (12 + 3 * fieldOf w 3 4 * samples + 78) * 8 * (48000 / samples)

/-- Bit/s of the pennant stream for a pennant rate in millionths (R282). -/
def penBits (rate : Nat) : Nat := (32 * rate / 1000000 + 82 * 1000) * 8

/-- The rate of pennants copied to the UDP stream. -/
def Core.penRate (c : Core) : Nat := (c.openStalls.map (fun n => (c.rateCfg n).ethRate c.routeByte)).sum

/-- Ethernet bit/s in use. -/
def Core.ethUsed (c : Core) : Nat :=
  ((List.range 64).map (fun s => let w := c.reg (R.AES_CFG.at s); if bitOf w 0 then aesBits w else 0)).sum
  + (if c.fld R.PEN_CFG.at 0 1 = 1 then penBits c.penRate else 0)

/-- The LINK check of R282 for loads that change from `old` to `new` and pennants copied to the UDP stream. -/
def Core.linkFits (c : Core) (all old new : List (Nat × Nat)) (oldEth newEth : Nat) : Bool :=
  (decide (c.pcieBytes new ≤ c.pcieBytes old) ||
    decide (c.pcieBytes all + c.pcieBytes new ≤ c.pcieCap * 1000000 + c.pcieBytes old)) &&
  (decide (newEth ≤ oldEth) || decide (c.fld R.PEN_CFG.at 0 1 = 0) ||
    decide (c.ethUsed + 256 * (newEth - oldEth) / 1000000 ≤ c.ethCapacity))

/-- A member's bay holds the team's latency and 64 ms (R282). Only an IQ tap's bay can be short of it. -/
def bayDeepEnough (cls period latency : Nat) : Bool :=
  let samples := if cls = clsIq then 5080 * 1024 else 3000 * 1024
  decide (latency + 3145728 ≤ samples * period)

/-- The QUEUE check of R498 for a change of stall `n`'s settings from those in force. -/
def Core.ratesFit (c : Core) (n : Nat) (r : RateCfg) : Bool :=
  if c.stState n = 0 then true
  else c.queueFits c.allLoads (c.stallLoads n) (r.loads c.routeByte c.alertQueue)

/-- A write that the QUEUE check of R498 refuses: ST_EVENT.REFUSED and OPEN_RESULT.CODE, with SEQ unchanged. -/
def Core.refuseRate (c : Core) (n : Nat) : Core × Bool := (c.setFld R.OPEN_RESULT.at 0 4 0xC).refuseStall n

end Sys2Proof.Machine
end

