-- ==== Sys2Proof/Machine/Listen.lean ====
section
/-! DEFINITION. The listening set: what adding and dropping a decode do (R195, R196, R198, R200, R224, R259, R266), shared by
the host's paths and Hoist. -/

namespace Sys2Proof.Machine

/-- Entry `i` of stall `n`'s service table holds a service (R199). -/
def Core.svcValid (c : Core) (n i : Nat) : Bool := decide (c.fld (R.SVC_INFO.at n i) 11 1 = 1)

/-- The entry of stall `n`'s service table that holds a service and component (R199). -/
def Core.service (c : Core) (n sid comp : Nat) : Option Nat :=
  (List.range 64).find? (fun i =>
    c.svcValid n i && decide ((c.reg (R.SVC_SID.at n i)).toNat = sid) && decide (c.fld (R.SVC_INFO.at n i) 12 4 = comp))

/-- Decoder units of a codec (R195). -/
def codecUnits (codec : Nat) : Nat := match codec with | 1 => 1 | 2 => 2 | 3 => 3 | _ => 0

/-- Decoder units held on core `k`. -/
def Core.coreUnits (c : Core) (k : Nat) : Nat :=
  (c.decodes.map (fun d =>
    if c.fld (R.LS_CTL.at d) 24 3 = k then codecUnits (c.fld (R.LS_CTL.at d) 20 3) else 0)).sum

/-- The lowest-numbered core with room for `u` units (R196). -/
def Core.coreWithRoom (c : Core) (u : Nat) : Option Nat := (List.range 8).find? (fun k => !c.regionRetired (0x150 + k) && decide (c.coreUnits k + u ≤ 16))

/-- Hidden state of decode `d`. -/
def Core.dec (c : Core) (d : Nat) : DecodeRec := Table.get (fun _ => {}) c.decs d

/-- `c` with that state replaced. -/
def Core.setDec (c : Core) (d : Nat) (x : DecodeRec) : Core := { c with decs := Table.set (fun _ => {}) c.decs d x }

/-- The key of a bay in `bays`. -/
def stallBay (n output : Nat) : Nat := 2 * n + (if output = 1 then 1 else 0)
/-- The bay of decode `d`. -/
def decodeBayKey (d : Nat) : Nat := 512 + d
/-- The ring of member `m`. -/
def memberBay (m : Nat) : Nat := 1024 + m
/-- The input bay of port `p`. -/
def portBay (p : Nat) : Nat := 2048 + p

/-- `c` with bay `k` at BLOCK_SEQ 0 and nothing open (R259). -/
def Core.resetBay (c : Core) (k : Nat) : Core := { c with bays := Table.set (fun _ => {}) c.bays k { fresh := true } }

/-- The team checks of an OPEN or an ADD (R129, R196): CONFIG for a team that is not open. -/
def Core.teamNamed (c : Core) (team : Nat) : Bool := decide (team = 0xFF) || c.teamOpen team

/-- The state rule of an ADD: the stall carries digital services and is neither CLOSED, CLOSING nor FAULT (R196). -/
def Core.addable (c : Core) (n : Nat) : Bool :=
  let st := c.stState n
  (decide (c.cls n = clsDab) || decide (c.cls n = clsDrm) || decide (c.cls n = clsDrmPlus)) &&
    decide (st ≠ 0) && decide (st ≠ 6) && decide (st ≠ 7)

/-- Bytes per second that an ADD takes (R282). -/
def addBytes (team : Nat) : Nat := decodeBay + (if team = 0xFF then 0 else memberCost decodeBay 1024)

/-- The checks of R196 in their order: the code of the first that fails, 0 for none. -/
def Core.addCheck (c : Core) (n sid comp team : Nat) : Nat :=
  if !c.addable n then 1
  else
    match c.service n sid comp with
    | none => 2
    | some i =>
      let codec := c.fld (R.SVC_INFO.at n i) 8 3
      let twice := c.decodes.any (fun d => decide (c.fld (R.LS_CTL.at d) 0 8 = n) &&
        decide ((c.reg (R.LS_SID.at d)).toNat = sid) && decide (c.fld (R.LS_CTL.at d) 16 4 = comp))
      if codec = 0 ∨ codec = 4 ∨ twice = true ∨ c.teamNamed team = false then 2
      else if 64 ≤ c.decodes.length ∨ (team ≠ 0xFF ∧ c.teamRoom team = false) then 8
      else if (c.coreWithRoom (codecUnits codec)).isNone then 0xE
      else if shedCapacity < c.shedUsed + addBytes team then 0xA
      else if team ≠ 0xFF ∧ !bayDeepEnough clsDab 1024 (c.teamLatency team) then 0xA
      else if team ≠ 0xFF ∧ c.teamLatency team < c.decodeMinimum n then 0xD
      else 0

/-- Add a decode: the code, and the index and core it takes (R196). -/
def Core.addDecode (c : Core) (n sid comp team : Nat) (owner : Option Nat) : Core × Nat × Nat × Nat :=
  let code := c.addCheck n sid comp team
  if code ≠ 0 then (c, code, 0, 0)
  else
    let i := (c.service n sid comp).getD 0
    let codec := c.fld (R.SVC_INFO.at n i) 8 3
    let d := ((List.range 64).find? (fun d => decide (c.decodeState d = 0))).getD 0
    let k := (c.coreWithRoom (codecUnits codec)).getD 0
    let c1 := (c.setNat (R.LS_SID.at d) sid).setNat (R.LS_CTL.at d)
      (n + team % 256 * 2 ^ 8 + comp % 16 * 2 ^ 16 + codec * 2 ^ 20 + k * 2 ^ 24 + 2 ^ 28)
    let c2 := ((c1.setNat (R.LS_FRAMES.at d) 0).setNat (R.LS_STAT.at d) 0).setDec d { owner := owner }
    let c3 := c2.resetBay (decodeBayKey d)
    (if team = 0xFF then c3 else c3.joinTeam team 1 d, 0, d, k)

/-- Decode `d` becomes FREE (R196, R198): its units and its member place are returned. -/
def Core.freeDecode (c : Core) (d : Nat) : Core :=
  (((c.leaveTeam 1 d).setNat (R.LS_SID.at d) 0).setNat (R.LS_CTL.at d) 0).setDec d {}

/-- Decode `d` enters a state of R198. -/
def Core.setDecodeState (c : Core) (d st : Nat) : Core := c.setFld (R.LS_CTL.at d) 28 4 st

/-- The decodes of stall `n`. -/
def Core.decodesOf (c : Core) (n : Nat) : List Nat :=
  c.decodes.filter (fun d => decide (c.fld (R.LS_CTL.at d) 0 8 = n))

/-- Every decode of stall `n` that is DECODING or HELD waits: its service or subchannel is absent (R198). -/
def Core.waitDecodes (c : Core) (n : Nat) : Core := (c.decodesOf n).foldl (fun x d => x.setDecodeState d 1) c

/-- LS_RESULT after a GO (R200). -/
def Core.lsResult (c : Core) (code index : Nat) : Core :=
  ((c.setFld R.LS_RESULT.at 0 4 code).setFld R.LS_RESULT.at 8 6 index).wrapFld R.LS_RESULT.at 16 8

end Sys2Proof.Machine
end

