-- ==== Sys2Proof/Machine/HoistOps.lean ====
section
/-! DEFINITION. What the Stable, the resets and Hoist itself do to a hoist: ending one, releasing scouts, returning the service
stream to FM audio (R209, R210, R215, R219, R224, R227, R229), and the engine delays E of R71. -/

namespace Sys2Proof.Machine

/-! ### Engine delays and stamps (R71, R74, R112, R150, R174) -/

/-- E of an output of a class in fine cycles; none where the class does not number the output (R74). -/
def engineDelay (cls output : Nat) : Option Nat :=
  match cls, output with
  | 1, 0 => some 1536 | 1, 1 => some 4032 | 1, 2 => some 6144 | 1, 3 => some 0 | 1, 4 => some 64
  | 2, 0 => some 3072 | 2, 1 => some 16384 | 2, 2 => some 0 | 2, 3 => some 3072
  | 3, 0 => some 393216 | 3, 1 => some 49152 | 3, 2 => some 98304 | 3, 3 => some 49152 | 3, 4 => some 393216
  | 4, 0 => some 491520 | 4, 1 => some 98304 | 4, 2 => some 245760 | 4, 3 => some 98304 | 4, 4 => some 491520
  | 5, 0 => some 491520 | 5, 1 => some 98304 | 5, 2 => some 245760 | 5, 3 => some 98304 | 5, 4 => some 491520
  | 6, 0 => some 2457600 | 6, 1 => some 2457600 | 6, 2 => some 2457600
  | 7, 0 => some 0
  | _, _ => none

/-- F of stall `n` (R72, R112). -/
def Core.filtDelay (c : Core) (n : Nat) : Nat := match c.chain n with | some g => g.filt | none => 0

/-- A + F + E of an output of stall `n` (R71). -/
def Core.delay (c : Core) (n output : Nat) : Nat :=
  c.anaDelay n + c.filtDelay n + (engineDelay (c.cls n) output).getD 0

/-- The antenna instant of what an output of stall `n` completes at the start of the current tick. -/
def Core.antenna (c : Core) (n output : Nat) : Nat := c.time - c.delay n output

/-! ### Hoist state -/

/-- Hidden hoist state of stall `n`. -/
def Core.hoist (c : Core) (n : Nat) : HoistRec := Table.get (fun _ => {}) c.hoists n

/-- `c` with that state replaced. -/
def Core.setHoist (c : Core) (n : Nat) (h : HoistRec) : Core := { c with hoists := Table.set (fun _ => {}) c.hoists n h }

/-- HS_STATUS.STATE (R219): 0 OFF, 1 WATCH, 2 SEEK, 3 ALIGN, 4 SWITCH, 5 HOLD. -/
def Core.hsState (c : Core) (n : Nat) : Nat := c.fld (R.HS_STATUS.at n) 0 3

/-- `c` with that state changed. -/
def Core.setHs (c : Core) (n st : Nat) : Core := c.setFld (R.HS_STATUS.at n) 0 3 st

/-- HS_STATUS.SRC: the stream is carried by Hoist's decode. -/
def Core.hsSrc (c : Core) (n : Nat) : Bool := decide (c.fld (R.HS_STATUS.at n) 3 1 = 1)

/-- HS_STATUS.DEC. -/
def Core.hsDec (c : Core) (n : Nat) : Nat := c.fld (R.HS_STATUS.at n) 4 6

/-- HS_STATUS.CAND. -/
def Core.hsCand (c : Core) (n : Nat) : Nat := c.fld (R.HS_STATUS.at n) 10 6

/-- The state of candidate `e` of stall `n` (R231): 0 EMPTY, 1 KNOWN, 2 VISIT, 3 QUALIFYING, 4 QUALIFIED, 5 ALIGN, 6 SWITCH,
7 CURRENT, 8 BARRED. -/
def Core.candState (c : Core) (n e : Nat) : Nat := c.fld (R.AFE_STATE.at n e) 0 4

/-- `c` with that state changed. -/
def Core.setCand (c : Core) (n e st : Nat) : Core := c.setFld (R.AFE_STATE.at n e) 0 4 st

/-- Hidden state of candidate `e`. -/
def Core.cand (c : Core) (n e : Nat) : CandRec := Table.get (fun _ => {}) (c.hoist n).cands e

/-- `c` with it replaced. -/
def Core.setCandRec (c : Core) (n e : Nat) (x : CandRec) : Core :=
  let h := c.hoist n
  c.setHoist n { h with cands := Table.set (fun _ => {}) h.cands e x }

/-- The entry that reads CURRENT. -/
def Core.currentCand (c : Core) (n : Nat) : Option Nat := (List.range 40).find? (fun e => decide (c.candState n e = 7))

/-- Ticks per second. -/
def ticksPerSecond : Nat := 1024000

/-- Entry `e` is barred for BAR_TIME (R217). -/
def Core.barCand (c : Core) (n e : Nat) : Core :=
  (c.setCand n e 8).setCandRec n e
    { c.cand n e with qual := 0, lossQual := 0, barEnd := some (c.now + c.fld R.HOIST_AGE.at 16 16 * ticksPerSecond) }

/-- The scouts that serve stall `n` for Hoist. -/
def Core.scoutsOf (c : Core) (n : Nat) : List Nat :=
  (c.scouts.filter (fun e => decide (e.2.stall = n) && (decide (e.2.use = 1) || decide (e.2.use = 2)))).map (·.1)

/-- Scout `i` is released; an entry that it served and that was being visited or qualifying reads KNOWN again. -/
def Core.releaseScout (c : Core) (i : Nat) : Core :=
  let x := c.scout i
  let d := c.setScout i {}
  if (x.use = 1 ∨ x.use = 2) ∧ 2 ≤ c.candState x.stall x.entry ∧ c.candState x.stall x.entry ≤ 4 then
    (d.setCand x.stall x.entry 1).setCandRec x.stall x.entry
      { c.cand x.stall x.entry with qual := 0, lossQual := 0, visited := some c.now }
  else d

/-- Every scout of stall `n` is released. -/
def Core.releaseScouts (c : Core) (n : Nat) : Core := (c.scoutsOf n).foldl Core.releaseScout c

/-- The two parts of a HOIST pennant (R229, R239). -/
def hoistPennants (n stamp kind result entry rescue detail dec oldS newS oldD newD h : Nat) (delta ofs : Int)
    (rho : Nat) (gain oldM newM : Int) : List Pennant :=
  let p := stallPennant n 0x20 stamp 100
  [{ p 0 (leBytes 1 (kind + 16 * result) ++ leBytes 1 (entry + 64 * rescue) ++ leBytes 1 detail ++ leBytes 1 dec ++
      leBytes 4 oldS ++ leBytes 4 newS ++ leBytes 1 oldD ++ leBytes 1 newD ++ leBytes 4 h) with more := true },
   p 1 (leBytes 4 (codeOf 32 delta) ++ leBytes 4 (codeOf 32 ofs) ++ leBytes 1 rho ++ leBytes 1 0 ++
      leBytes 2 (codeOf 16 gain) ++ leBytes 2 (codeOf 16 oldM) ++ leBytes 2 (codeOf 16 newM))]

/-- A hoist of stall `n` has ended with a result at tick `tick` (R227, R229, R230): HS_LAST, the counters, the events and the
pennants. -/
def Core.hoistEnded (c : Core) (n result detail tick stamp : Nat) : Core :=
  let h := c.hoist n
  let e := c.hsCand n
  let dab := decide (h.kind = 2)
  let entry := if h.kind = 3 then 0 else e
  let newS := if h.kind = 3 then (c.reg (R.ST_FREQ.at n)).toNat else (c.reg (R.AFE_TARGET.at n e)).toNat
  let newD := if dab then c.fld (R.AFE_CTL.at n e) 8 8 else 255
  let dec := if (c.dec (c.hsDec n)).owner = some n then c.hsDec n else 255
  let last := h.kind + 16 * result + 256 * entry + 2 ^ 14 * b2n h.rescue + 2 ^ 16 * detail +
    2 ^ 24 * ((c.fld (R.HS_LAST.at n) 24 8 + 1) % 256)
  let c1 := (c.setNat (R.HS_LAST.at n) last).setNat (R.HS_LAST_TICK.at n) tick
  let c2 := c1.stEvent n 4
  let c3 := if result = 0 then (((c2.bump (R.HS_CNT_DONE.at n)).bump R.CNT_DONE.at).event 8 0).tally 36
    else ((c2.bump (R.HS_CNT_ABANDON.at n)).bump R.CNT_ABANDON.at).event 8 1
  (hoistPennants n stamp h.kind result entry (b2n h.rescue) detail dec h.oldSource newS h.oldStall newD tick
    (if result = 0 then h.delta else 0) (signedOf 32 (c.reg (R.HS_OFS.at n)).toNat) h.rho h.gain h.oldMargin
    h.newMargin).foldl Core.emit c3

/-- A hoist in progress is abandoned (R227). -/
def Core.abandonHoist (c : Core) (n result detail : Nat) : Core :=
  let h := c.hoist n
  if h.kind = 0 then c
  else
    let e := c.hsCand n
    let c1 := c.hoistEnded n result detail c.now (c.antenna n 0)
    let c2 := ((c1.scoutsOf n).filter (fun i => decide ((c1.scout i).use = 2))).foldl Core.releaseScout c1
    let c3 := if h.kind = 2 ∧ (c2.dec (c2.hsDec n)).owner = some n ∧ c2.hsSrc n = false then
        (c2.freeDecode (c2.hsDec n)).setFld (R.HS_STATUS.at n) 4 6 0 else c2
    let c4 := if h.h.isSome then c3.freeOwn 9 n else c3
    let c5 := if h.kind = 3 then c4
      else if result = 2 ∨ result = 4 ∨ result = 8 then c4.barCand n e
      else (c4.setCand n e 1).setCandRec n e { c4.cand n e with qual := 0, lossQual := 0, visited := some c.now }
    let c6 := (c5.setHs n h.prior).setFld (R.HS_STATUS.at n) 10 6 ((c5.currentCand n).getD 0)
    c6.setHoist n { c6.hoist n with kind := 0, tries := 0, silent := true, passed := false, h := none, lost := 0,
                                    rescue := false }

/-- The entry that reads CURRENT reads KNOWN. -/
def Core.leaveCurrent (c : Core) (n : Nat) : Core :=
  match c.currentCand n with
  | none => c
  | some e => c.setCand n e 1

/-- The service stream returns to the stall's FM audio and Hoist's decode is dropped, without a hoist (R210, R219, R224); its
LINK entry is no longer CURRENT. -/
def Core.streamToFm (c : Core) (n : Nat) (ofs : Word) : Core :=
  if c.hsSrc n then
    (((((c.leaveCurrent n).freeDecode (c.hsDec n)).setFld (R.HS_STATUS.at n) 3 1 0).setFld (R.HS_STATUS.at n) 4 12 0).setReg
      (R.HS_OFS.at n) ofs).setHoist n { c.hoist n with fadeEnd := none }
  else c

/-- What a synchronising reset does to Hoist (R210): a hoist in ALIGN or SWITCH is abandoned with HOST, OFS and HS_OFS_FM
are 0, and the stream is the stall's FM audio. -/
def Core.hoistReset (c : Core) (n : Nat) : Core :=
  let c1 := (c.abandonHoist n 1 0).streamToFm n 0
  (c1.setReg (R.HS_OFS.at n) 0).setReg (R.HS_OFS_FM.at n) 0

/-- The stall leaves RUNNING (R219): a hoist in progress is abandoned with CLOSE and the scouts are released. -/
def Core.hoistStop (c : Core) (n : Nat) : Core := (c.abandonHoist n 7 0).releaseScouts n

/-- Decode `d` is dropped by a host (R198, R224): a decode of Hoist's leaves the stream to the FM audio at HS_OFS_FM. -/
def Core.dropDecode (c : Core) (d : Nat) : Core :=
  match (c.dec d).owner with
  | none => c.freeDecode d
  | some n =>
    if c.hsSrc n && decide (c.hsDec n = d) then
      let c1 := c.abandonHoist n 5 0
      c1.streamToFm n (c1.reg (R.HS_OFS_FM.at n))
    else if (c.hoist n).kind = 2 then c.abandonHoist n 5 0
    else c.freeDecode d

end Sys2Proof.Machine
end

