-- ==== Sys2Proof/Machine/Bays.lean ====
section
/-! DEFINITION. The Shed's bays: where they lie, how a sample block and a native frame are written, and the descriptors that
subscriptions make of them (R193, R194, R258 to R263, R271 to R273). -/

namespace Sys2Proof.Machine

/-! ### Where bays lie (R258, R259) -/

/-- One bay: its Shed address, block stride and number of blocks; frame bays have stride 1 and 40 MiB "blocks" of a byte. -/
structure BayGeo where
  base : Nat
  stride : Nat
  blocks : Nat
deriving DecidableEq, Repr

/-- The bytes of a frame bay. -/
def frameRing : Nat := 0x2800000

/-- The bay of a source (0 stall, 1 decode, 2 member, 3 port), its MPX bay when `mpx`. -/
def Core.bayGeo (c : Core) (kind idx : Nat) (mpx : Bool) : Option BayGeo :=
  match kind with
  | 0 =>
    let base := idx * 0x2800000
    match c.cls idx with
    | 1 => some (if mpx then ⟨base + 0x1800000, 4160, 3000⟩ else ⟨base, 8256, 3000⟩)
    | 2 => some ⟨base, 4160, 3000⟩
    | 3 => some ⟨base, 1, frameRing⟩
    | 4 => some ⟨base, 1, frameRing⟩
    | 5 => some ⟨base, 1, frameRing⟩
    | 7 => some ⟨base, 8256, 5080⟩
    | _ => none
  | 1 => some ⟨0x280000000 + idx * 0x1800000, 8256, 3000⟩
  | 2 => some ⟨0x2E0000000 + idx * 0x100000, 8256, 120⟩
  | _ => some ⟨0x2F0000000 + idx * 0x2000000, 65600, 511⟩

/-- The key of a bay in `bays`. -/
def bayKey (kind idx : Nat) (mpx : Bool) : Nat :=
  match kind with
  | 0 => stallBay idx (if mpx then 1 else 0)
  | 1 => decodeBayKey idx
  | 2 => memberBay idx
  | _ => portBay idx

/-- Hidden state of the bay with key `k`. -/
def Core.bay (c : Core) (k : Nat) : BayRec := Table.get (fun _ => {}) c.bays k

/-- `c` with that state replaced. -/
def Core.setBay (c : Core) (k : Nat) (x : BayRec) : Core := { c with bays := Table.set (fun _ => {}) c.bays k x }

/-- The valid subscriptions that a predicate names, with their queues, by index. -/
def Core.subsOf (c : Core) (f : Sub → Bool) : List Nat :=
  (c.subs.filter (fun e => e.2.valid && f e.2)).map (fun e => e.2.queue)

/-! ### Native frames (R193, R194, R263) -/

/-- A native frame's record: header, CRC-32C, payload and padding. -/
def frameBytes (stamp n kind subch flags seq index errinfo : Nat) (payload : List Byte) : List Byte :=
  let head := leBytes 8 stamp ++ leBytes 1 n ++ leBytes 1 kind ++ leBytes 1 subch ++ leBytes 1 flags ++
    leBytes 2 payload.length ++ leBytes 2 seq ++ leBytes 2 index ++ leBytes 1 errinfo ++ leBytes 1 0
  let pad := (8 - payload.length % 8) % 8
  head ++ leBytes 4 (crc32c (head ++ payload)) ++ payload ++ List.replicate pad 0

/-- The filler that ends the ring when `left` bytes are left. -/
def fillerBytes (n left : Nat) : List Byte :=
  if left < 24 then List.replicate left 0
  else frameBytes 0 n 0 0xFF 0 0 0 0 (List.replicate (left - 24) 0)

/-- Write a native frame into stall `n`'s frame bay and emit its descriptors (R193, R194, R263, R271, R273). `flags` holds
ERR, RECONF and RESTART; LATE is added when the frame reaches the bay after its 50 ms, and a late frame without a
subscription is a miss of its own (R255). `out` is the OUTPUT that completes the frame. -/
def Core.writeFrame (c : Core) (n out stamp kind subch flags seq index errinfo : Nat) (payload : List Byte) : Core :=
  let k := stallBay n 0
  let due := stamp + c.delay n out + fineMs 50
  let late := decide (due < c.time)
  let fl := flags + (if late then 2 else 0)
  let bytes := frameBytes stamp n kind subch fl seq index errinfo payload
  let off := (c.bay k).written % frameRing
  let left := frameRing - off
  let fits := decide (bytes.length ≤ left)
  let at_ := n * 0x2800000 + (if fits then off else 0)
  let c1 := if fits then c else c.shedWrite (n * 0x2800000 + off) (fillerBytes n left)
  let c2 := (c1.shedWrite at_ bytes).setBay k
    { c.bay k with written := (c.bay k).written + (if fits then 0 else left) + bytes.length }
  let queues := c2.subsOf (fun s => decide (s.kind = 0) && decide (s.source = n) &&
    (decide (s.sel = 0xFF) || decide (s.sel = subch)))
  let c3 := if late && queues.isEmpty then
      c2.deadlineMiss n true out 3 0x60 0 stamp false ((c2.time - due + 47) / 48) else c2
  queues.foldl (fun d q => d.emit
    { stamp := stamp, typ := 0x60, source := n, sub := subch, queue := some q, due := some due, output := out,
      payload := leBytes 1 kind ++ leBytes 1 fl ++ leBytes 2 payload.length ++ leBytes 5 at_ ++ leBytes 3 0 ++
        leBytes 2 seq ++ leBytes 2 index }) c3

/-! ### Sample blocks (R260 to R262, R272, R273) -/

/-- What a closing block carries from outside: its samples, channel-interleaved, and the stamp of the first. -/
structure BlockIn where
  stamp : Nat
  words : List Word
deriving DecidableEq, Repr

/-- KIND, CHANNELS and OUTPUT of a block of a source. -/
def Core.blockKind (c : Core) (kind idx : Nat) (mpx : Bool) : Nat × Nat × Nat :=
  match kind with
  | 0 =>
    if c.cls idx = clsFm then (if mpx then (2, 1, 1) else (1, 2, 0))
    else if c.cls idx = clsAm then (3, 1, 0)
    else (4, 2, 0)
  | 1 => (5, 2, 4)
  | 2 =>
    let dec := decide (c.fld (R.MEMBER.at idx) 6 2 = 1)
    (6, if !dec && decide (c.cls (c.fld (R.MEMBER.at idx) 8 8) = clsAm) then 1 else 2, if dec then 4 else 0)
  | _ => (7, 16, 0)

/-- The period of a bay's samples, fine cycles. -/
def Core.blockPeriod (c : Core) (kind idx : Nat) (mpx : Bool) : Nat :=
  match kind with
  | 2 => c.memberPeriod idx
  | 0 => c.outputPeriod 0 idx (if mpx then 1 else 0)
  | _ => 1024

/-- The team whose stream a source carries; 0xFF none (R272). -/
def Core.teamOf (c : Core) (kind idx : Nat) : Nat :=
  match kind with
  | 0 => (match c.memberOf 0 idx with | some m => c.memberTeam m | none => 0xFF)
  | 1 => (match c.memberOf 1 idx with | some m => c.memberTeam m | none => 0xFF)
  | 2 => c.memberTeam idx
  | _ => 0xFF

/-- Some sample word carries mark `b`. -/
def anyMark (l : List Word) (b : Nat) : Bool := l.any (fun w => bitOf w b)

/-- Close a block of a bay (R260, R262, R270): write it, count it, and emit the descriptors of its subscriptions. `ofs` and
`resid` hold for presented blocks and are 0 otherwise. -/
def Core.closeBlock (c : Core) (kind idx : Nat) (mpx : Bool) (x : BlockIn) (ofs : Word) (resid : Nat) : Core :=
  match c.bayGeo kind idx mpx with
  | none => c
  | some g =>
    let k := bayKey kind idx mpx
    let b := c.bay k
    let kk := c.blockKind kind idx mpx
    let p := c.blockPeriod kind idx mpx
    let count := x.words.length / kk.2.1
    if count = 0 ∨ 1024 < count ∨ x.words.length % kk.2.1 ≠ 0 ∨ g.stride = 1 then c
    else
      let gap := match b.next with | some s => decide (s ≠ x.stamp) && !b.fresh | none => false
      let fl := b2n b.fresh + 2 * b2n gap + 4 * b2n (anyMark x.words 1) + 8 * b2n (anyMark x.words 2) +
        16 * b2n (anyMark x.words 3)
      let addr := g.base + g.stride * (b.written % g.blocks)
      let head := leBytes 8 x.stamp ++ leBytes 8 b.written ++ leBytes 1 kk.1 ++ leBytes 1 fl ++ leBytes 1 kk.2.1 ++
        leBytes 1 kk.2.2 ++ leBytes 2 count ++ leBytes 2 0 ++ leBytes 4 p ++ leBytes 4 ofs.toNat ++ leBytes 2 resid ++
        leBytes 2 0 ++ leBytes 1 idx ++ leBytes 1 kind ++ leBytes 26 0
      let c1 := (c.shedWrite addr (head ++ x.words.flatMap (fun w => leBytes 4 w.toNat))).setBay k
        { b with written := b.written + 1, done := b.done + count, next := some (x.stamp + count * p), fresh := false }
      let last := x.stamp + (count - 1) * p
      let due := if kind = 2 then (last + 47) / 48 * 48 else c.time + fineMs 2
      let subNo := if kind = 2 then 1 else if kind = 3 then 2 else 0
      let queues := c1.subsOf (fun s =>
        match kind with
        | 2 => decide (s.kind = 2) && decide (s.source = idx)
        | 3 => decide (s.kind = 3) && decide (s.source = idx)
        | _ => decide (s.kind = 1) && decide (s.srcKind = kind) && decide (s.source = idx) &&
            (decide (kind = 1) || decide (s.sel = kk.2.2)))
      queues.foldl (fun d q => d.emit
        { stamp := x.stamp, typ := 0x61, source := idx, stall := decide (kind = 0), sub := subNo, queue := some q,
          due := some due, output := kk.2.2,
          payload := leBytes 1 kk.1 ++ leBytes 1 fl ++ leBytes 2 count ++ leBytes 5 addr ++
            leBytes 1 (c1.teamOf kind idx) ++ leBytes 1 kk.2.2 ++ leBytes 1 kind ++ leBytes 4 b.written }) c1

end Sys2Proof.Machine
end

