-- ==== Sys2Proof/Machine/Follow.lean ====
section
/-! DEFINITION. Candidates that Hoist adds by itself (R212, R213) and what the stall does at tick H of a hoist (R209, R222 to R225),
shared by the engines, the Stable and Hoist. -/

namespace Sys2Proof.Machine

/-! ### Engine state -/

/-- Hidden state of the FM engine of stall `n`. -/
def Core.fmRec (c : Core) (n : Nat) : FmRec := Table.get (fun _ => {}) c.fm n
/-- `c` with it replaced. -/
def Core.setFm (c : Core) (n : Nat) (x : FmRec) : Core := { c with fm := Table.set (fun _ => {}) c.fm n x }
/-- Hidden state of the AM engine of stall `n`. -/
def Core.amRec (c : Core) (n : Nat) : AmRec := Table.get (fun _ => {}) c.am n
/-- `c` with it replaced. -/
def Core.setAm (c : Core) (n : Nat) (x : AmRec) : Core := { c with am := Table.set (fun _ => {}) c.am n x }
/-- Hidden state of the DAB engine of stall `n`. -/
def Core.dabRec (c : Core) (n : Nat) : DabRec := Table.get (fun _ => {}) c.dab n
/-- `c` with it replaced. -/
def Core.setDab (c : Core) (n : Nat) (x : DabRec) : Core := { c with dab := Table.set (fun _ => {}) c.dab n x }
/-- Hidden state of the DRM engine of stall `n`. -/
def Core.drmRec (c : Core) (n : Nat) : DrmRec := Table.get (fun _ => {}) c.drm n
/-- `c` with it replaced. -/
def Core.setDrm (c : Core) (n : Nat) (x : DrmRec) : Core := { c with drm := Table.set (fun _ => {}) c.drm n x }
/-- Hidden state of the timecode engine of stall `n`. -/
def Core.tcRec (c : Core) (n : Nat) : TcRec := Table.get (fun _ => {}) c.tc n
/-- `c` with it replaced. -/
def Core.setTc (c : Core) (n : Nat) (x : TcRec) : Core := { c with tc := Table.set (fun _ => {}) c.tc n x }
/-- Stream `i` of an FM engine. -/
def FmRec.stream (f : FmRec) (i : Nat) : RdsStream := Table.get (fun _ => {}) f.streams i
/-- `f` with stream `i` replaced. -/
def FmRec.setStream (f : FmRec) (i : Nat) (x : RdsStream) : FmRec := { f with streams := Table.set (fun _ => {}) f.streams i x }

/-! ### Candidates -/

/-- KIND of candidate `e` of stall `n`: 0 empty, 1 AF, 2 LINK. -/
def Core.afKind (c : Core) (n e : Nat) : Nat := c.fld (R.AFE_CTL.at n e) 0 2

/-- AFE_CTL.BLOCK. -/
def Core.afBlocked (c : Core) (n e : Nat) : Bool := bitOf (c.reg (R.AFE_CTL.at n e)) 5

/-- The last mean margin of candidate `e`, in 1/256 dB; its reset value reads lowest. -/
def Core.afMargin (c : Core) (n e : Nat) : Int := signedOf 16 (c.fld (R.AFE_MEAS.at n e) 0 16)

/-- Candidate `e` becomes EMPTY. -/
def Core.clearCand (c : Core) (n e : Nat) : Core :=
  ((((c.setReg (R.AFE_TARGET.at n e) 0).setReg (R.AFE_CTL.at n e) 0).setReg (R.AFE_MEAS.at n e)
    (resetValue (R.AFE_MEAS.at n e))).setReg (R.AFE_STATE.at n e) 0).setCandRec n e {}

/-- The entry that already holds a frequency or a link. -/
def Core.findCand (c : Core) (n kind target dabStall comp : Nat) : Option Nat :=
  (List.range 40).find? (fun e =>
    decide (c.afKind n e = kind) && decide ((c.reg (R.AFE_TARGET.at n e)).toNat = target) &&
      (decide (kind = 1) ||
        (decide (c.fld (R.AFE_CTL.at n e) 8 8 = dabStall) && decide (c.fld (R.AFE_CTL.at n e) 16 4 = comp))))

/-- The entry of least margin among a list, the lowest-numbered of several. -/
def Core.leastMargin (c : Core) (n : Nat) (l : List Nat) : Option Nat :=
  l.foldl (fun b e => match b with
    | none => some e
    | some x => if c.afMargin n e < c.afMargin n x then some e else some x) none

/-- The automatic place that a new entry takes: the lowest empty one, else the one of lowest margin that is KNOWN or
BARRED and not blocked (R213). -/
def Core.autoPlace (c : Core) (n : Nat) : Option Nat :=
  let places := (List.range 32).map (· + 8)
  match places.find? (fun e => decide (c.afKind n e = 0)) with
  | some e => some e
  | none => c.leastMargin n (places.filter (fun e =>
      (decide (c.candState n e = 1) || decide (c.candState n e = 8)) && !c.afBlocked n e))

/-- A source names a candidate (R212): an entry that holds it is confirmed; otherwise an automatic entry is made. -/
def Core.addCand (c : Core) (n kind source target dabStall comp : Nat) : Core :=
  match c.findCand n kind target dabStall comp with
  | some e => c.setCandRec n e { c.cand n e with confirmed := c.now }
  | none =>
    match c.autoPlace n with
    | none => c
    | some e =>
      let d := c.clearCand n e
      (((d.setNat (R.AFE_TARGET.at n e) target).setNat (R.AFE_CTL.at n e)
        (kind + 4 * source + 256 * dabStall + 65536 * comp)).setCand n e 1).setCandRec n e { confirmed := c.now }

/-- A frequency on which the stall could follow its programme (R212, R215): not the one it is on. -/
def Core.addFreq (c : Core) (n source hz : Nat) : Core :=
  if 64000000 ≤ hz ∧ hz ≤ 108000000 ∧ (c.reg (R.ST_FREQ.at n)).toNat ≠ hz then c.addCand n 1 source hz 0 0 else c

/-! ### Samples of a chain (R111, R150) -/

/-- Samples of step `p` whose production times `first`, `first + p`, … lie before Yard time `x`. -/
def samplesBefore (first p x : Nat) : Nat := if x ≤ first then 0 else (x - first + p - 1) / p

/-- The stamp of the last audio sample that stall `n` produced before Yard time `x` (R150). -/
def Core.lastAudio (c : Core) (n x : Nat) : Nat :=
  match c.chain n with
  | none => 0
  | some g =>
    let e := (engineDelay (c.cls n) 0).getD 0
    let first := 48 * (c.stallRec n).tr + g.lproc + e
    first + 1024 * (samplesBefore first 1024 x - 1) - c.delay n 0

/-- Samples of stall `n`'s chain produced before the boundary into the next tick. -/
def Core.chainMade (c : Core) (n : Nat) : Nat :=
  match c.chain n with
  | none => 0
  | some g => samplesBefore (48 * (c.stallRec n).tr + g.lproc) g.p (48 * (c.now + 1))

/-- SETTLE samples of stall `n`'s chain: D, or the longer run after a CHAN soft reset of a VHF stall (R111, R120, R126). -/
def Core.settleLen (c : Core) (n : Nat) : Nat :=
  match c.chain n with
  | none => 0
  | some g => if (c.stallRec n).deep && g.vhf then (g.g4 + 1152 + 4 * g.p - 1) / (4 * g.p) else g.settle

/-- Samples that the chain produced before the boundary into the next tick enter D_OUT_CNT and D_SETTLE_CNT (R148). -/
def Core.foldOut (c : Core) (n : Nat) : Core :=
  let r := c.stallRec n
  let k := c.chainMade n
  let s := min k (c.settleLen n)
  (c.setNat (R.D_OUT_CNT.at n) ((c.reg (R.D_OUT_CNT.at n)).toNat + (k - r.base))).bumpBy (R.D_SETTLE_CNT.at n) (s - r.base)

/-! ### Tick H (R222 to R225) -/

/-- The team latency of stall `n`'s member; none without a member. -/
def Core.stallLatency (c : Core) (n : Nat) : Option Nat :=
  (c.memberOf 0 n).map (fun m => c.teamLatency (c.memberTeam m))

/-- The stall's unit takes over the chain of scout `i` at the boundary into the next tick (R222). -/
def Core.takeChain (c : Core) (n i target : Nat) : Core :=
  let x := c.scout i
  let old := (c.reg (R.ST_FREQ.at n)).toNat
  let c1 := ((c.foldOut n).setNat (R.ST_FREQ.at n) target).setScout i {}
  let c2 := c1.setStallRec n { c1.stallRec n with tr := x.tr, deep := false }
  let c3 := c2.setStallRec n { c2.stallRec n with base := c2.chainMade n,
                                                  countFrom := 48 * (c.now + 1) - c2.anaDelay n - c2.filtDelay n }
  let f := c3.fmRec n
  let c4 := c3.setFm n { f.setStream 0 { x.rds with groups := (f.stream 0).groups } with mpxWindows := 0 }
  let c5 := if c.fld (R.ST_ANT.at n) 0 2 = 2 then
      (c4.setNat (R.D_W_A.at n) (if x.ant = 0 then 0x7FFF else 0)).setNat (R.D_W_B.at n) (if x.ant = 0 then 0 else 0x7FFF)
    else c4
  c5.addFreq n 1 old

/-- Tick H of the hoist placed on stall `n` (R209, R222 to R225): the chain or the stream changes source, the offsets, gain
and Δ are recorded, the hoist ends DONE and HOLD begins. -/
def Core.hoistSwitch (c : Core) (n : Nat) : Core :=
  let h := c.hoist n
  let e := c.hsCand n
  let stamp := if h.kind = 3 then (c.dec (c.hsDec n)).last - 1024 else c.lastAudio n (48 * (c.now + 1))
  let ofsOld := c.reg (R.HS_OFS.at n)
  let ofsNew := BitVec.ofNat 32 (codeOf 32 h.ofsNew)
  let c1 := if h.kind = 3 then c.leaveCurrent n else (c.leaveCurrent n).setCand n e 7
  let held := (c1.scoutsOf n).find? (fun i => decide ((c1.scout i).use = 2))
  let c2 := match h.kind with
    | 1 => ((match held with | some i => c1.takeChain n i (c.reg (R.AFE_TARGET.at n e)).toNat | none => c1).setReg
        (R.HS_OFS.at n) ofsNew)
    | 2 => ((c1.setReg (R.HS_OFS_FM.at n) ofsOld).setReg (R.HS_OFS.at n) ofsNew).setFld (R.HS_STATUS.at n) 3 1 1
    | 3 => (c1.setReg (R.HS_OFS.at n) ofsNew).setFld (R.HS_STATUS.at n) 3 1 0
    | _ => ((match held with | some i => c1.takeChain n i (c.reg (R.AFE_TARGET.at n e)).toNat | none => c1).setNat
        (R.HS_OFS_FM.at n) (codeOf 32 (signedOf 32 (c.reg (R.HS_OFS_FM.at n)).toNat + h.delta)))
  let c3 := (c2.setNat (R.HS_DELTA.at n) (codeOf 32 h.delta)).setNat (R.HS_GAIN.at n)
    (codeOf 16 h.gain + 65536 * h.rho)
  let c4 := c3.hoistEnded n 0 0 c.now stamp
  let fade := if h.kind = 3 && !h.rescue then
      (c.stallLatency n).map (fun l =>
        ((stamp + l : Nat) - signedOf 32 ofsOld.toNat + 1023).toNat / 1024 * 1024 / 48 + 1)
    else none
  let c5 := if h.kind = 3 then
      if fade.isNone then (c4.freeDecode (c.hsDec n)).setFld (R.HS_STATUS.at n) 4 12 0 else c4.setFld (R.HS_STATUS.at n) 10 6 0
    else c4
  ((c5.freeOwn 9 n).setHs n 5).setHoist n
    { c5.hoist n with kind := 0, tries := 0, silent := true, passed := false, h := none, lost := 0, loss := 0,
                      rescue := false, holdEnd := some (c.now + c.fld (R.HS_DWELL.at n) 16 8 * 102400), fadeEnd := fade,
                      linkStall := (if h.kind = 2 then c.fld (R.AFE_CTL.at n e) 8 8 else h.linkStall),
                      linkSid := (if h.kind = 2 then (c.reg (R.AFE_TARGET.at n e)).toNat else h.linkSid) }

/-- A switch of stall `n` that falls due in this tick is completed ahead of a host write of the tick (R228). -/
def Core.switchFirst (c : Core) (n : Nat) : Core :=
  if c.hsState n = 4 ∧ (c.hoist n).h = some c.now then c.hoistSwitch n else c

end Sys2Proof.Machine
end

