-- ==== Sys2Proof/Machine/Stable.lean ====
section
/-! DEFINITION. The Stable (R127 to R149): admission, opening and closing, the stall state machine, moves, faults and the
host writes of a stall's configuration words. A synchronising reset that a command asks for in tick t is held in
`StallRec.syncAt` and carried out in tick T_r = t + 1 (`Machine/Sync.lean`). -/

namespace Sys2Proof.Machine

/-! ### States (R134) -/

/-- Stall `n` enters a state; every change sets STATE_CHANGE. An FM stall that enters RUNNING with HS_CTL.EN = 1 while
Hoist is OFF takes Hoist to WATCH (R219). -/
def Core.setState (c : Core) (n st : Nat) : Core :=
  if c.stState n = st then c
  else
    let d := (c.setFld (R.ST_STATUS.at n) 0 4 st).stEvent n 0
    if st = 3 ∧ c.cls n = clsFm ∧ c.fld (R.HS_CTL.at n) 0 1 = 1 ∧ c.hsState n = 0 then d.setHs n 1 else d

/-- Stall `n` produces outputs: SETTLING, RUNNING or MOVING. -/
def Core.live (c : Core) (n : Nat) : Bool := decide (c.stState n = 2 ∨ c.stState n = 3 ∨ c.stState n = 5)

/-- ST_STATUS.SETTLE of stall `n`. -/
def Core.settling (c : Core) (n : Nat) : Bool := bitOf (c.reg (R.ST_STATUS.at n)) 4

/-- The tick in which stall `n`'s chain produces sample D − 1 of its SETTLE run, sample 0 for D = 0 (R111, R120). -/
def Core.settleTick (c : Core) (n : Nat) : Nat :=
  match c.chain n with
  | none => 0
  | some g => (48 * (c.stallRec n).tr + g.lproc + g.p * (c.settleLen n - 1)) / 48

/-- SETTLE reads 0 from the next tick, unless SETTLE_END falls in this tick and clears it (R120, R135). -/
def Core.quiet (c : Core) (n : Nat) : Core :=
  if c.settling n && decide (c.settleTick n = c.now) then c else c.setFld (R.ST_STATUS.at n) 4 1 0

/-- The window length of a gait in fine cycles (R124). -/
def gaitLength (g : Nat) : Nat := match g with | 0 => 49152 | 1 => 491520 | 2 => 4915200 | _ => 49152000

/-- The window of length `w` whose last sample the chain of stall `n` produced in the tick before `t` (R124): its end, how
many counted samples it holds, and whether it excludes any. -/
def Core.windowDue (c : Core) (n w t : Nat) : Option (Nat × Nat × Bool) :=
  match c.chain n with
  | none => none
  | some g =>
    let r := c.stallRec n
    let first := 48 * r.tr + g.lproc
    let back := c.anaDelay n + g.filt
    let k0 := samplesBefore first g.p (48 * (t - 1))
    let k1 := samplesBefore first g.p (48 * t)
    if k1 ≤ k0 then none
    else
      let stamp := fun i : Nat => ((first + g.p * i : Nat) : Int) - back
      let e := (stamp k0 / (w : Int) + 1) * (w : Int)
      if e ≤ stamp (k1 - 1) + g.p then
        let counted := stamp (c.settleLen n)
        let from_ := max counted (e - w)
        some (e.toNat, ((e - from_ + g.p - 1) / (g.p : Int)).toNat, decide (e - w ≤ counted - g.p))
      else none

/-- The gait window due in tick `t` (R124): its end, gait, counted samples and PART. Until the edge of a change the old gait
publishes every window that ends by it; the new gait's windows begin at it. -/
def Core.gaitDue (c : Core) (n t : Nat) : Option (Nat × Nat × Nat × Bool) :=
  let r := c.stallRec n
  let new := c.fld (R.ST_PRESET.at n) 0 2
  let take := fun g : Nat => (c.windowDue n (gaitLength g) t).map (fun e => (e.1, g, e.2.1, e.2.2))
  if r.gaitEdge = 0 then take new
  else
    match take r.gaitOld with
    | some x => if x.1 ≤ r.gaitEdge then some x
      else (match take new with | some y => if r.gaitEdge + gaitLength new ≤ y.1 then some y else none | none => none)
    | none => (match take new with | some y => if r.gaitEdge + gaitLength new ≤ y.1 then some y else none | none => none)

/-- The gait window that the chain of stall `n` completes in this tick, with the tick in which it is published (R124). -/
def Core.lastWindow (c : Core) (n : Nat) : Option (Nat × Nat × Nat × Nat × Bool) :=
  (c.gaitDue n (c.now + 1)).map (fun e => (c.now + 1, e))

/-- A synchronising reset of stall `n` at tick `tr` is asked for (R119, R134): the samples of the old chain are counted, and
a MOVING stall returns to SETTLING when its move ends. -/
def Core.startReset (c : Core) (n tr : Nat) (deep : Bool) : Core :=
  let r := c.stallRec n
  let c0 := if c.live n && r.syncAt.isNone then c.foldOut n else c
  let c1 := (if r.syncAt.isNone then c0.bump (R.D_RESET_CNT.at n) else c0).setNat (R.D_RESET_TICK.at n) tr
  let r1 := { r with syncAt := some tr, deep := deep || (r.syncAt.isSome && r.deep),
                     lastWin := if c.live n && r.syncAt.isNone then c.lastWindow n else r.lastWin }
  if c.stState n = 5 then
    c1.setStallRec n { r1 with move := r.move.map (fun m => { m with prior := 2 }) }
  else (c1.setStallRec n r1).setState n 2

/-! ### The checking stall's interest (R419) -/

/-- CHECK_STATUS.ACTIVE for a stall check of stall `n`. -/
def Core.underCheck (c : Core) (n : Nat) : Bool :=
  let w := c.reg R.CHECK_STATUS.at
  bitOf w 8 && !bitOf w 9 && decide (fieldOf w 0 8 = n)

/-- The check that runs ends VOID (R419). -/
def Core.voidCheck (c : Core) : Core :=
  let w := c.reg R.CHECK_STATUS.at
  let n := fieldOf w 0 8
  let bank := bitOf w 9
  let c1 := (((c.setFld R.CHECK_STATUS.at 8 1 0).bump R.CHECK_VOID_CNT.at).setNat R.CHECK_LAST.at
    (n + 512 * b2n bank + 1024 + 2048 * (if bank then c.check.input else 0))).stampTick R.CHECK_LAST_TICK.at
  let c2 := c1.event 0x16 4
  if bank then c2 else (c2.setFld (R.ST_STATUS.at n) 5 1 0).effectDone 0x62 n 12 0 []

/-- A check of stall `n` that runs ends VOID. -/
def Core.voidStall (c : Core) (n : Nat) : Core := if c.underCheck n then c.voidCheck else c

/-- After an opening left no unit free, the checking stall gives up its unit and suspends (R143). -/
def Core.suspendCheck (c : Core) : Core :=
  match c.unitInUse 2 with
  | none => c
  | some u =>
    if c.freeUnits.isEmpty then
      let c1 := if bitOf (c.reg R.CHECK_STATUS.at) 8 then c.voidCheck else c
      { (c1.releaseUnit u).event 7 6 with checkSuspended := true }
    else c

/-! ### Moves (R144, R145) -/

/-- The registers of a completed move. `M` is this tick. -/
def Core.moveRecord (c : Core) (n src tgt cause : Nat) : Core :=
  (((((c.setFld (R.ST_STATUS.at n) 16 9 tgt).stEvent n 3).event 7 1).bump (R.D_MOVE_CNT.at n)).bump R.MOVE_CNT.at).setNat
    R.MOVE_LAST.at (src + 512 * tgt + 2 ^ 18 * n + 2 ^ 26 * cause + 2 ^ 31) |>.setNat R.MOVE_LAST_TICK.at (c.now + 1) |>.tally 35

/-- The unit that a move leaves: to test, to retirement or free (R144). -/
def Core.leaveUnit (c : Core) (u cause : Nat) : Core :=
  if cause = 0 then c.setUnit u 3 0 else if cause = 1 then c.retireUnit u else c.releaseUnit u

/-- A stall that holds no running state moves in one tick (R145); `M` is this tick. -/
def Core.moveNow (c : Core) (n cause : Nat) : Core :=
  match c.freeUnits.head? with
  | none => c
  | some t =>
    let u := c.unitOf n
    (((c.setUnit t 1 n).leaveUnit u cause).moveRecord n u t cause).effectDone 0x12 n 1 0
      (leBytes 4 c.now ++ leBytes 2 0 ++ leBytes 2 t)

/-- Place a move of stall `n` in this tick (R144): the target unit is bound and the stall reads MOVING until M = p + 32. -/
def Core.placeMove (c : Core) (n cause : Nat) : Core :=
  match c.freeUnits.head?, c.ownEntry false with
  | some t, some i =>
    let m := c.now + 32
    let c1 := (c.setUnit t 1 n).placeOwn i 8 n m 0 0
    let r := c1.stallRec n
    ((c1.voidStall n).setStallRec n { r with move := some ⟨c.unitOf n, t, c.now, m, cause, c.stState n, i⟩, retry := none }).setState n 5
  | _, _ => c

/-- A move in progress is abandoned (R144): the target unit is freed, the prior state returns, and the move is placed again
later. -/
def Core.abandonMove (c : Core) (n : Nat) : Core :=
  let r := c.stallRec n
  match r.move with
  | none => c
  | some m =>
    let c1 := ((c.releaseUnit m.tgt).setStallRec n { r with move := none, retry := some m.cause, retryAt := c.now + 1 }).freeOwn 8 n
    ((c1.setState n m.prior).bump R.MOVE_ABANDON_CNT.at).event 7 2

/-- A move of stall `n` that waits will not come about: a STALL_MOVE that awaits it completes ABORTED (log entry 71). -/
def Core.dropMove (c : Core) (n : Nat) : Core := c.effectDone 0x12 n 0 8 []

/-- The boundary into M + 1: the state passes to the target unit and the source unit is released (R144). -/
def Core.moveComplete (c : Core) (n : Nat) : Core :=
  let r := c.stallRec n
  match r.move with
  | none => c
  | some m =>
    let c1 := ((c.leaveUnit m.src m.cause).setStallRec n { r with move := none }).freeOwn 8 n
    ((c1.setState n m.prior).moveRecord n m.src m.tgt m.cause).effectDone 0x12 n 1 0
      (leBytes 4 m.m ++ leBytes 2 0 ++ leBytes 2 m.tgt)

/-- What an accepted retune, stop or close does to a move in progress: before M it abandons it; in tick M the move
completes first and the write applies on the target (R144). -/
def Core.moveMeets (c : Core) (n : Nat) : Core :=
  match (c.stallRec n).move with
  | none => c
  | some m => if c.now < m.m then c.abandonMove n else c.moveComplete n

/-- STALL_MOVE_COMPLETE (R144). -/
def execStallMoveComplete (n : Fin 256) (s : State) : Host.Outcome State Fault Refusal :=
  s.act 7 (fun c =>
    match (c.stallRec n).move with
    | some m => if m.m ≤ c.now then c.moveComplete n else c
    | none => c)

/-- STALL_MOVE_PLACE (R144, R145, R228): the device places a move that waits; a STOPPED or OPENING stall moves at once. -/
def execStallMovePlace (n : Fin 256) (s : State) : Host.Outcome State Fault Refusal :=
  s.act 7 (fun c =>
    let r := c.stallRec n
    match r.retry with
    | none => c
    | some cause =>
      let st := c.stState n
      if c.now < r.retryAt ∨ c.freeUnits.isEmpty = true then c
      else if st = 1 ∨ st = 4 then
        if c.freeUnits.isEmpty then c
        else (c.moveNow n cause).setStallRec n { (c.moveNow n cause).stallRec n with retry := none }
      else if (st = 2 ∨ st = 3) ∧ c.hsState n ≠ 4 ∧ (c.ownEntry false).isSome = true then c.placeMove n cause
      else if st = 0 ∨ st = 6 ∨ st = 7 then (c.setStallRec n { r with retry := none }).dropMove n
      else c)

/-- A host MOVE (R129, R144, R145, R228): the code, M and the target unit. -/
def Core.hostMove (c : Core) (n : Nat) : Core × Nat × Nat × Nat :=
  let st := c.stState n
  let tgt := c.freeUnits.headD 0
  if ¬(st = 2 ∨ st = 3 ∨ st = 4) then (c, 1, 0, 0)
  else if st ≠ 4 ∧ (c.ownEntry false).isNone = true then (c, 6, 0, 0)
  else if c.freeUnits.isEmpty then (c, 9, 0, 0)
  else if st = 4 then (c.moveNow n 2, 0, c.now, tgt)
  else if c.hsState n = 4 then
    let h := ((c.hoist n).h).getD c.now
    (c.setStallRec n { c.stallRec n with retry := some 2, retryAt := h + 1 }, 0, h + 33, tgt)
  else (c.placeMove n 2, 0, c.now + 32, tgt)

/-! ### Stopping, faults and closing -/

/-- The tracks that a stall serves lose their reference (R51, R54, R177): source 4 DAB, 5 LF. -/
def Core.loseTracks (c : Core) (src n : Nat) : Core :=
  (List.range 4).foldl (fun d k =>
    if d.trkSrc k = src ∧ d.fld (R.TRK_CFG.at k) 8 8 = n then d.loseTrack k else d) c

/-- Stall `n` stops producing at the boundary into the next tick: its samples are counted, a check of it ends VOID, and it
leaves RUNNING for Hoist (R134, R219, R419). -/
def Core.halt (c : Core) (n : Nat) : Core :=
  let c1 := if c.live n && (c.stallRec n).syncAt.isNone then c.foldOut n else c
  let c2 := ((c1.quiet n).voidStall n).hoistStop n
  let c3 := if c2.cls n = clsDab then c2.loseTracks 4 n else c2
  let last := if c.live n && (c.stallRec n).syncAt.isNone then c.lastWindow n else none
  (c3.setFld (R.ST_CTRL.at n) 1 1 0).setStallRec n { c3.stallRec n with syncAt := none, lastWin := last }

/-- Stall `n` enters STOPPED (R134). -/
def Core.stopStall (c : Core) (n : Nat) : Core :=
  let c1 := (c.moveMeets n).halt n
  (c1.setStallRec n { c1.stallRec n with stoppedAt := c.now }).setState n 4

/-- The T_r that a start is recorded with (R132, R148). -/
def Core.stampStart (c : Core) (n tr : Nat) : Core := c.setPair (R.D_START_LO.at n) (R.D_START_HI.at n) tr

/-- Stall `n` starts with T_r = `tr`. -/
def Core.startStall (c : Core) (n tr : Nat) : Core := (c.startReset n tr false).stampStart n tr

/-- Stall `n` enters FAULT (R146): CAUSE 1 UNIT_UE sends its unit to test, CAUSE 2 NO_SPARE retires it. -/
def Core.faultStall (c : Core) (n cause : Nat) : Core :=
  let c0 := (c.moveMeets n).halt n
  let u := c0.unitOf n
  let c1 := if cause = 1 then c0.setUnit u 3 0 else c0.retireUnit u
  let d := c1.reg (R.D_FAULT.at n)
  let c2 := (c1.setNat (R.D_FAULT.at n) (cause + 65536 * satAdd 16 (fieldOf d 16 16) 1)).event 7 5
  (((c2.bump R.FAULT_CNT.at).setStallRec n { c2.stallRec n with faultUnit := u, stoppedAt := c.now, retry := none }).dropMove n).setState n 7

/-- An uncorrectable error in the state memory of unit `u` (R146, R414): a stall in FAULT leaves at once; the unit of an
OPENING or CLOSING stall goes to test when the stall releases it. -/
def Core.unitUe (c : Core) (u : Nat) : Core :=
  let x := c.unit u
  if x.use = 1 then
    let n := x.stall
    let st := c.stState n
    if st = 1 ∨ st = 6 then { c with unitNext := c.unitNext ++ [(u, 3)] }
    else if c.unitOf n = u then c.faultStall n 1
    else ((c.abandonMove n).setUnit u 3 0)
  else if x.use = 2 then
    (if bitOf (c.reg R.CHECK_STATUS.at) 8 then c.voidCheck else c).setUnit u 3 0
  else if x.use = 0 then c.setUnit u 3 0
  else c

/-- Unit `u` is to be retired (R142, R146): a bound unit is left by a move, or its stall enters FAULT. -/
def Core.retire (c : Core) (u : Nat) : Core :=
  let x := c.unit u
  if x.use = 1 then
    let n := x.stall
    let st := c.stState n
    if c.unitOf n ≠ u then (c.abandonMove n).retireUnit u
    else if c.freeUnits.isEmpty then
      (if st = 1 ∨ st = 6 then { c with unitNext := c.unitNext ++ [(u, 4)] } else c.faultStall n 2)
    else if st = 6 then { c with unitNext := c.unitNext ++ [(u, 4)] }
    else if st = 5 then
      c.setStallRec n { c.stallRec n with move := (c.stallRec n).move.map (fun m => { m with cause := 1 }) }
    else c.setStallRec n { c.stallRec n with retry := some 1, retryAt := c.now + 1 }
  else if x.use = 4 then c
  else
    let c1 := if x.use = 2 ∧ bitOf (c.reg R.CHECK_STATUS.at) 8 = true then c.voidCheck else c
    c1.retireUnit u

/-- Stall `n` becomes CLOSED (R133): units, count and physical unit return, its decodes are freed, it leaves its team, and its
levels and quality take their reset values. -/
def Core.closed (c : Core) (n : Nat) : Core :=
  let u := c.unitOf n
  let bound := decide ((c.unit u).use = 1) && decide ((c.unit u).stall = n)
  let c1 := (c.decodesOf n).foldl Core.dropDecode c
  let c2 := (c1.streamToFm n (c1.reg (R.HS_OFS.at n))).leaveTeam 0 n
  let c3 := if bound then c2.releaseUnit u else c2
  let c4 := [R.ST_LEVEL_FAST.at n, R.ST_LEVEL_FINE.at n, R.ST_QUALITY.at n, R.D_BUDGET.at n].foldl
    (fun d a => d.setReg a (resetValue a)) c3
  let c5 := (c4.setStallRec n { dets := (c4.stallRec n).dets }).setState n 0
  ((c5.setFld (R.ST_STATUS.at n) 4 2 0).setFld (R.ST_STATUS.at n) 16 9 0).effectDone 0x11 n 1 0 (leBytes 4 (c.now + 1))

/-- The ticks that a closing stall may drain (R133). -/
def drainTicks (cls : Nat) : Nat := if cls = clsDab ∨ cls = clsDrm ∨ cls = clsDrmPlus then 51200 else 64

/-- A CLOSE of stall `n` takes effect at the boundary into the next tick (R133, R134, R135): the stall's other pending
openings and closings are cancelled; an OPENING stall, or one opened in this same tick, becomes CLOSED without draining. -/
def Core.closeEffect (c : Core) (n : Nat) : Core :=
  let st := c.stState n
  let c1 := { c with sched := c.sched.filter (fun e => decide (e.stall ≠ n)) }
  if st = 0 ∨ st = 6 then c1
  else
    let c2 := if st = 1 then c1.effectDone 0x10 n 1 0 (leBytes 4 0) else c1
    let c3 := ((c2.moveMeets n).halt n).dropMove n
    let c4 := if c3.hsSrc n then c3.streamToFm n (c3.reg (R.HS_OFS_FM.at n)) else c3
    if st = 1 ∨ (c.stallRec n).openedAt = some c.now then c4.closed n
    else (c4.setStallRec n { c4.stallRec n with drainBy := some (c.now + drainTicks (c.cls n)), retry := none }).setState n 6

/-! ### Admission (R76, R77, R127 to R131) -/

/-- The CONFIG check of R129 for a class and its words. -/
def Core.configBad (c : Core) (cls freq mode iq queue team : Nat) : Bool :=
  decide (cls = 0) || decide (7 < cls) ||
  decide (freq < (freqRange cls iq).1) || decide ((freqRange cls iq).2 < freq) ||
  (if drawsVhf cls iq then decide (2 < mode) else decide (mode ≠ 0)) ||
  (if cls = clsIq then (iqChain iq).isNone else decide (iq ≠ 0)) ||
  decide (queue = 1) || !c.teamNamed team ||
  (decide (team ≠ 0xFF) && decide (cls = clsDab ∨ cls = clsDrm ∨ cls = clsDrmPlus ∨ cls = clsTime))

/-- Shed bytes per second that an opening of stall `n` with a team adds (R282). -/
def Core.openBytes (c : Core) (n team : Nat) : Nat :=
  let bay := c.stallBays n (c.cls n) (c.iqCode n) (c.mpxOut n)
  bay + (if team = 0xFF then 0
    else memberCost (c.stallBays n (c.cls n) (c.iqCode n) false) (c.outputPeriod 0 n 0))

/-- The OPEN checks 0xA to 0xD of R129 for a stall with a route: the first code that fails, 0 for none. `used` is the Shed
bandwidth in use and `extra` what the request adds; `all`, `old` and `oldEth` are the loads in use and the stall's own. -/
def Core.budgetCheck (c : Core) (n extra : Nat) (all old new : List (Nat × Nat)) (oldEth newEth team : Nat) : Nat :=
  let cls := c.cls n
  let mode := c.fld (R.ST_ANT.at n) 0 2
  if shedCapacity < c.shedUsed + extra then 0xA
  else if team ≠ 0xFF ∧ ¬ bayDeepEnough cls (c.outputPeriod 0 n 0) (c.teamLatency team) = true then 0xA
  else if ¬ c.linkFits all old new oldEth newEth = true then 0xB
  else if ¬ c.queueFits all old new = true then 0xC
  else if team ≠ 0xFF ∧ c.teamLatency team < c.stallMinimum n cls (c.iqCode n) mode then 0xD
  else 0

/-- The checks of an OPEN in the order of R129; the due tick is judged against `now + 6`. -/
def Core.openCheck (c : Core) (n : Nat) (atOnce : Bool) (track epoch phase : Nat) : Nat :=
  let cls := c.cls n
  let iq := c.iqCode n
  let mode := c.fld (R.ST_ANT.at n) 0 2
  let queue := c.fld (R.ST_ROUTE.at n) 0 6
  let team := c.fld (R.ST_ROUTE.at n) 8 8
  let r := c.rateCfg n
  if c.stState n ≠ 0 then 1
  else if c.configBad cls (c.reg (R.ST_FREQ.at n)).toNat mode iq queue team then 2
  else if !(inputsOf cls iq mode).all c.inputOn then 3
  else if !atOnce && decide ((c.track track).state = .off) then 4
  else if !atOnce && (match c.predictTick track epoch phase with | some d => decide (d < c.now + 6) | none => false) then 5
  else if 64 ≤ c.sched.length then 6
  else if 640 < c.unitsUsed + classUnits cls then 7
  else if classLimit cls ≤ c.classCount cls ∨ (team ≠ 0xFF ∧ c.teamRoom team = false) then 8
  else if c.freeUnits.isEmpty then 9
  else c.budgetCheck n (c.openBytes n team) c.allLoads [] (r.loads c.routeByte c.alertQueue) 0 (r.ethRate c.routeByte) team

/-- The registers that an executed OPEN sets to 0 (R148, R172, R204, R230). -/
def openZeroed (n : Nat) : List Nat :=
  (List.range 16).map (fun j => R.ST_COUNTER.at n j) ++
    [R.HS_CNT_DONE.at n, R.HS_CNT_ABANDON.at n, R.HS_CNT_VISIT.at n, R.HS_CNT_ALIGN_FAIL.at n, R.D_RESET_CNT.at n,
     R.D_MOVE_CNT.at n, R.D_OUT_CNT.at n, R.D_SETTLE_CNT.at n]

/-- An admitted OPEN (R131, R142, R143, R259, R266): the stall takes its units, its count, the lowest free physical unit and
its member place, and waits for its due instant. -/
def Core.takeIn (c : Core) (n : Nat) (atOnce : Bool) (track epoch phase : Nat) : Core :=
  let u := c.freeUnits.headD 0
  let cls := c.cls n
  let team := c.fld (R.ST_ROUTE.at n) 8 8
  let c1 := (openZeroed n).foldl (fun d a => d.setReg a 0) ((c.setUnit u 1 n).setFld (R.ST_STATUS.at n) 16 9 u)
  let c2 := ((c1.setFld (R.D_FAULT.at n) 16 16 0).setNat (R.D_BUDGET.at n) (classUnits cls + 16 * cls))
  let c3 := ((c2.resetBay (stallBay n 0)).resetBay (stallBay n 1)).setStallRec n { dets := (c.stallRec n).dets }
  let c4 := ((((c3.setFm n {}).setAm n {}).setDab n {}).setDrm n {}).setTc n {}
  let c5 := if team = 0xFF then c4 else c4.joinTeam team 0 n
  let e : Sched := { stall := n, opens := true, due := (if atOnce then some (c.now + 6) else none),
                     track := track, epoch := epoch, phase := phase }
  (({ c5.setState n 1 with sched := c5.sched ++ [e] }).tally 34).suspendCheck

/-- An OPEN executed in this tick (R129, R131): the code. -/
def Core.openStall (c : Core) (n : Nat) (atOnce : Bool) (track epoch phase : Nat) : Core × Nat :=
  let code := c.openCheck n atOnce track epoch phase
  if code = 0 then (c.takeIn n atOnce track epoch phase, 0)
  else (if 7 ≤ code then c.event 7 0 else c, code)

/-- A CLOSE executed in this tick (R129, R133): the code. -/
def Core.closeStall (c : Core) (n : Nat) (atOnce : Bool) (track epoch phase : Nat) : Core × Nat :=
  let st := c.stState n
  if st = 0 ∨ st = 6 then (c, 1)
  else if !atOnce && decide ((c.track track).state = .off) then (c, 4)
  else if !atOnce && (match c.predictTick track epoch phase with | some d => decide (d < c.now + 6) | none => false) then (c, 5)
  else if 64 ≤ c.sched.length then (c, 6)
  else
    ({ c with sched := c.sched ++ [{ stall := n, opens := false, due := (if atOnce then some c.now else none),
                                     track := track, epoch := epoch, phase := phase }] }, 0)

/-- OPEN_RESULT after a GO (R149); PENDING is read from the schedule. -/
def Core.openResult (c : Core) (n code : Nat) : Core :=
  ((c.setFld R.OPEN_RESULT.at 0 4 code).setFld R.OPEN_RESULT.at 8 8 n).wrapFld R.OPEN_RESULT.at 16 8

/-- The stall that OPEN_SEL names. -/
def Core.openSel (c : Core) : Nat := c.fld R.OPEN_SEL.at 0 8

/-- OPEN_GO_OPEN (R129 to R131). -/
def execOpenGoOpen (s : State) : Host.Outcome State Fault Refusal :=
  s.act 7 (fun c =>
    let w := R.OPEN_CTL.at
    let d := c.openStall c.openSel (decide (c.fld w 18 1 = 1)) (c.fld w 16 2) (c.reg R.OPEN_EPOCH.at).toNat (c.fld w 0 16)
    d.1.openResult c.openSel d.2)

/-- OPEN_GO_CLOSE (R129, R133). -/
def execOpenGoClose (s : State) : Host.Outcome State Fault Refusal :=
  s.act 7 (fun c =>
    let w := R.OPEN_CTL.at
    let d := c.closeStall c.openSel (decide (c.fld w 18 1 = 1)) (c.fld w 16 2) (c.reg R.OPEN_EPOCH.at).toNat (c.fld w 0 16)
    d.1.openResult c.openSel d.2)

/-- OPEN_GO_MOVE (R129, R144, R145). -/
def execOpenGoMove (s : State) : Host.Outcome State Fault Refusal :=
  s.act 7 (fun c =>
    let d := c.hostMove c.openSel
    d.1.openResult c.openSel d.2.1)

/-- A pending opening or closing is due in this tick (R131, R133). -/
def Core.schedDue (c : Core) (e : Sched) : Bool :=
  match e.due with
  | some d => decide (d ≤ c.now)
  | none => (c.track e.track).hasEpochs && c.instantDue (c.track e.track) e.epoch e.phase

/-- The first due entry of stall `n` that opens or closes it, and the schedule without it. -/
def Core.takeDue (c : Core) (n : Nat) (opens : Bool) : Option (Sched × Core) :=
  match c.sched.find? (fun e => decide (e.stall = n) && decide (e.opens = opens) && c.schedDue e) with
  | none => none
  | some e => some (e, { c with sched := c.sched.erase e })

/-- STALL_OPEN_DUE (R131, R132): RUN is read as it stood at the start of the tick. -/
def execStallOpenDue (n : Fin 256) (s : State) : Host.Outcome State Fault Refusal :=
  s.act 7 (fun c =>
    match c.takeDue n true with
    | none => c
    | some (_, d) =>
      if d.stState n ≠ 1 then d
      else
        let e := d.setStallRec n { d.stallRec n with openedAt := some c.now, stoppedAt := c.now }
        if bitOf (s.image.reg (R.ST_CTRL.at n)) 0 then
          (e.startStall n (c.now + 1)).effectDone 0x10 n 1 0 (leBytes 4 (c.now + 1))
        else (e.setState n 4).effectDone 0x10 n 1 0 (leBytes 4 0))

/-- STALL_CLOSE_EFFECT (R133). -/
def execStallCloseEffect (n : Fin 256) (s : State) : Host.Outcome State Fault Refusal :=
  s.act 7 (fun c => match c.takeDue n false with | none => c | some (_, d) => d.closeEffect n)

/-- STALL_CLOSING_DONE (R133): the last outputs have drained. -/
def execStallClosingDone (n : Fin 256) (s : State) : Host.Outcome State Fault Refusal :=
  s.act 7 (fun c => if c.stState n = 6 then c.closed n else c)

/-- SETTLE_END (R120, R134): the chain produces sample D − 1. A reset asked for in this tick keeps the stall SETTLING. -/
def execSettleEnd (n : Fin 256) (s : State) : Host.Outcome State Fault Refusal :=
  s.act 6 (fun c =>
    if c.settling n && decide (c.settleTick n = c.now) then
      let c1 := (c.setFld (R.ST_STATUS.at n) 4 1 0).stEvent n 1
      let r := c1.stallRec n
      if r.syncAt.isSome then c1
      else if c1.stState n = 2 then c1.setState n 3
      else if c1.stState n = 5 then c1.setStallRec n { r with move := r.move.map (fun m => { m with prior := 3 }) }
      else c1
    else c)

/-- FAULT_RECOVER (R146): the lowest free unit is bound and the stall restarts with T_r = bind tick + 8. -/
def execFaultRecover (n : Fin 256) (s : State) : Host.Outcome State Fault Refusal :=
  s.act 7 (fun c =>
    match c.freeUnits.head? with
    | none => c
    | some u =>
      let r := c.stallRec n
      if c.stState n = 7 ∧ c.fld R.STABLE_CFG.at 0 1 = 1 ∧ r.stoppedAt < c.now then
        let c1 := ((c.setUnit u 1 n).setFld (R.ST_STATUS.at n) 16 9 u).setNat R.MOVE_LAST.at
          (r.faultUnit + 512 * u + 2 ^ 18 * n.val + 2 ^ 26 * 3 + 2 ^ 31) |>.stampTick R.MOVE_LAST_TICK.at
        if bitOf (c.reg (R.ST_CTRL.at n)) 0 then c1.startStall n (c.now + 8)
        else (c1.setStallRec n { c1.stallRec n with stoppedAt := c.now }).setState n 4
      else c)

/-- The checking stall takes the highest-numbered free unit when it holds none and FREE ≥ 2 stood at the start of the tick
(R143). -/
def execCheckUnitTake (s : State) : Host.Outcome State Fault Refusal :=
  s.act 7 (fun c =>
    match c.freeUnits.getLast? with
    | none => c
    | some u =>
      if (c.unitInUse 2).isNone ∧ 2 ≤ s.image.freeUnits.length ∧ 2 ≤ c.freeUnits.length ∧ c.ready = true then
        { (c.setUnit u 2 0).setFld R.CHECK_STATUS.at 16 9 u with checkSuspended := false }
      else c)

/-! ### Retunes (R140, R141, R144, R227) -/

/-- A retune of stall `n` by an accepted write: a hoist in progress ends with HOST, a move is abandoned or completed, and a
SETTLING or RUNNING stall resets at t + 1. -/
def Core.retune (c : Core) (n : Nat) : Core :=
  let c1 := c.moveMeets n
  if c1.live n then c1.startReset n (c.now + 1) false else c1

/-- A hoist of stall `n` meets a host write of ST_FREQ or ST_ANT (R141, R228). -/
def Core.hoistMeets (c : Core) (n : Nat) : Core := (c.switchFirst n).abandonHoist n 1 0

/-- A write of ST_FREQ (R135, R141). -/
def stFreqWrite (n : Nat) (c : Core) (v : Word) : Core × Bool :=
  let st := c.stState n
  let range := freqRange (c.cls n) (c.iqCode n)
  if st = 1 ∨ (st ≠ 0 ∧ ¬(range.1 ≤ v.toNat ∧ v.toNat ≤ range.2)) then c.refuseStall n
  else if st = 0 then (c.setReg (R.ST_FREQ.at n) v, true)
  else (((c.hoistMeets n).retune n).setReg (R.ST_FREQ.at n) v, true)

/-- ST_FREQ_WRITE (R141). -/
def execStFreqWrite (port : Port) (n : Fin 256) (v : Word) (s : State) : Host.Outcome State Fault Refusal :=
  s.write port R.ST_FREQ (R.ST_FREQ.at n) v (stFreqWrite n)

/-- A write of ST_ANT (R135, R140, R141): MODE 3 is refused in every state, a MODE that the class does not permit on a
stall that is not CLOSED. -/
def stAntWrite (n : Nat) (c : Core) (v : Word) : Core × Bool :=
  let st := c.stState n
  let mode := fieldOf v 0 2
  let old := c.fld (R.ST_ANT.at n) 0 2
  let put := fun d : Core => d.setReg (R.ST_ANT.at n) (v &&& 7)
  if st = 1 ∨ mode = 3 ∨ (st ≠ 0 ∧ drawsVhf (c.cls n) (c.iqCode n) = false ∧ mode ≠ 0) then c.refuseStall n
  else if st = 0 then (put c, true)
  else
    let c1 := c.hoistMeets n
    (put (if mode ≠ old then c1.retune n else c1), true)

/-- ST_ANT_WRITE (R140). -/
def execStAntWrite (port : Port) (n : Fin 256) (v : Word) (s : State) : Host.Outcome State Fault Refusal :=
  s.write port R.ST_ANT (R.ST_ANT.at n) v (stAntWrite n)

/-- The gait in force and the change that waits (R124): the new gait takes effect at the first boundary of its windows at or
after the stamp of the first output sample produced in the next tick or later. -/
def Core.changeGait (c : Core) (n old new : Nat) : Core :=
  let r := c.stallRec n
  match c.chain n with
  | none => c
  | some g =>
    if old = new ∨ c.live n = false then c
    else
      let first := 48 * r.tr + g.lproc
      let stamp := first + g.p * c.chainMade n - (c.anaDelay n + g.filt)
      let w := gaitLength new
      c.setStallRec n { r with gaitOld := (if r.gaitEdge = 0 then old else r.gaitOld), gaitEdge := (stamp + w - 1) / w * w }

/-- A write of ST_PRESET (R135, R140, R141, R147, R498). -/
def stPresetWrite (n : Nat) (c : Core) (v : Word) : Core × Bool :=
  let st := c.stState n
  let cls := c.cls n
  let iq := fieldOf v 8 5
  let old := c.iqCode n
  let badIq := if cls = clsIq then (iqChain iq).isNone || decide (decide (iq < 0x10) ≠ decide (old < 0x10)) else decide (iq ≠ 0)
  let new := v &&& 0xFFFF1F03
  if st = 1 ∨ (st ≠ 0 ∧ badIq = true) then c.refuseStall n
  else if st = 0 then (c.setReg (R.ST_PRESET.at n) new, true)
  else if ¬ c.ratesFit n { c.rateCfg n with gait := fieldOf v 0 2 } = true then c.refuseRate n
  else
    let c1 := if cls = clsIq ∧ iq ≠ old then c.retune n else c.changeGait n (c.fld (R.ST_PRESET.at n) 0 2) (fieldOf v 0 2)
    (c1.setReg (R.ST_PRESET.at n) new, true)

/-- ST_PRESET_WRITE (R141). -/
def execStPresetWrite (port : Port) (n : Fin 256) (v : Word) (s : State) : Host.Outcome State Fault Refusal :=
  s.write port R.ST_PRESET (R.ST_PRESET.at n) v (stPresetWrite n)

/-- The reset values of the class words at 0x30 to 0x3C (R170, R171, R201, R202, R203). -/
def classResets (cls : Nat) : List Nat :=
  match cls with
  | 1 => [0x1030, 0, 0x8000, 0]
  | 2 => [0xC, 0, 0, 0x8000]
  | 3 => [0x10A49, 0, 0, 0]
  | 4 => [6, 0x1F8, 0, 0x8000]
  | 5 => [6, 0x1F8, 0, 0x8000]
  | 6 => [0x10, 0, 0, 0]
  | _ => [0, 0, 0, 0]

/-- The class words of stall `n` take the reset values of a class. -/
def Core.classWords (c : Core) (n cls : Nat) : Core :=
  ((classResets cls).zip [R.FM_CFG.at n, R.FM_STATUS.at n, R.FM_MPX.at n, R.FM_PATH.at n]).foldl
    (fun d e => d.setNat e.2 e.1) c

/-- A write of ST_CLASS (R114, R141, R147, R168). -/
def stClassWrite (n : Nat) (c : Core) (v : Word) : Core × Bool :=
  if c.stState n ≠ 0 then c.refuseStall n
  else
    let c1 := (c.setReg (R.ST_CLASS.at n) (v &&& 0xF)).classWords n (fieldOf v 0 4)
    ((c1.setFld (R.FIR_CTL.at n) 12 1 0).setFld (R.FIR_CTL.at n) 16 2 0, true)

/-- ST_CLASS_WRITE (R141). -/
def execStClassWrite (port : Port) (n : Fin 256) (v : Word) (s : State) : Host.Outcome State Fault Refusal :=
  s.write port R.ST_CLASS (R.ST_CLASS.at n) v (stClassWrite n)

/-- A refused write of ST_ROUTE records its code with SEQ unchanged (R147). -/
def Core.refuseRoute (c : Core) (n code : Nat) : Core × Bool := (c.setFld R.OPEN_RESULT.at 0 4 code).refuseStall n

/-- A write of ST_ROUTE (R147, R211). -/
def stRouteWrite (n : Nat) (c : Core) (v : Word) : Core × Bool :=
  let st := c.stState n
  let queue := fieldOf v 0 6
  let team := fieldOf v 8 8
  let cls := c.cls n
  let old := c.fld (R.ST_ROUTE.at n) 8 8
  let put := fun d : Core => d.setReg (R.ST_ROUTE.at n) (v &&& 0xFF3F)
  if st = 0 then (if queue = 1 then c.refuseRoute n 2 else (put c, true))
  else if st ≠ 4 then c.refuseStall n
  else if queue = 1 ∨ c.teamNamed team = false ∨
      (team ≠ 0xFF ∧ (cls = clsDab ∨ cls = clsDrm ∨ cls = clsDrmPlus ∨ cls = clsTime)) then c.refuseRoute n 2
  else if team ≠ 0xFF ∧ team ≠ old ∧
      ((c.teamMembers team).length ≥ 64 ∨ (old = 0xFF ∧ c.freeMember.isNone = true)) then c.refuseRoute n 8
  else
    let r := c.rateCfg n
    let extra := if team ≠ 0xFF ∧ old = 0xFF then
      memberCost (c.stallBays n cls (c.iqCode n) false) (c.outputPeriod 0 n 0) else 0
    let code := c.budgetCheck n extra c.allLoads (c.stallLoads n)
      ({ r with queue := queue }.loads c.routeByte c.alertQueue) (r.ethRate c.routeByte) (r.ethRate c.routeByte) team
    if code ≠ 0 then c.refuseRoute n code
    else if team = old then (put c, true)
    else if team = 0xFF then (put (c.leaveTeam 0 n), true)
    else
      match c.memberOf 0 n with
      | some m => (put (c.setFld (R.MEMBER.at m) 1 5 team), true)
      | none => (put (c.joinTeam team 0 n), true)

/-- ST_ROUTE_WRITE (R147). -/
def execStRouteWrite (port : Port) (n : Fin 256) (v : Word) (s : State) : Host.Outcome State Fault Refusal :=
  s.write port R.ST_ROUTE (R.ST_ROUTE.at n) v (stRouteWrite n)

/-- RUN and RESYNC of a write to ST_CTRL (R27, R132, R134, R135): RUN = 0 stops a running stall, RUN = 1 starts a STOPPED one,
RESYNC resets a SETTLING, RUNNING or MOVING one; on any other stall RESYNC has no effect. -/
def Core.runResync (c : Core) (n : Nat) (run resync : Bool) : Core :=
  let c0 := c.setFld (R.ST_CTRL.at n) 0 1 (b2n run)
  let st := c0.stState n
  if c0.live n then
    if !run then c0.stopStall n
    else if resync then (c0.startReset n (c.now + 1) false).setFld (R.ST_CTRL.at n) 1 1 1
    else c0
  else if st = 4 ∧ run = true then c0.startStall n (c.now + 1)
  else c0

/-! ### Commands (R254) -/

/-- The slot words of a STALL_OPEN (R254). -/
def Core.writeSlot (c : Core) (n cls ant : Nat) (run : Bool) (freq preset : Word) (route : Nat) : Core :=
  let c1 := ((stClassWrite n c (BitVec.ofNat 32 cls)).1.setReg (R.ST_FREQ.at n) freq).setNat (R.ST_ANT.at n) (ant % 8)
  ((c1.setReg (R.ST_PRESET.at n) (preset &&& 0xFFFF1F03)).setNat (R.ST_ROUTE.at n) (route % 65536 &&& 0xFF3F)).setFld
    (R.ST_CTRL.at n) 0 1 (b2n run)

/-- STALL_OPEN (R131, R254): the slot is written, then opened. The slot's words keep what was written when the opening is
refused. -/
def execStallOpen (h : CmdHead) (n : Fin 256) (cls ant : Nat) (run : Bool) (freq preset : Word) (route : Nat) (s : State) :
    Host.Outcome State Fault Refusal :=
  s.run (fun c => c.command h 0x10 (fun c => c.writes h 0x10 [R.ST_CLASS.at n, R.ST_FREQ.at n, R.ST_ANT.at n, R.ST_PRESET.at n,
      R.ST_ROUTE.at n, R.ST_CTRL.at n] (fun c =>
    if c.stState n ≠ 0 then c.complete 0x10 h.seq 1 1 c.now []
    else
      let c2 := c.writeSlot n cls ant run freq preset route
      let before := c2.unitsUsed
      let d := c2.openStall n h.now h.track (h.epoch % 2 ^ 32) (h.phase % 65536)
      let due := if h.now then c.now + 6 else (c2.predictTick h.track (h.epoch % 2 ^ 32) (h.phase % 65536)).getD 0
      d.1.finish h 0x10 d.2 1 n
        (if d.2 = 0 then leBytes 4 due ++ leBytes 2 (d.1.unitsUsed - before) ++ leBytes 2 (d.1.unitOf n) else []))))

/-- STALL_CLOSE (R133, R254). -/
def execStallClose (h : CmdHead) (n : Fin 256) (s : State) : Host.Outcome State Fault Refusal :=
  s.run (fun c => c.command h 0x11 (fun c =>
    let d := c.closeStall n h.now h.track (h.epoch % 2 ^ 32) (h.phase % 65536)
    let at_ := if h.now then c.now else (c.predictTick h.track (h.epoch % 2 ^ 32) (h.phase % 65536)).getD 0
    d.1.finish h 0x11 d.2 1 n (if d.2 = 0 then leBytes 4 (if at_ = 0 then 0 else at_ + 1) else [])))

/-- STALL_MOVE (R144, R145, R254). The effect of a STOPPED stall's move comes in this tick. -/
def execStallMove (h : CmdHead) (n : Fin 256) (s : State) : Host.Outcome State Fault Refusal :=
  s.run (fun c => c.command h 0x12 (fun c =>
    let d := c.hostMove n
    let res := if d.2.1 = 0 then leBytes 4 d.2.2.1 ++ leBytes 2 0 ++ leBytes 2 d.2.2.2 else []
    if d.2.2.1 = c.now then d.1.complete 0x12 h.seq d.2.1 1 c.now res else d.1.finish h 0x12 d.2.1 1 n res))

/-- STALL_RETUNE (R141, R254): the new words are checked, then act together as one retune. -/
def execStallRetune (h : CmdHead) (n : Fin 256) (ant : Nat) (freq : Word) (iq : Nat) (s : State) :
    Host.Outcome State Fault Refusal :=
  s.run (fun c => c.command h 0x13 (fun c => c.writes h 0x13 [R.ST_FREQ.at n, R.ST_ANT.at n, R.ST_PRESET.at n] (fun c =>
    let st := c.stState n
    let cls := c.cls n
    let range := freqRange cls iq
    let bad := decide (freq.toNat < range.1) || decide (range.2 < freq.toNat) || decide (2 < ant % 4) ||
      (!drawsVhf cls iq && decide (ant % 4 ≠ 0)) ||
      (if cls = clsIq then (iqChain iq).isNone || decide (decide (iq < 0x10) ≠ decide (c.iqCode n < 0x10)) else decide (iq ≠ 0))
    if ¬(c.live n = true ∨ st = 4) then c.complete 0x13 h.seq 1 1 c.now []
    else if bad then (c.refuseStall n).1.complete 0x13 h.seq 2 1 c.now []
    else
      let c1 := (c.hoistMeets n).retune n
      let c2 := ((c1.setReg (R.ST_FREQ.at n) freq).setNat (R.ST_ANT.at n) (ant % 8)).setFld (R.ST_PRESET.at n) 8 5 iq
      c2.complete 0x13 h.seq 0 1 c.now (leBytes 4 (if st = 4 then 0 else c.now + 1)))))

/-! ### Soft reset (R135) -/

/-- A soft reset of the STABLE page closes every stall without draining and cancels openings, closings and moves; commands
that await them complete ABORTED. -/
def Core.stableReset (c : Core) : Core :=
  let stop := fun (d : Core) (op : Nat) => (d.awaits.filter (fun w => decide (w.opcode = op))).foldl
    (fun x w => x.complete op w.seq 8 0 w.te []) { d with awaits := d.awaits.filter (fun w => decide (w.opcode ≠ op)) }
  let c1 := stop (stop (stop c 0x10) 0x11) 0x12
  let c2 := { c1 with sched := [] }
  c2.openStalls.foldl (fun d n =>
    let e := match (d.stallRec n).move with
      | some m => ((d.releaseUnit m.tgt).freeOwn 8 n).setStallRec n { d.stallRec n with move := none }
      | none => d
    (e.halt n).closed n) c2

end Sys2Proof.Machine
end

