-- ==== Sys2Proof/Machine/Hoist.lean ====
section
/-! DEFINITION. Hoist (R208 to R232): the margins and states of a stall's hoist, scouts and their visits, alignment, the host's
commands, the candidate list and the host's measurements. CNR, MER and correlation figures are measured outside the
model and come with the commands, in 1/256 dB. -/

namespace Sys2Proof.Machine

/-- A margin that counts as −127 dB (R214). -/
def noMargin : Int := -127 * 256

/-- A signed dB field in 1/256 dB. -/
def Core.dbFld (c : Core) (a lo : Nat) : Int := signedOf 8 (c.fld a lo 8) * 256

/-- SEEK_THR of stall `n`. -/
def Core.seekThr (c : Core) (n : Nat) : Int := c.dbFld (R.HS_THR.at n) 0
/-- HYST of stall `n`. -/
def Core.hyst (c : Core) (n : Nat) : Int := (c.fld (R.HS_THR.at n) 8 8 : Nat) * 256
/-- LOSS_THR of stall `n`. -/
def Core.lossThr (c : Core) (n : Nat) : Int := c.dbFld (R.HS_THR.at n) 16
/-- The current margin last published. -/
def Core.curMargin (c : Core) (n : Nat) : Int := signedOf 16 (c.fld (R.HS_MARGIN.at n) 0 16)

/-! ### Visits (R215 to R217, R229) -/

/-- A visit's HOIST_VISIT pennant (R229, R239): `ident` is 1 passed, 2 mismatch, 3 timeout, 0 none. -/
def Core.visitPennant (c : Core) (i : Nat) : Core :=
  let x := c.scout i
  if bitOf (c.reg (R.HS_CTL.at x.stall)) 7 then
    let mean := if x.windows = 0 then noMargin else x.sum / (x.windows : Int)
    c.emit (stallPennant x.stall 0x21 x.windowEnd 100 x.entry
      (leBytes 1 x.ant ++ leBytes 1 (b2n (decide (x.ident = 1)) + 2 * b2n (decide (x.ident = 2)) + 4 * b2n (decide (x.ident = 3))) ++
        leBytes 2 0 ++ leBytes 4 x.freq ++ leBytes 2 (codeOf 16 mean) ++ leBytes 2 (x.pi.getD 0)))
  else c

/-- The counters of a visit's measurement (R230, R231, R232). -/
def Core.visitCounted (c : Core) (n e : Nat) : Core :=
  ((c.bump (R.HS_CNT_VISIT.at n)).bump R.CNT_VISIT.at).bumpFld (R.AFE_STATE.at n e) 16 16

/-- The scout classes that run now, and the scouts that SCOUT_MAX and the scout class allow (R127, R215, R427). -/
def Core.scoutRoom (c : Core) : Bool :=
  decide (c.scoutsRunning < ((List.range 64).filter (fun i => !c.regionRetired (0x110 + i))).length) && decide (c.scoutsRunning < c.fld R.HOIST_CFG.at 0 7) && decide (c.unitsUsed < 640)

/-- The antenna that a scout of stall `n` takes: the stall's own, or in MRC the one of the larger weight, A on a tie (R215). -/
def Core.scoutAnt (c : Core) (n : Nat) : Nat :=
  let mag := fun w : Word => (signedOf 16 (fieldOf w 0 16)).natAbs ^ 2 + (signedOf 16 (fieldOf w 16 16)).natAbs ^ 2
  match c.fld (R.ST_ANT.at n) 0 2 with
  | 0 => 0
  | 1 => 1
  | _ => if mag (c.reg (R.D_W_A.at n)) < mag (c.reg (R.D_W_B.at n)) then 1 else 0

/-- Start scout `i` on candidate `e` of stall `n`; its chain resets at the next tick. -/
def Core.startScout (c : Core) (n e i use : Nat) : Core :=
  ((c.setScout i { use := use, stall := n, entry := e, ant := c.scoutAnt n, freq := (c.reg (R.AFE_TARGET.at n e)).toNat,
                   tr := c.now + 1 }).setCand n e (if use = 1 then 2 else c.candState n e)).setCandRec n e
    { c.cand n e with qual := 0, lossQual := 0 }

/-- A free scout engine: not running and not retired (R427). -/
def Core.freeScout (c : Core) : Option Nat :=
  (List.range 64).find? (fun i => decide ((c.scout i).use = 0) && !c.regionRetired (0x110 + i))

/-- The entries that Hoist may visit for stall `n` (R213, R216). -/
def Core.visitable (c : Core) (n : Nat) : List Nat :=
  (List.range 40).filter (fun e =>
    let f := (c.reg (R.AFE_TARGET.at n e)).toNat
    decide (c.afKind n e = 1) && !c.afBlocked n e && decide (c.candState n e = 1) &&
      decide (64000000 ≤ f) && decide (f ≤ 108000000) && decide (f ≠ (c.reg (R.ST_FREQ.at n)).toNat) &&
      (decide (c.hsState n = 2) ||
        (match (c.cand n e).visited with
         | none => true
         | some t => decide (t + c.fld R.HOIST_CFG.at 16 8 * ticksPerSecond ≤ c.now))))

/-- The entry that stall `n` wants visited next: the highest margin of a last visit first, then the entries not visited. -/
def Core.nextEntry (c : Core) (n : Nat) : Option Nat :=
  let l := c.visitable n
  let seen := l.filter (fun e => bitOf (c.reg (R.AFE_MEAS.at n e)) 17)
  match seen.foldl (fun b e => match b with
      | none => some e
      | some x => if c.afMargin n x < c.afMargin n e then some e else some x) none with
  | some e => some e
  | none => l.head?

/-- Scouts that Hoist gives a stall: 4 in SEEK, 1 in WATCH, none otherwise (R216, R219). -/
def Core.scoutQuota (c : Core) (n : Nat) : Nat :=
  if c.stState n = 3 ∨ c.stState n = 5 then (match c.hsState n with | 2 => 4 | 1 => 1 | _ => 0) else 0

/-- Stalls with Hoist on. -/
def Core.hoistStalls (c : Core) : List Nat :=
  c.openStalls.filter (fun n => decide (c.cls n = clsFm) && decide (c.hsState n ≠ 0))

/-- The stalls that want a scout, in the order of R216, with the entry each wants. -/
def Core.visitsWanted (c : Core) : List (Nat × Nat) :=
  let want := fun st : Nat => c.hoistStalls.filterMap (fun n =>
    if c.hsState n = st ∧ (c.scoutsOf n).length < c.scoutQuota n then (c.nextEntry n).map (fun e => (n, e)) else none)
  want 2 ++ want 1

/-- SCOUT_VISIT_START (R215, R216): the first visit wanted starts, or is counted once as starved. -/
def execScoutVisitStart (s : State) : Host.Outcome State Fault Refusal :=
  s.act 8 (fun c =>
    match c.visitsWanted.head? with
    | none => c
    | some v =>
      match c.freeScout with
      | some i => if c.scoutRoom then { c.startScout v.1 v.2 i 1 with starved := none }
        else if c.starved = some v then c else { (c.bump R.CNT_STARVE.at).event 8 2 with starved := some v }
      | none => if c.starved = some v then c else { (c.bump R.CNT_STARVE.at).event 8 2 with starved := some v })

/-- The mean margin of scout `i` so far. -/
def Scout.mean (x : Scout) : Int := if x.windows = 0 then noMargin else x.sum / (x.windows : Int)

/-- Candidate `e` of stall `n` needs no PI: a host entry with ID_NONE while the stall has no PI (R217). -/
def Core.idByCorrelation (c : Core) (n e : Nat) : Bool :=
  decide (e < 8) && bitOf (c.reg (R.AFE_CTL.at n e)) 6 && !bitOf (c.reg (R.FM_STATUS.at n)) 13

/-- Candidate `e` of stall `n` has passed identity (R217). -/
def Core.idPassed (c : Core) (n e : Nat) : Bool :=
  bitOf (c.reg (R.AFE_MEAS.at n e)) 16 || (decide (c.afKind n e = 1) && c.idByCorrelation n e)

/-- SCOUT_VISIT_END (R216): after VISIT_WIN windows the scout is released, or held for the identity check and the dwell. -/
def execScoutVisitEnd (i : Fin 64) (s : State) : Host.Outcome State Fault Refusal :=
  s.act 8 (fun c =>
    let x := c.scout i
    if x.use = 1 ∧ c.fld R.HOIST_CFG.at 8 4 ≤ x.windows then
      let n := x.stall
      let c1 := ((c.visitCounted n x.entry).setFld (R.AFE_MEAS.at n x.entry) 0 16 (codeOf 16 x.mean)).setFld
        (R.AFE_MEAS.at n x.entry) 17 1 1
      if x.mean < c.curMargin n + c.hyst n then (c1.visitPennant i).releaseScout i
      else
        let c2 := (c1.setScout i { x with use := 2 }).setCand n x.entry 3
        if c.idPassed n x.entry then c2.visitPennant i else c2
    else c)

/-- The identity check of the visit of scout `i` has found PI blocks that agree on `pi` (R217): it passes, or bars the entry. -/
def Core.scoutPi (c : Core) (i pi : Nat) : Core :=
  let x := c.scout i
  let n := x.stall
  let e := x.entry
  let mask := c.fld (R.HS_CTL.at n) 16 16
  if ¬(x.use = 1 ∨ x.use = 2) ∨ x.ident ≠ 0 ∨ bitOf (c.reg (R.FM_STATUS.at n)) 13 = false then c
  else if pi &&& mask = c.fld (R.FM_STATUS.at n) 16 16 &&& mask then
    let c1 := (c.setScout i { x with ident := 1 }).setFld (R.AFE_MEAS.at n e) 16 1 1
    if x.use = 2 ∧ c.candState n e ≠ 5 ∧ c.candState n e ≠ 6 then c1.visitPennant i else c1
  else
    let c1 := ((c.setScout i { x with ident := 2 }).event 8 3).setFld (R.AFE_MEAS.at n e) 16 1 0
    let c2 := c1.visitPennant i
    if c.candState n e = 5 ∧ (c.hoist n).kind ≠ 0 then c2.abandonHoist n 8 0
    else if c.candState n e = 6 then c2
    else (c2.releaseScout i).barCand n e

/-- ID_TIMEOUT (R217): the identity check has not completed within ID_TIMEOUT of the first counted window. -/
def execIdTimeout (i : Fin 64) (s : State) : Host.Outcome State Fault Refusal :=
  s.act 8 (fun c =>
    let x := c.scout i
    match x.since with
    | none => c
    | some t =>
      let n := x.stall
      if (x.use = 1 ∨ x.use = 2) ∧ x.ident = 0 ∧ c.idPassed n x.entry = false ∧ c.candState n x.entry ≤ 4 ∧
          t + c.fld (R.HS_DWELL.at n) 24 8 * 10240 ≤ c.now then
        let c1 := if x.use = 1 then c.visitCounted n x.entry else c
        ((c1.setScout i { x with ident := 3 }).visitPennant i).releaseScout i
      else c)

/-! ### Beginning a hoist (R219, R224, R225) -/

/-- The decode that carries, or would carry, stall `n`'s stream delivers: it is DECODING. -/
def Core.decodeLives (c : Core) (d : Nat) : Bool := decide (c.decodeState d = 2)

/-- The old source of a RETURN has been underrunning for 2 ms or more (R225). -/
def Core.streamDry (c : Core) (n : Nat) : Bool :=
  match c.memberOf 0 n with
  | none => false
  | some m => bitOf (c.reg (R.MEMBER.at m)) 16 && decide ((c.member m).since + 2048 ≤ c.now)

/-- Place the switch of stall `n` when an entry for switches is free and the stall is not MOVING (R222, R228); otherwise
alignment stands and the switch waits. -/
def Core.placeSwitch (c : Core) (n : Nat) : Core :=
  match c.ownEntry false with
  | none => c
  | some i =>
    if c.stState n = 5 then c
    else
      let h := c.hoist n
      let c1 := ((c.placeOwn i 9 n (c.now + 32) 0 0).setHs n 4).setHoist n { h with h := some (c.now + 32), passed := false }
      if h.kind = 3 then c1 else c1.setCand n (c.hsCand n) 6

/-- A rescued RETURN switches without alignment, at OFS_new = HS_OFS_FM (R225). -/
def Core.rescueReturn (c : Core) (n : Nat) : Core :=
  let ofs := signedOf 32 (c.reg (R.HS_OFS_FM.at n)).toNat
  (c.setHoist n { c.hoist n with passed := true, rescue := true, ofsNew := ofs,
                                 delta := ofs - signedOf 32 (c.reg (R.HS_OFS.at n)).toNat, rho := 0, gain := 0 }).placeSwitch n

/-- ALIGN begins on stall `n` for a hoist of a kind to candidate `e` (R219, R224, R225). -/
def Core.alignStart (c : Core) (n kind e : Nat) : Core :=
  let src := c.hsSrc n
  let h := c.hoist n
  let newM := if kind = 3 then noMargin else c.afMargin n e
  let h1 := { h with kind := kind, prior := c.hsState n, tries := 0, silent := true, passed := false, h := none, lost := 0,
                     rescue := false, delta := 0, gain := 0, rho := 0, oldMargin := c.curMargin n, newMargin := newM,
                     oldSource := (if src then h.linkSid else (c.reg (R.ST_FREQ.at n)).toNat),
                     oldStall := (if src then h.linkStall else 255) }
  let c1 := (c.setHoist n h1).setHs n 3
  if kind = 3 then (if c1.streamDry n then c1.rescueReturn n else c1)
  else
    let c2 := (c1.setFld (R.HS_STATUS.at n) 10 6 e).setCand n e 5
    if kind = 2 then
      let d := c2.addDecode (c.fld (R.AFE_CTL.at n e) 8 8) (c.reg (R.AFE_TARGET.at n e)).toNat
        (c.fld (R.AFE_CTL.at n e) 16 4) 0xFF (some n)
      if d.2.1 ≠ 0 then c2.abandonHoist n 6 d.2.1 else d.1.setFld (R.HS_STATUS.at n) 4 6 d.2.2.1
    else c2

/-- The kind of hoist that candidate `e` makes on the stream's present source (R208, R226). -/
def Core.kindFor (c : Core) (n e : Nat) : Option Nat :=
  match c.afKind n e, c.hsSrc n with
  | 1, false => some 1
  | 1, true => some 4
  | 2, false => if c.fld (R.HS_CTL.at n) 1 1 = 1 then some 2 else none
  | _, _ => none

/-! ### Windows (R214, R218, R219) -/

/-- FM margin of a CNR (R214). -/
def fmMargin (x : Option Int) : Int := match x with | some v => v - 12 * 256 | none => noMargin

/-- The margin of a DAB service in this window (R214). -/
def Core.dabMargin (c : Core) (w : HoistWin) (k sid : Nat) : Int :=
  if c.fld (R.DAB_STATUS.at k) 0 2 ≠ 3 ∨ c.cls k ≠ clsDab ∨ c.stState k = 0 then noMargin
  else
    match w.dab.find? (fun e => decide (e.1 = k) && decide (e.2.1 = sid)) with
    | some (_, _, some v) => v - 7 * 256
    | _ => noMargin

/-- A LINK candidate passes identity: its DAB stall is in ENSEMBLE and the service is in that stall's table with CODEC 1
or 2 (R217). -/
def Core.linkKnown (c : Core) (n e : Nat) : Bool :=
  let k := c.fld (R.AFE_CTL.at n e) 8 8
  decide (c.cls k = clsDab) && decide (c.stState k ≠ 0) && decide (c.fld (R.DAB_STATUS.at k) 0 2 = 3) &&
    (match c.service k (c.reg (R.AFE_TARGET.at n e)).toNat (c.fld (R.AFE_CTL.at n e) 16 4) with
     | none => false
     | some i => decide (c.fld (R.SVC_INFO.at k i) 8 3 = 1) || decide (c.fld (R.SVC_INFO.at k i) 8 3 = 2))

/-- The scouts' measurements of a window enter their visits (R216). -/
def Core.scoutWindow (c : Core) (n : Nat) (w : HoistWin) : Core :=
  w.scouts.foldl (fun d e =>
    let x := d.scout e.1
    if x.stall = n ∧ (x.use = 1 ∨ x.use = 2) then
      let m := fmMargin e.2
      let d1 := d.setScout e.1 { x with windows := x.windows + 1, sum := x.sum + m, windowEnd := w.stamp,
                                        since := (match x.since with | none => some d.now | some t => some t) }
      if x.use = 2 then (d1.setFld (R.AFE_MEAS.at n x.entry) 0 16 (codeOf 16 m)).setFld (R.AFE_MEAS.at n x.entry) 17 1 1 else d1
    else d) c

/-- The LINK candidates are measured in every window (R214, R217). -/
def Core.linkWindow (c : Core) (n : Nat) (w : HoistWin) : Core :=
  (List.range 40).foldl (fun d e =>
    if d.afKind n e = 2 ∧ ¬ d.afBlocked n e = true then
      let m := d.dabMargin w (d.fld (R.AFE_CTL.at n e) 8 8) (d.reg (R.AFE_TARGET.at n e)).toNat
      ((d.setFld (R.AFE_MEAS.at n e) 0 16 (codeOf 16 m)).setFld (R.AFE_MEAS.at n e) 17 1 1).setFld
        (R.AFE_MEAS.at n e) 16 1 (b2n (d.linkKnown n e))
    else d) c

/-- The margin of the source that carries the stream (R214, R228). -/
def Core.streamMargin (c : Core) (n : Nat) (w : HoistWin) : Int :=
  if c.hsSrc n then
    let d := c.hsDec n
    if c.decodeLives d = false ∨ (c.dec d).concealed = true then noMargin
    else c.dabMargin w (c.hoist n).linkStall (c.hoist n).linkSid
  else fmMargin w.own

/-- The entries measured in this window: LINK entries, and AF entries with a held scout (R214, R216). -/
def Core.measured (c : Core) (n : Nat) : List Nat :=
  (List.range 40).filter (fun e =>
    !c.afBlocked n e && decide (c.candState n e ≠ 8) && decide (c.candState n e ≠ 7) &&
      (decide (c.afKind n e = 2) ||
        (c.scoutsOf n).any (fun i => decide ((c.scout i).use = 2) && decide ((c.scout i).entry = e))))

/-- The condition of R218 for candidate `e` with margin `m`; `cur` and `own` are the margins of the stream and of the stall's own FM. -/
def Core.wanted (c : Core) (n e : Nat) (m cur own : Int) : Bool :=
  let seek := decide (c.hsState n = 2)
  let prefer := c.fld (R.HS_CTL.at n) 2 2
  let h := c.hyst n
  let afBusy := (List.range 40).any (fun x => decide (c.afKind n x = 1) && (decide (c.candState n x = 3) || decide (c.candState n x = 4)))
  match c.kindFor n e with
  | some 1 => (match prefer with | 2 => decide (cur + h ≤ m) | _ => seek && decide (cur + h ≤ m))
  | some 2 => (match prefer with
    | 0 => seek && decide (cur + h ≤ m) && !afBusy
    | 1 => decide (c.seekThr n ≤ m)
    | _ => decide (cur + h ≤ m))
  | some 4 => (match prefer with | 2 => decide (cur + h ≤ m) | _ => decide (own + h ≤ m))
  | _ => false

/-- The condition of R218 for a RETURN. -/
def Core.wantReturn (c : Core) (n : Nat) (cur own : Int) : Bool :=
  c.hsSrc n && decide (c.fld (R.HS_CTL.at n) 1 1 = 1) &&
    (match c.fld (R.HS_CTL.at n) 2 2 with
     | 0 => decide (c.seekThr n + c.hyst n ≤ own)
     | 1 => decide (c.hsState n = 2) && decide (cur + c.hyst n ≤ own)
     | _ => decide (cur + c.hyst n ≤ own))

/-- Dwell and qualification of candidate `e` in this window (R218); a held AF candidate that is no better than the stream is
released as at the end of a visit. -/
def Core.dwell (c : Core) (n : Nat) (cur own : Int) (e : Nat) : Core :=
  let m := c.afMargin n e
  let x := c.cand n e
  let ok := c.wanted n e m cur own
  let lossOk := decide (5 ≤ (c.hoist n).loss) && decide (c.seekThr n ≤ m) && (c.kindFor n e).isSome
  let x1 := { x with qual := (if ok then x.qual + 1 else 0), lossQual := (if lossOk then x.lossQual + 1 else 0) }
  let done := c.idPassed n e &&
    (decide (c.fld (R.HS_DWELL.at n) 8 8 ≤ x1.qual) || decide (5 ≤ x1.lossQual))
  let c1 := c.setCandRec n e x1
  if done then c1.setCand n e 4
  else if ok ∨ lossOk = true then c1.setCand n e 3
  else if c.afKind n e = 1 ∧ m < cur + c.hyst n then
    ((c.scoutsOf n).filter (fun i => decide ((c.scout i).entry = e) && decide ((c.scout i).use = 2))).foldl
      Core.releaseScout c1
  else c1.setCand n e (if c.afKind n e = 1 then 3 else 1)

/-- The QUALIFIED candidate of the highest margin; `none` for the RETURN candidate. -/
def Core.bestQualified (c : Core) (n : Nat) (own : Int) : Option (Option Nat) :=
  let l := (List.range 40).filter (fun e => decide (c.candState n e = 4))
  let best := l.foldl (fun b e => match b with
    | none => some e
    | some x => if c.afMargin n x < c.afMargin n e then some e else some x) none
  let h := c.hoist n
  let ret := c.hsSrc n && (decide (c.fld (R.HS_DWELL.at n) 8 8 ≤ h.ret) || decide (5 ≤ h.retLoss))
  match best, ret with
  | none, false => none
  | none, true => some none
  | some e, false => some (some e)
  | some e, true => if c.afMargin n e < own then some none else some (some e)

/-- The candidate in ALIGN is watched (R227): margin below current for 5 windows, its DAB stall out of ENSEMBLE, or its scout
lost. -/
def Core.alignWatch (c : Core) (n : Nat) (cur own : Int) : Core :=
  let h := c.hoist n
  let e := c.hsCand n
  if h.kind = 3 then
    if !h.passed && c.streamDry n then c.rescueReturn n
    else
      let k := if own < cur then h.lost + 1 else 0
      if 5 ≤ k then c.abandonHoist n 5 0 else c.setHoist n { h with lost := k }
  else
    let gone := if h.kind = 2 then !c.linkKnown n e
      else !(c.scoutsOf n).any (fun i => decide ((c.scout i).use = 2) && decide ((c.scout i).entry = e))
    let base := if h.kind = 4 then own else cur
    let k := if c.afMargin n e < base then h.lost + 1 else 0
    if gone ∨ 5 ≤ k then c.abandonHoist n 5 0 else c.setHoist n { h with lost := k }

/-- A CANTER window of stall `n` is published to Hoist (R214, R218, R219). -/
def Core.hoistWindow (c : Core) (n : Nat) (w : HoistWin) : Core :=
  let own := fmMargin w.own
  let c1 := (c.scoutWindow n w).linkWindow n w
  let cur := c1.streamMargin n w
  let list := c1.measured n
  let best := list.foldl (fun b e => match b with
    | none => some (c1.afMargin n e) | some x => some (max x (c1.afMargin n e))) (none : Option Int)
  let c2 := (c1.setFld (R.HS_MARGIN.at n) 0 16 (codeOf 16 cur)).setFld (R.HS_MARGIN.at n) 16 16
    (match best with | none => 0x8000 | some x => codeOf 16 x)
  let c3 := if c2.hsSrc n then c2.setDec (c2.hsDec n) { c2.dec (c2.hsDec n) with concealed := false } else c2
  let h := c3.hoist n
  let st := c3.hsState n
  let loss := if cur < c3.lossThr n then h.loss + 1 else 0
  let below := if st = 1 ∧ cur < c3.seekThr n then h.below + 1 else 0
  let above := if st = 2 ∧ c3.seekThr n + c3.hyst n ≤ cur then h.above + 1 else 0
  let okRet := c3.wantReturn n cur own
  let retLoss := if c3.hsSrc n ∧ 5 ≤ loss ∧ c3.seekThr n ≤ own then h.retLoss + 1 else 0
  let c4 := c3.setHoist n { h with loss := loss, below := below, above := above,
                                   ret := (if okRet then h.ret + 1 else 0), retLoss := retLoss }
  let dwellN := c4.fld (R.HS_DWELL.at n) 0 8
  if st = 3 then (if (c4.hoist n).passed then c4 else c4.alignWatch n cur own)
  else if st = 5 then (if 5 ≤ loss then c4.setHs n 2 else c4)
  else if st = 1 ∨ st = 2 then
    let c5 := list.foldl (fun d e => d.dwell n cur own e) c4
    let c6 := if st = 1 ∧ dwellN ≤ below then (c5.setHs n 2).setHoist n { c5.hoist n with below := 0, above := 0 }
      else if st = 2 ∧ dwellN ≤ above then (c5.setHs n 1).setHoist n { c5.hoist n with below := 0, above := 0 }
      else c5
    match c6.bestQualified n own with
    | none => c6
    | some none => c6.alignStart n 3 0
    | some (some e) => (match c6.kindFor n e with | some k => c6.alignStart n k e | none => c6)
  else c4

/-- HOIST_WINDOW (R218). -/
def execHoistWindow (n : Fin 256) (w : HoistWin) (s : State) : Host.Outcome State Fault Refusal :=
  s.act 8 (fun c =>
    if c.hsState n = 0 ∨ c.cls n ≠ clsFm ∨ ¬(c.stState n = 3 ∨ c.stState n = 5) then c else c.hoistWindow n w)

/-! ### Alignment and the switch (R220 to R225) -/

/-- Δ of R221: the value nearest to `d` that is congruent to `s_new − s_old` modulo 1024, the smaller magnitude on a tie. -/
def alignDelta (d : Int) (oldStamp newStamp : Nat) : Int :=
  let low := d - (d - ((newStamp : Int) - oldStamp)) % 1024
  let high := low + 1024
  if d - low < high - d then low
  else if high - d < d - low then high
  else if low.natAbs ≤ high.natAbs then low else high

/-- OFS_new lies within R210 for the stall's team and the new source's floor. -/
def Core.inRange (c : Core) (n : Nat) (ofs : Int) (decode : Bool) : Bool :=
  match c.stallLatency n with
  | none => true
  | some l => decide (-(l : Int) ≤ ofs) && decide (ofs ≤ (l : Int) - (if decode then 19660800 else 393216))

/-- ALIGN_WINDOW (R220, R221, R222, R227). -/
def execAlignWindow (n : Fin 256) (w : AlignWin) (s : State) : Host.Outcome State Fault Refusal :=
  s.act 8 (fun c =>
    let h := c.hoist n
    if c.hsState n ≠ 3 ∨ h.passed = true then c
    else if c.fld (R.HS_THR.at n) 24 8 ≤ w.rho ∧ w.unique = true ∧ w.loud = true then
      let delta := alignDelta w.d w.oldStamp w.newStamp
      let ofs := signedOf 32 (c.reg (R.HS_OFS.at n)).toNat + delta
      if h.kind ≠ 4 ∧ c.inRange n ofs (decide (h.kind = 2)) = false then c.abandonHoist n 4 0
      else
        let gain := if bitOf (c.reg (R.HS_CTL.at n)) 6 then max (-3072) (min 3072 (-w.ratio)) else 0
        (c.setHoist n { h with passed := true, delta := delta, ofsNew := ofs, rho := min 255 w.rho, gain := gain }).placeSwitch n
    else
      let silent := h.silent && !w.loud
      let c1 := (c.bump (R.HS_CNT_ALIGN_FAIL.at n)).setHoist n { h with tries := h.tries + 1, silent := silent }
      if c.fld R.HOIST_CFG.at 24 4 ≤ h.tries + 1 then c1.abandonHoist n (if silent then 3 else 2) 0 else c1)

/-- HOIST_SWITCH (R222): tick H of a placed switch; a switch that waits for its entry is placed. -/
def execHoistSwitch (n : Fin 256) (s : State) : Host.Outcome State Fault Refusal :=
  s.act 8 (fun c =>
    let h := c.hoist n
    if c.hsState n = 4 ∧ h.h = some c.now then c.hoistSwitch n
    else if c.hsState n = 3 ∧ h.passed = true then c.placeSwitch n
    else c)

/-- HOIST_FADE_END (R224): a RETURN drops Hoist's decode in the tick after the last fade sample is presented. -/
def execHoistFadeEnd (n : Fin 256) (s : State) : Host.Outcome State Fault Refusal :=
  s.act 8 (fun c =>
    match (c.hoist n).fadeEnd with
    | none => c
    | some t =>
      if t ≤ c.now then
        ((c.freeDecode (c.hsDec n)).setFld (R.HS_STATUS.at n) 4 6 0).setHoist n { c.hoist n with fadeEnd := none }
      else c)

/-- HOLD_END (R219). -/
def execHoldEnd (n : Fin 256) (s : State) : Host.Outcome State Fault Refusal :=
  s.act 8 (fun c =>
    match (c.hoist n).holdEnd with
    | none => c
    | some t => if c.hsState n = 5 ∧ t ≤ c.now then (c.setHs n 1).setHoist n { c.hoist n with holdEnd := none, below := 0, above := 0 } else c)

/-! ### Host control (R208, R211, R219, R226) -/

/-- A write of HS_CTL (R208, R211, R219, R230). -/
def hsCtlWrite (n : Nat) (c : Core) (v : Word) : Core × Bool :=
  let a := R.HS_CTL.at n
  let en := bitOf v 0
  let was := bitOf (c.reg a) 0
  let link := bitOf v 1
  let team := c.fld (R.ST_ROUTE.at n) 8 8
  let slow := c.teamOpen team && decide (100663296 ≤ c.teamLatency team)
  if (en && decide (c.cls n ≠ clsFm)) || decide (fieldOf v 2 2 = 3) ||
      (link && !slow) || (!en && was && c.hsSrc n) then c.refuseStall n
  else
    let c1 := c.setReg a (R.HS_CTL.merge 0 (c.reg a) v)
    if en && !was then (if c.stState n = 3 then (if c.hsState n = 0 then c1.setHs n 1 else c1) else c1, true)
    else if !en && was then ((((c1.switchFirst n).abandonHoist n 1 0).releaseScouts n).setHs n 0, true)
    else (c1, true)

/-- HS_EN_WRITE (R219). -/
def execHsEnWrite (port : Port) (n : Fin 256) (v : Word) (s : State) : Host.Outcome State Fault Refusal :=
  s.write port R.HS_CTL (R.HS_CTL.at n) v (hsCtlWrite n)

/-- CMD_CODE and CMD_SEQ after a command of HS_CMD (R226). -/
def Core.hsResult (c : Core) (n code : Nat) : Core :=
  (c.setFld (R.HS_STATUS.at n) 20 4 code).wrapFld (R.HS_STATUS.at n) 24 8

/-- SEEK_NOW (R226): the code. -/
def Core.seekNow (c : Core) (n : Nat) : Core × Nat :=
  if c.hsState n = 1 then ((c.setHs n 2).setHoist n { c.hoist n with below := 0, above := 0 }, 0) else (c, 1)

/-- GOTO (R226): an AF candidate without a held scout takes one; without one to take, the hoist ends with CAND_LOST. -/
def Core.hsGoto (c : Core) (n e : Nat) : Core × Nat :=
  let st := c.hsState n
  if ¬(st = 1 ∨ st = 2 ∨ st = 5) then (c, 1)
  else if 40 ≤ e ∨ c.afKind n e = 0 ∨ c.afBlocked n e = true ∨ c.candState n e = 8 ∨ c.candState n e = 7 then (c, 2)
  else
    let known := if c.afKind n e = 2 then c.linkKnown n e else c.idPassed n e
    match c.kindFor n e, known with
    | some k, true =>
      if k = 2 then (c.alignStart n k e, 0)
      else
        match (c.scoutsOf n).find? (fun i => decide ((c.scout i).entry = e)) with
        | some i => ((c.setScout i { c.scout i with use := 2 }).alignStart n k e, 0)
        | none =>
          match c.freeScout, c.scoutRoom with
          | some i, true => ((c.startScout n e i 2).alignStart n k e, 0)
          | _, _ => ((c.alignStart n k e).abandonHoist n 5 0, 0)
    | _, _ => (c, 2)

/-- RETURN (R226). -/
def Core.hsReturn (c : Core) (n : Nat) : Core × Nat :=
  if c.hsSrc n = false ∨ c.hsState n = 3 ∨ c.hsState n = 4 ∨ c.hsState n = 0 then (c, 1) else (c.alignStart n 3 0, 0)

/-- CANCEL (R226). -/
def Core.hsCancel (c : Core) (n : Nat) : Core × Nat :=
  let h := c.hoist n
  let late := match h.h with | some t => decide (t ≤ c.now) | none => false
  if c.hsState n = 3 ∨ (c.hsState n = 4 ∧ late = false) then (c.abandonHoist n 1 0, 0) else (c, 3)

/-- HS_SEEK_NOW (R226). -/
def execHsSeekNow (n : Fin 256) (s : State) : Host.Outcome State Fault Refusal :=
  s.act 8 (fun c => let d := c.seekNow n; d.1.hsResult n d.2)

/-- HS_GOTO (R226). -/
def execHsGoto (n : Fin 256) (e : Fin 64) (s : State) : Host.Outcome State Fault Refusal :=
  s.act 8 (fun c => let d := c.hsGoto n e; d.1.hsResult n d.2)

/-- HS_RETURN (R226). -/
def execHsReturn (n : Fin 256) (s : State) : Host.Outcome State Fault Refusal :=
  s.act 8 (fun c => let d := c.hsReturn n; d.1.hsResult n d.2)

/-- HS_CANCEL (R226). -/
def execHsCancel (n : Fin 256) (s : State) : Host.Outcome State Fault Refusal :=
  s.act 8 (fun c => let d := c.hsCancel n; d.1.hsResult n d.2)

/-- HOIST_CMD (R226, R254): the lowest command bit set acts; none completes NONE. -/
def execHoistCmd (h : CmdHead) (n : Fin 256) (ops entry : Nat) (s : State) : Host.Outcome State Fault Refusal :=
  s.run (fun c => c.command h 0x22 (fun c =>
    let d := if ops % 2 = 1 then c.seekNow n
      else if ops / 2 % 2 = 1 then c.hsGoto n entry
      else if ops / 4 % 2 = 1 then c.hsReturn n
      else if ops / 8 % 2 = 1 then c.hsCancel n
      else (c, 3)
    d.1.complete 0x22 h.seq d.2 5 c.now []))

/-! ### The candidate list (R213, R217, R231) -/

/-- AF_ENTRY_AGE (R213). -/
def execAfEntryAge (n : Fin 256) (e : Fin 40) (s : State) : Host.Outcome State Fault Refusal :=
  s.act 8 (fun c =>
    let st := c.candState n e
    if 8 ≤ e.val ∧ c.afKind n e ≠ 0 ∧ c.afBlocked n e = false ∧ st ≠ 5 ∧ st ≠ 6 ∧ st ≠ 7 ∧
        (c.cand n e).confirmed + c.fld R.HOIST_AGE.at 0 16 * ticksPerSecond ≤ c.now then
      (((c.scoutsOf n).filter (fun i => decide ((c.scout i).entry = e.val))).foldl Core.releaseScout c).clearCand n e
    else c)

/-- BAR_TIME_END (R217). -/
def execBarTimeEnd (n : Fin 256) (e : Fin 40) (s : State) : Host.Outcome State Fault Refusal :=
  s.act 8 (fun c =>
    match (c.cand n e).barEnd with
    | none => c
    | some t =>
      if c.candState n e = 8 ∧ t ≤ c.now then
        (c.setCand n e 1).setCandRec n e { c.cand n e with barEnd := none, visited := none }
      else c)

/-- A write through AF-list window `w` is refused (R231). -/
def Core.refuseAfw (c : Core) (w n : Nat) : Core × Bool :=
  (((c.setFld (R.AFW_STATUS.at w) 8 1 1).bumpFld (R.AFW_STATUS.at w) 16 16).stEvent n 31, false)

/-- A write of TARGET or CTL of entry `e` of stall `n` through window `w` (R231). -/
def afEntryWrite (w n e : Nat) (ctl : Bool) (c : Core) (v : Word) : Core × Bool :=
  let st := c.candState n e
  let oldT := c.reg (R.AFE_TARGET.at n e)
  let oldC := c.reg (R.AFE_CTL.at n e)
  let t := if ctl then oldT else v
  let k := if ctl then (if e < 8 then (oldC &&& 0xFFF0000C) ||| (v &&& 0x000FFF63) else (oldC &&& 0xFFFFFFDF) ||| (v &&& 0x20))
    else oldC
  let kind := fieldOf k 0 2
  if st = 5 ∨ st = 6 ∨ kind = 3 ∨
      (e < 8 ∧ kind = 1 ∧ ¬(64000000 ≤ t.toNat ∧ t.toNat ≤ 108000000)) then c.refuseAfw w n
  else
    let c1 := c.setFld (R.AFW_STATUS.at w) 8 1 0
    if 8 ≤ e then (c1.setReg (R.AFE_CTL.at n e) k, true)
    else
      let c2 := ((c1.setReg (R.AFE_TARGET.at n e) t).setReg (R.AFE_CTL.at n e) k)
      if t = oldT ∧ (k &&& 0xFFF43) = (oldC &&& 0xFFF43) then (c2, true)
      else
        let c3 := ((c2.scoutsOf n).filter (fun i => decide ((c2.scout i).entry = e))).foldl Core.releaseScout c2
        let c4 := (c3.setReg (R.AFE_MEAS.at n e) (resetValue (R.AFE_MEAS.at n e))).setCandRec n e { confirmed := c.now }
        (c4.setCand n e (if kind = 0 then 0 else 1), true)

/-- AF_ENTRY_WRITE (R231): the stall is the one selected at the start of the tick. -/
def execAfEntryWrite (port : Port) (w : Fin 4) (e : Fin 40) (ctl : Bool) (v : Word) (s : State) :
    Host.Outcome State Fault Refusal :=
  let n := s.image.fld (R.AFW_SEL.at w) 0 8
  s.write port (if ctl then R.AFE_CTL else R.AFE_TARGET) (if ctl then R.AFE_CTL.at n e else R.AFE_TARGET.at n e) v
    (afEntryWrite w n e ctl) (0x34040 + 0x1000 * w.val + 16 * e.val + (if ctl then 4 else 0))

/-! ### Host measurements (R232) -/

/-- The code of MEAS_CTL.GO (R232). -/
def Core.measCode (c : Core) : Nat :=
  let input := c.fld R.MEAS_CTL.at 0 2
  let f := (c.reg R.MEAS_FREQ.at).toNat
  let ok := if input = 2 then decide (100000 ≤ f) && decide (f ≤ 30000000) else decide (47000000 ≤ f) && decide (f ≤ 250000000)
  if c.measScout.isSome then 1
  else if !ok then 2
  else if !c.inputOn (if input = 2 then 0 else input + 1) then 3
  else if 640 < c.unitsUsed + 1 then 7
  else if c.freeScout.isNone then 8
  else 0

/-- MEAS_GO (R232). -/
def execMeasGo (s : State) : Host.Outcome State Fault Refusal :=
  s.act 8 (fun c =>
    let code := c.measCode
    let c1 := (c.setFld R.MEAS_CTL.at 24 4 code).wrapFld R.MEAS_CTL.at 16 8
    match code, c.freeScout with
    | 0, some i =>
      { c1.setScout i { use := 3, ant := c.fld R.MEAS_CTL.at 0 2, freq := (c.reg R.MEAS_FREQ.at).toNat, tr := c.now + 1 }
        with measScout := some i }
    | _, _ => c1)

/-- MEAS_DONE (R232): level in the format of R125 and quality in 1/256 dB, `none` where not measured. -/
def execMeasDone (level quality : Option (BitVec 16)) (s : State) : Host.Outcome State Fault Refusal :=
  s.act 8 (fun c =>
    match c.measScout with
    | none => c
    | some i =>
      let seq := c.fld R.MEAS_LEVEL.at 24 8 + 1
      let word := (match level with | some l => l.toNat + 2 ^ 18 | none => 0x8000) +
        65536 * c.fld R.MEAS_CTL.at 2 2 + 2 ^ 24 * (seq % 256)
      let q := match quality with | some x => x.toNat + 2 ^ 18 | none => 0x8000
      { (((c.setNat R.MEAS_LEVEL.at word).setNat R.MEAS_QUAL.at q).event 8 4).setScout i {} with measScout := none })

end Sys2Proof.Machine
end

