-- ==== Sys2Proof/Machine/FmAm.lean ====
section
/-! DEFINITION. The FM and AM engines (R150 to R173): pilot and carrier lock, RDS and RDS2 blocks and programme state, AMSS
blocks, MPX power, deviation histograms and the class words. Levels, deviations and powers are measured outside the
model and come with the commands; the block code of RDS is IEC 62106's (PRESUMED, log entry 21). -/

namespace Sys2Proof.Machine

/-- Side-data counter at slot offset `off` of stall `n` (R172, R204). -/
def Core.sideAddr (n off : Nat) : Nat := R.ST_COUNTER.at n ((off - 0x80) / 4)

/-- That counter advanced by `k`. -/
def Core.sideBy (c : Core) (n off k : Nat) : Core := c.bumpBy (Core.sideAddr n off) k

/-- That counter advanced by one. -/
def Core.side (c : Core) (n off : Nat) : Core := c.sideBy n off 1

/-! ### The RDS block code (R157) -/

/-- The remainder of a word of `len` bits, first bit highest, modulo the generator x¹⁰+x⁸+x⁷+x⁵+x⁴+x³+1. -/
def rdsSyndrome : Nat → Nat → Nat → Nat
  | 0, _, r => r
  | k + 1, w, r =>
    let s := 2 * r + w / 2 ^ k % 2
    rdsSyndrome k w (if 1024 ≤ s then s ^^^ 0x5B9 else s)

/-- The syndrome of a 26-bit block. -/
def blockSyndrome (w : Nat) : Nat := rdsSyndrome 26 w 0

/-- The offset words of a position: A, B, C and C′, D. -/
def rdsOffsets (pos : Nat) : List Nat :=
  match pos with | 0 => [0x0FC] | 1 => [0x198] | 2 => [0x168, 0x350] | _ => [0x1B4]

/-- The positions whose offset words a syndrome is. -/
def rdsPositions (s : Nat) : List Nat := (List.range 4).filter (fun p => (rdsOffsets p).contains s)

/-- The bursts of exactly `len` bits in 26: first and last bit set. -/
def burstsOf (len : Nat) : List Nat :=
  let body := if len = 1 then [1]
    else (List.range (2 ^ (len - 2))).map (fun m => 2 ^ (len - 1) + 2 * m + 1)
  body.flatMap (fun b => (List.range (27 - len)).map (fun k => b * 2 ^ k))

/-- The number of set bits of `x` among its lowest `n`. -/
def popCount : Nat → Nat → Nat
  | 0, _ => 0
  | n + 1, x => x % 2 + popCount n (x / 2)

/-- A block read at position `pos`: its information word, status (0 OK, 1 CORRECTED, 2 UNCORRECTABLE, 3 ERASED), corrected
bits and whether C′ was found. -/
def readBlock (bits : Nat) (erased : Bool) (pos corrMax : Nat) : Nat × Nat × Nat × Bool :=
  let word := bits / 1024
  if erased then (word, 3, 0, false)
  else
    let s := blockSyndrome bits
    if (rdsOffsets pos).contains s then (word, 0, 0, decide (s = 0x350))
    else
      let tries := (List.range corrMax).flatMap (fun l => burstsOf (l + 1))
      match tries.find? (fun e => (rdsOffsets pos).contains (s ^^^ blockSyndrome e)) with
      | some e => ((bits ^^^ e) / 1024, 1, popCount 26 e, decide (s ^^^ blockSyndrome e = 0x350))
      | none => (word, 2, 0, false)

/-- What one block does to a stream: the stream after it, the block read in sync (position, word, status, C′), whether sync
was acquired and whether it was lost. -/
structure BlockOut where
  stream : RdsStream
  read : Option (Nat × Nat × Nat × Bool) := none
  acquired : Bool := false
  lost : Bool := false
deriving DecidableEq, Repr

/-- A block of 26 bits that ends with bit `index` (R157). -/
def RdsStream.block (x : RdsStream) (bits : Nat) (erased : Bool) (index corrMax : Nat) : BlockOut :=
  if !x.sync then
    let here := if erased then [] else rdsPositions (blockSyndrome bits)
    match here.find? (fun p => x.prev.any (fun e => decide (e.1 + 26 = index) && decide ((e.2 + 1) % 4 = p))) with
    | some p => { stream := { x with sync := true, prev := [], last := index, pos := (p + 1) % 4, open_ := false,
                                     words := [], corr := 0, cprime := false, bad := 0 }, acquired := true }
    | none =>
      let kept := (x.prev ++ here.map (fun p => (index, p))).filter (fun e => decide (index ≤ e.1 + 25))
      { stream := { x with prev := kept } }
  else if index ≠ x.last + 26 then { stream := x }
  else
    let b := readBlock bits erased x.pos corrMax
    let bad := if 2 ≤ b.2.1 then x.bad + 1 else 0
    if 12 ≤ bad then
      { stream := { x with sync := false, prev := [], open_ := false, words := [], bad := 0 },
        read := some (x.pos, b.1, b.2.1, b.2.2.2), lost := true }
    else
      let starts := decide (x.pos = 0)
      let words := if starts then [(b.1, b.2.1)] else if x.open_ then x.words ++ [(b.1, b.2.1)] else []
      { stream := { x with last := index, pos := (x.pos + 1) % 4, bad := bad, open_ := starts || x.open_, words := words,
                           corr := (if starts then 0 else x.corr) + b.2.2.1,
                           cprime := (if starts then false else x.cprime) || b.2.2.2 },
        read := some (x.pos, b.1, b.2.1, b.2.2.2) }

/-! ### RDS state of a stall (R158, R159) -/

/-- An RDS_STATE pennant with a change mask (R159, R239). -/
def Core.rdsState (c : Core) (n mask stamp : Nat) (alert : Bool) : Core :=
  let f := c.fmRec n
  let w := c.reg (R.FM_STATUS.at n)
  let p := stallPennant n 0x03 stamp 2 mask
    (leBytes 2 (fieldOf w 16 16) ++ leBytes 1 (f.pty + 32 * fieldOf w 14 1 + 64 * fieldOf w 15 1 + 128 * fieldOf w 13 1) ++
      leBytes 1 (fieldOf w 9 4 + 16 * fieldOf w 0 1) ++ leBytes 8 f.ps)
  c.emit { p with alert := alert, output := 2 }

/-- FM_STATUS.RDS_SYNC or RDS2_SYNC of a stream. -/
def Core.setRdsSync (c : Core) (n stream : Nat) (v : Bool) : Core := c.setFld (R.FM_STATUS.at n) (9 + stream) 1 (b2n v)

/-- A received value equals the last one received. -/
def repeated (last now : Option Nat) : Option Nat := match last, now with
  | some a, some b => if a = b then some b else none
  | _, _ => none

/-- The PS that four segments, each received twice or more, spell; segment k holds characters 2k and 2k + 1. -/
def psOf (segs : Table (Nat × Nat)) : Option Nat :=
  let seg := fun k => Table.get (fun _ => (0, 0)) segs k
  if (List.range 4).all (fun k => decide (2 ≤ (seg k).2)) then
    some ((List.range 4).foldr (fun k r => (seg k).1 + 65536 * r) 0)
  else none

/-- The programme state after a complete group of stream 0 (R159): words and statuses of its four blocks. -/
def Core.programme (c : Core) (n : Nat) (words : List (Nat × Nat)) (cprime : Bool) (stamp : Nat) : Core :=
  let f := c.fmRec n
  let w := c.reg (R.FM_STATUS.at n)
  let blk := fun k => (words.getD k (0, 2)).1
  let good := fun k => decide ((words.getD k (0, 2)).2 ≤ 1)
  let piNow := if good 0 then some (blk 0) else if cprime && good 2 then some (blk 2) else none
  let ptyNow := if good 1 then some (blk 1 / 32 % 64) else none
  let typ := blk 1 / 2048
  let hasTa := good 1 && (decide (typ ≤ 1) || decide (typ = 31))
  let taNow := if hasTa then some (blk 1 / 16 % 2) else none
  let pi := repeated f.piLast piNow
  let pty := repeated f.ptyLast ptyNow
  let ta := repeated f.taLast taNow
  let seg := blk 1 % 4
  let chars := blk 3 / 256 + 256 * (blk 3 % 256)
  let old := Table.get (fun _ => (0, 0)) f.segs seg
  let segs := if good 1 && decide (typ ≤ 1) && good 3 then
      Table.set (fun _ => (0, 0)) f.segs seg (chars, if old.2 ≠ 0 ∧ old.1 = chars then old.2 + 1 else 1) else f.segs
  let valid := bitOf w 13
  let newPi := match pi with | some p => !valid || decide (p ≠ fieldOf w 16 16) | none => false
  let newPty := match pty with | some p => !f.ptyKnown || decide (p % 32 ≠ f.pty) | none => false
  let newTp := match pty with | some p => !f.ptyKnown || decide (p / 32 ≠ fieldOf w 14 1) | none => false
  let newTa := match ta with | some t => !f.taKnown || decide (t ≠ fieldOf w 15 1) | none => false
  let newPs := match psOf segs with | some p => !f.psKnown || decide (p ≠ f.ps) | none => false
  let rise := newTa && decide (ta = some 1) && decide (fieldOf w 15 1 = 0)
  let f1 : FmRec := { f with piLast := piNow, ptyLast := ptyNow,
                             taLast := if !good 1 || hasTa then taNow else f.taLast,
                             ptyKnown := f.ptyKnown || pty.isSome, taKnown := f.taKnown || ta.isSome,
                             pty := (match pty with | some p => p % 32 | none => f.pty),
                             segs := if newPs then [] else segs,
                             ps := if newPs then (psOf segs).getD 0 else f.ps, psKnown := f.psKnown || newPs }
  let c1 := c.setFm n f1
  let c2 := match pi with | some p => (c1.setFld (R.FM_STATUS.at n) 16 16 p).setFld (R.FM_STATUS.at n) 13 1 1 | none => c1
  let c3 := match pty with | some p => c2.setFld (R.FM_STATUS.at n) 14 1 (p / 32) | none => c2
  let c4 := match ta with | some t => c3.setFld (R.FM_STATUS.at n) 15 1 t | none => c3
  let c5 := if newPi && valid then c4.side n 0xAC else c4
  let mask := b2n newPi + 2 * b2n newPty + 4 * b2n newTp + 8 * b2n newTa + 16 * b2n newPs
  if mask = 0 then c5
  else c5.rdsState n mask stamp (rise && bitOf (c5.reg (R.FM_STATUS.at n)) 14 && bitOf (c5.reg (R.FM_CFG.at n)) 14)

/-- The AF codes of block 3 of a group 0A go to Hoist (R212): a header code 225 to 249 is followed by the list's first
frequency; a list whose later pairs hold that frequency is a method B list, of which only the pairs with the stall's
current frequency are taken. -/
def Core.afCodes (c : Core) (n a b : Nat) : Core :=
  if ¬(c.fld (R.HS_CTL.at n) 0 1 = 1 ∧ c.fld (R.HS_CTL.at n) 4 1 = 1) then c
  else
    let f := c.fmRec n
    let hz := fun k : Nat => 87500000 + 100000 * k
    let isAf := fun k : Nat => decide (1 ≤ k) && decide (k ≤ 204)
    let add := fun (d : Core) (k : Nat) => if isAf k then d.addFreq n 1 (hz k) else d
    let here := (c.reg (R.ST_FREQ.at n)).toNat
    if 225 ≤ a ∧ a ≤ 249 then
      let d := c.setFm n { f with afHead := some b, afB := false }
      add d b
    else
      match f.afHead with
      | none => add (add c a) b
      | some h =>
        let isB := f.afB || decide (a = h) || decide (b = h)
        let d := c.setFm n { f with afB := isB }
        if isB then (if hz h = here then add (add d a) b else d) else add (add d a) b

/-- The end of block D of a group that began with its block A (R158): the group pennant, or a dropped group. -/
def Core.groupEnd (c : Core) (n stream : Nat) (x : RdsStream) (stamp : Nat) : Core :=
  if x.words.all (fun e => decide (2 ≤ e.2)) then c.side n 0xB0
  else
    let st := (List.range 4).foldr (fun k r => (x.words.getD k (0, 0)).2 + 4 * r) 0
    let f := c.fmRec n
    let c1 := (c.setFm n (f.setStream stream { x with groups := x.groups + 1 })).side n
      (if stream = 0 then 0x8C else 0x90 + 4 * stream)
    let p := stallPennant n (if stream = 0 then 0x01 else 0x02) stamp 2 stream
      (x.words.flatMap (fun e => leBytes 2 e.1) ++ leBytes 1 st ++
        leBytes 1 (b2n x.cprime + 2 * c.fld (R.FM_CFG.at n) 9 1) ++ leBytes 1 x.corr ++ leBytes 1 0 ++ leBytes 2 x.groups)
    let c2 := c1.emit { p with output := 2 }
    if stream ≠ 0 then c2
    else
      let c3 := c2.programme n x.words x.cprime stamp
      let b2 := x.words.getD 1 (0, 2)
      let b3 := x.words.getD 2 (0, 2)
      if b2.2 ≤ 1 ∧ b3.2 ≤ 1 ∧ b2.1 / 2048 = 0 ∧ x.cprime = false then c3.afCodes n (b3.1 / 256) (b3.1 % 256) else c3

/-- RDS stream `s` of stall `n` is decoded: enabled, on an FM stall that produces outputs (R156). -/
def Core.rdsOn (c : Core) (n s : Nat) : Bool :=
  decide (c.cls n = clsFm) && c.live n &&
    (if s = 0 then bitOf (c.reg (R.FM_CFG.at n)) 5 else bitOf (c.reg (R.FM_CFG.at n)) (5 + s))

/-- The counters of a block read in sync (R172). -/
def Core.blockCounted (c : Core) (n s status : Nat) : Core :=
  if s = 0 then c.side n (match status with | 0 => 0x80 | 1 => 0x84 | _ => 0x88)
  else if 2 ≤ status then c.side n 0xA0 else c

/-- A block of stream `s` of stall `n` (R157, R158). -/
def Core.stallBlock (c : Core) (n s bits : Nat) (erased : Bool) (index stamp : Nat) : Core :=
  if !c.rdsOn n s then c
  else
    let f := c.fmRec n
    let o := (f.stream s).block bits erased index (c.fld (R.FM_CFG.at n) 11 3)
    let c1 := c.setFm n (f.setStream s o.stream)
    if o.acquired then c1.setRdsSync n s true
    else
      match o.read with
      | none => c1
      | some (pos, _, status, _) =>
        let c2 := c1.blockCounted n s status
        if o.lost then
          let c3 := (c2.setRdsSync n s false).side n 0x90
          if s = 0 then c3.rdsState n 32 stamp false else c3
        else if pos = 3 ∧ o.stream.open_ = true ∧ o.stream.words.length = 4 then
          c2.groupEnd n s o.stream stamp
        else c2

/-- A block of a scout (R215, R217): two block-A words received in a row that agree complete the identity check. -/
def Core.scoutBlock (c : Core) (i bits : Nat) (erased : Bool) (index : Nat) : Core :=
  let x := c.scout i
  if ¬(x.use = 1 ∨ x.use = 2) then c
  else
    let o := x.rds.block bits erased index (c.fld (R.FM_CFG.at x.stall) 11 3)
    let c1 := c.setScout i { x with rds := o.stream }
    match o.read with
    | some (0, word, status, _) =>
      if 2 ≤ status then c1.setScout i { c1.scout i with pi := none }
      else if x.pi = some word then c1.scoutPi i word
      else c1.setScout i { c1.scout i with pi := some word }
    | _ => c1

/-- RDS_BLOCK (R157 to R159, R212, R217). -/
def execRdsBlock (src : RdsSource) (stream : Fin 4) (bits : BitVec 26) (erased : Bool) (index stamp : Nat) (s : State) :
    Host.Outcome State Fault Refusal :=
  s.run (fun c => match src with
    | .stall n => c.stallBlock n stream bits.toNat erased index stamp
    | .scout i => if stream = 0 then c.scoutBlock i bits.toNat erased index else c)

/-! ### FM measurements (R153, R154, R160, R161) -/

/-- An FM stall that produces outputs. -/
def Core.fmLive (c : Core) (n : Nat) : Bool := decide (c.cls n = clsFm) && c.live n

/-- NOISE_BLANK (R153). -/
def execNoiseBlank (n : Fin 256) (s : State) : Host.Outcome State Fault Refusal :=
  s.run (fun c => if c.fmLive n && bitOf (c.reg (R.FM_CFG.at n)) 4 then c.side n 0xA4 else c)

/-- PILOT_CHANGE (R154): lock needs a pilot deviation of 3.0 kHz or more. -/
def execPilotChange (n : Fin 256) (lock : Bool) (dev : BitVec 8) (s : State) : Host.Outcome State Fault Refusal :=
  s.run (fun c =>
    if c.fmLive n && (!lock || decide (96 ≤ dev.toNat)) && decide (bitOf (c.reg (R.FM_STATUS.at n)) 0 ≠ lock) then
      let c1 := (c.setFld (R.FM_STATUS.at n) 0 1 (b2n lock)).setFld (R.FM_MPX.at n) 24 8 dev.toNat
      if lock then c1 else c1.side n 0xA8
    else c)

/-- The separation target of R154 for a stall quality in 1/256 dB. -/
def Core.separation (c : Core) (n : Nat) (quality : Int) : Nat :=
  if !bitOf (c.reg (R.FM_STATUS.at n)) 0 then 0
  else
    match c.fld (R.FM_CFG.at n) 2 2 with
    | 0 => (max 0 (min 128 ((quality - 6144) * 128 / 3072))).toNat
    | 2 => 128
    | _ => 0

/-- BLEND moves from `old` towards its target and not past it (R154). -/
def blendStep (old target next : Nat) : Nat := max (min old target) (min (max old target) next)

/-- MPX_POWER_UPDATE (R160): a WALK window boundary. -/
def execMpxPowerUpdate (n : Fin 256) (counted : Bool) (power : BitVec 16) (pilotDev peak : BitVec 8) (s : State) :
    Host.Outcome State Fault Refusal :=
  s.run (fun c =>
    if !c.fmLive n then c
    else
      let f := c.fmRec n
      let k := if counted then min 60 (f.mpxWindows + 1) else f.mpxWindows
      let value := if counted then power.toNat else c.fld (R.FM_MPX.at n) 0 16
      let valid := decide (0 < k)
      let part := decide (k < 60)
      let above := valid && decide (0 < signedOf 16 value)
      let c1 := (c.setFm n { f with mpxWindows := k }).setNat (R.FM_MPX.at n)
        (value + 2 ^ 16 * b2n valid + 2 ^ 17 * b2n part + 2 ^ 18 * b2n above + 2 ^ 24 * pilotDev.toNat)
      if bitOf (c.reg (R.FM_CFG.at n)) 15 then
        let p := stallPennant n 0x04 (c.antenna n 3 / 49152000 * 49152000) 100 0
          (leBytes 2 value ++ leBytes 1 (b2n valid + 2 * b2n above) ++ leBytes 1 pilotDev.toNat ++ leBytes 1 peak.toNat ++
            leBytes 1 k)
        c1.emit { p with part := part, output := 3 }
      else c1)

/-- DEV_HIST_PERIOD_END (R161, R169): the period must not have been discarded; it is PART when the stall did not count for
its whole length. -/
def execDevHistPeriodEnd (n : Fin 256) (bins : List Nat) (stamp : Nat) (s : State) : Host.Outcome State Fault Refusal :=
  s.run (fun c =>
    let p := c.fld (R.FM_CFG.at n) 16 12
    let len := p * 49152000
    if !c.fmLive n || decide (p = 0) || decide (stamp = 0) || decide (stamp % len ≠ 0) || decide (stamp < len) then c
    else if stamp - len < (c.fmRec n).histFrom then c
    else
      let part := decide (stamp - len < (c.stallRec n).countFrom)
      (List.range 16).foldl (fun d i =>
        let x := stallPennant n 0x05 stamp 100 i
          ((List.range 4).flatMap (fun j => leBytes 4 (bins.getD (4 * i + j) 0)) ++ leBytes 2 p)
        d.emit { x with part := part, output := 3 }) (c.side n 0xB4))

/-! ### The AM engine (R163 to R167) -/

/-- An AM stall that produces outputs. -/
def Core.amLive (c : Core) (n : Nat) : Bool := decide (c.cls n = clsAm) && c.live n

/-- An AM_STATE pennant with a change mask (R167, R239). -/
def Core.amState (c : Core) (n mask stamp : Nat) : Core :=
  let w := c.reg (R.AM_STATUS.at n)
  let p := stallPennant n 0x09 stamp 2 mask
    (leBytes 1 (fieldOf w 0 3) ++ leBytes 1 (c.fld (R.AM_CFG.at n) 0 2) ++ leBytes 2 (fieldOf w 16 16) ++
      leBytes 2 (c.fld (R.AM_CARRIER.at n) 0 16))
  c.emit { p with output := 1 }

/-- AM_STATUS.ENV_FALLBACK follows CARRIER_LOCK and the detector (R163). -/
def Core.amFallback (c : Core) (n : Nat) : Core :=
  c.setFld (R.AM_STATUS.at n) 2 1
    (b2n (decide (c.fld (R.AM_CFG.at n) 0 2 ≠ 0) && !bitOf (c.reg (R.AM_STATUS.at n)) 0))

/-- CARRIER_LOCK_CHANGE (R163, R167). -/
def execCarrierLockChange (n : Fin 256) (lock : Bool) (cfo level : BitVec 16) (stamp : Nat) (s : State) :
    Host.Outcome State Fault Refusal :=
  s.run (fun c =>
    if c.amLive n && decide (bitOf (c.reg (R.AM_STATUS.at n)) 0 ≠ lock) then
      let old := c.fld (R.AM_STATUS.at n) 2 1
      let c1 := ((c.setFld (R.AM_STATUS.at n) 0 1 (b2n lock)).setFld (R.AM_STATUS.at n) 16 16 cfo.toNat).setFld
        (R.AM_CARRIER.at n) 0 16 level.toNat
      let c2 := (if lock then c1 else c1.side n 0x94).amFallback n
      c2.amState n (1 + 4 * b2n (decide (c2.fld (R.AM_STATUS.at n) 2 1 ≠ old))) stamp
    else c)

/-- AMSS sync of stall `n` ends: 0x90 counts a loss, and the AM_STATE pennant tells it. -/
def Core.amssLost (c : Core) (n stamp : Nat) (counted : Bool) : Core :=
  let c1 := (c.setFld (R.AM_STATUS.at n) 1 1 0).setAm n { c.amRec n with bad := 0, prev := none }
  (if counted then c1.side n 0x90 else c1).amState n 2 stamp

/-- AMSS_BLOCK (R166, R167): the standard sends its two block types in turn (PRESUMED, log entry 21); a block decided while
the carrier loop is not locked counts as ERASED. -/
def execAmssBlock (n : Fin 256) (kind : BitVec 8) (status : Fin 4) (info : BitVec 40) (stamp : Nat) (s : State) :
    Host.Outcome State Fault Refusal :=
  s.run (fun c =>
    if !c.amLive n || !bitOf (c.reg (R.AM_CFG.at n)) 2 then c
    else
      let a := c.amRec n
      let lock := bitOf (c.reg (R.AM_STATUS.at n)) 0
      let st := if lock then status.val else 3
      if !bitOf (c.reg (R.AM_STATUS.at n)) 1 then
        let clean := decide (st = 0)
        if clean && (match a.prev with | some k => decide (k ≠ kind.toNat) | none => false) then
          ((c.setAm n { a with bad := 0, prev := none }).setFld (R.AM_STATUS.at n) 1 1 1).amState n 2 stamp
        else c.setAm n { a with prev := if clean then some kind.toNat else none }
      else
        let bad := if 2 ≤ st then a.bad + 1 else 0
        let c1 := ((c.setAm n { a with bad := bad, units := a.units + 1 }).side n
          (match st with | 0 => 0x80 | 1 => 0x84 | _ => 0x88)).side n 0x8C
        let p := stallPennant n 0x08 stamp 2 kind.toNat (leBytes 5 info.toNat ++ leBytes 1 st ++ leBytes 2 a.units)
        let c2 := c1.emit { p with output := 1 }
        if 6 ≤ bad then c2.amssLost n stamp true else c2)

/-! ### Class words (R168, R169) -/

/-- A write of a class word in a state that refuses it. -/
def Core.classWordShut (c : Core) (n : Nat) : Bool := decide (c.stState n = 1) || decide (c.stState n = 6)

/-- A value of FM_CFG that R170 refuses. -/
def fmCfgBad (v : Word) : Bool :=
  decide (fieldOf v 0 2 = 3) || decide (fieldOf v 2 2 = 3) || decide (5 < fieldOf v 11 3) || decide (3600 < fieldOf v 16 12)

/-- Streams that a write disables lose their sync and their partial group (R169). -/
def Core.dropStreams (c : Core) (n : Nat) (old new : Word) : Core :=
  (List.range 4).foldl (fun d s =>
    if bitOf old (5 + s) && !bitOf new (5 + s) then
      let f := d.fmRec n
      (d.setFm n (f.setStream s { f.stream s with sync := false, prev := [], open_ := false, words := [], bad := 0 })).setRdsSync
        n s false
    else d) c

/-- A write of FM_CFG (R168, R169, R498). -/
def fmCfgWrite (n : Nat) (c : Core) (v : Word) : Core × Bool :=
  let a := R.FM_CFG.at n
  let old := c.reg a
  let new := R.FM_CFG.merge 0 old v
  let st := c.stState n
  let mpx := decide (bitOf old 10 ≠ bitOf new 10)
  let r := c.rateCfg n
  let loads := { r with word := new }.loads c.routeByte c.alertQueue
  let extra := if bitOf new 10 then 4160 * blockRate 256 / 1000000 else 0
  if c.cls n ≠ clsFm then (c, true)
  else if c.classWordShut n || fmCfgBad v || (mpx && decide (st ≠ 0) && decide (st ≠ 4)) then c.refuseStall n
  else if mpx && decide (st = 4) && decide (c.budgetCheck n extra c.allLoads (c.stallLoads n) loads
      (r.ethRate c.routeByte) ({ r with word := new }.ethRate c.routeByte) (c.fld (R.ST_ROUTE.at n) 8 8) ≠ 0) then
    c.refuseStall n
  else if !c.ratesFit n { r with word := new } then c.refuseRate n
  else
    let c1 := (c.setReg a new).dropStreams n old new
    let f := c1.fmRec n
    (if fieldOf old 16 12 ≠ fieldOf new 16 12 then c1.setFm n { f with histFrom := 48 * (c.now + 1) - c.delay n 3 } else c1, true)

/-- FM_CFG_WRITE (R168). -/
def execFmCfgWrite (port : Port) (n : Fin 256) (v : Word) (s : State) : Host.Outcome State Fault Refusal :=
  s.write port R.FM_CFG (R.FM_CFG.at n) v (fmCfgWrite n)

/-- A write of AM_CFG (R168, R498). -/
def amCfgWrite (n : Nat) (c : Core) (v : Word) : Core × Bool :=
  let a := R.AM_CFG.at n
  let old := c.reg a
  let new := R.AM_CFG.merge 0 old v
  if c.cls n ≠ clsAm then (c, true)
  else if c.classWordShut n then c.refuseStall n
  else if !c.ratesFit n { c.rateCfg n with word := new } then c.refuseRate n
  else
    let c1 := (c.setReg a new).amFallback n
    let synced := bitOf (c.reg (R.AM_STATUS.at n)) 1
    (if bitOf old 2 && !bitOf new 2 && synced then c1.amssLost n (48 * (c.now + 1) - c.delay n 1) false else c1, true)

/-- AM_CFG_WRITE (R168). -/
def execAmCfgWrite (port : Port) (n : Fin 256) (v : Word) (s : State) : Host.Outcome State Fault Refusal :=
  s.write port R.AM_CFG (R.AM_CFG.at n) v (amCfgWrite n)

/-! ### Synchronising resets (R169) -/

/-- What a synchronising reset does to the FM engine: syncs, PI_VALID and PILOT clear, partial groups go, the MPX power
restarts; one RDS_STATE pennant reports a loss. -/
def Core.fmReset (c : Core) (n : Nat) : Core :=
  let w := c.reg (R.FM_STATUS.at n)
  let f := c.fmRec n
  let held := fieldOf w 9 5 ≠ 0 ∨ fieldOf w 0 1 = 1
  let f1 : FmRec := { f with
    streams := f.streams.filterMap (fun e => if e.2.groups = 0 then none else some (e.1, { groups := e.2.groups }))
    piLast := none, ptyLast := none, taLast := none, ptyKnown := false, taKnown := false, segs := [], psKnown := false,
    mpxWindows := 0, afHead := none, afB := false }
  let c1 := ((c.setFm n f1).setFld (R.FM_STATUS.at n) 0 1 0).setFld (R.FM_STATUS.at n) 9 5 0
  if held then
    c1.rdsState n (b2n (decide (fieldOf w 13 1 = 1)) + 32 * b2n (decide (fieldOf w 9 1 = 1))) (c.antenna n 2) false
  else c1

/-- What a synchronising reset does to the AM engine (R169). -/
def Core.amReset (c : Core) (n : Nat) : Core :=
  let w := c.reg (R.AM_STATUS.at n)
  let old := fieldOf w 2 1
  let c1 := ((c.setAm n { c.amRec n with bad := 0, prev := none }).setFld (R.AM_STATUS.at n) 0 2 0).amFallback n
  if fieldOf w 0 2 = 0 then c1
  else c1.amState n (fieldOf w 0 2 + 4 * b2n (decide (c1.fld (R.AM_STATUS.at n) 2 1 ≠ old))) (c.antenna n 1)

end Sys2Proof.Machine
end

