-- ==== Sys2Proof/Machine/Rf.lean ====
section
/-! DEFINITION. The RF inputs (R79 to R96): power states, compensated gain steps, the wideband AGC, overload and the
calibration tone. Inputs are 0 RFH, 1 RFVA, 2 RFVB, on pages 3, 4, 5. -/

namespace Sys2Proof.Machine

/-! ### Facts of an input (R79, R80, R82) -/

/-- Hidden state of input `i`. -/
def Core.rf (c : Core) (i : Nat) : RfRec := Table.get (fun _ => {}) c.rfs i

/-- `c` with it replaced. -/
def Core.setRf (c : Core) (i : Nat) (x : RfRec) : Core := { c with rfs := Table.set (fun _ => {}) c.rfs i x }

/-- The highest SETTING (R79). -/
def topSetting (i : Nat) : Nat := if i = 0 then 15 else 30

/-- ADC samples per tick (R80). -/
def samplesPerTick (i : Nat) : Nat := if i = 0 then 96 else 768

/-- The ADC full scale (R82): 16 bits on HF, 14 on VHF. -/
def adcFullScale (i : Nat) : Nat := if i = 0 then 32768 else 8192

/-- The step size in dB (R91). -/
def stepDb (i : Nat) : Nat := if i = 0 then 2 else 1

/-- SYN0 delivers clocks (R80, R357): LOCKED or HOLD. -/
def Core.samplesFlow (c : Core) : Bool :=
  decide (c.fld R.SYN0_STATUS.at 0 3 = 1) || decide (c.fld R.SYN0_STATUS.at 0 3 = 2)

/-- RF_CTRL.POWER. -/
def Core.power (c : Core) (i : Nat) : Nat := c.fld (R.RF_CTRL.at i) 0 2

/-- RF_SETTING.CUR: the SETTING in force. -/
def Core.setting (c : Core) (i : Nat) : Nat := c.fld (R.RF_SETTING.at i) 8 5

/-- The antenna-referred sample y of an ADC sample x (R84): convergent rounding of x × C[s] / 512, 24 bits, saturating; and
whether it saturated. -/
def antennaReferred (x : Int) (corr : Nat) : Int × Bool :=
  let y := convergentDiv (x * corr) 512
  (satInt 24 y, decide (satInt 24 y ≠ y))

/-- An ADC sample counts as a clip (R90). -/
def Core.isClip (c : Core) (i : Nat) (x : Int) : Bool :=
  decide (c.fld (R.CLIP_THR.at i) 0 16 ≤ x.natAbs) ||
    (antennaReferred x (c.fld (R.GAIN_CORR.at i (c.setting i)) 0 20)).2

/-- A calibration cycle of block `b` runs, or a correction of it waits for its tick (R83, R405, R407): blocks 0 to 2 are the
inputs, 3 the radio. -/
def Core.calBusy (c : Core) (b : Nat) : Bool :=
  bitOf (c.reg R.CAL_STATUS.at) (4 + b) ||
    c.calPend.any (fun p => p.mask.testBit b)

/-- The checking stall is checking a stall or a bin that draws on input `i` (R83). -/
def Core.checkDraws (c : Core) (i : Nat) : Bool :=
  let w := c.reg R.CHECK_STATUS.at
  bitOf w 8 && (if bitOf w 9 then decide (i = c.check.input + 1) else (c.stallInputs (fieldOf w 0 8)).contains i)

/-- Something that is running draws on input `i` (R83): an open stall, a scout, a check. -/
def Core.inputDrawn (c : Core) (i : Nat) : Bool :=
  c.openStalls.any (fun n => (c.stallInputs n).contains i) ||
    c.scouts.any (fun e => decide (e.2.use ≠ 0) &&
      decide (i = (if e.2.ant = 2 then 0 else e.2.ant + 1))) ||
    c.checkDraws i

/-! ### Pending steps (R86, R88, R89) -/

/-- The due tick of a pending step: fixed, or predicted from its track; none while the track has not locked. -/
def Core.stepDue (c : Core) (s : RfStep) : Option Nat :=
  match s.due with
  | some d => some d
  | none => c.predictTick s.track s.epoch s.phase

/-- A step has committed in this tick or before (R86): the current tick is its commit tick when it is due in the next. -/
def Core.stepCommitted (c : Core) (s : RfStep) : Bool := s.committed || decide (c.stepDue s = some (c.now + 1))

/-- Pending steps in the order of their due ticks; steps without one rank last, in placement order (R88, R89). -/
def Core.stepOrder (c : Core) (i : Nat) : List RfStep :=
  let key := fun s => match c.stepDue s with | some d => d | none => 2 ^ 64
  (c.rf i).steps.foldl (fun l s => l.takeWhile (fun x => decide (key x ≤ key s)) ++ s ::
    l.dropWhile (fun x => decide (key x ≤ key s))) []

/-- RF_SETTING.NEXT: the SETTING after the last pending step. -/
def Core.nextSetting (c : Core) (i : Nat) : Nat :=
  match (c.stepOrder i).getLast? with | some s => s.setting | none => c.setting i

/-- The checks of an ADD in their order (R89): the code of the first that fails, 0 for none. -/
def Core.stepCheck (c : Core) (i : Nat) (s : RfStep) : Nat :=
  let steps := (c.rf i).steps
  let due := c.stepDue s
  if c.fld (R.RF_CTRL.at i) 2 1 = 1 ∨ c.power i ≠ 2 then 6
  else if topSetting i < s.setting then 4
  else if s.due.isNone ∧ (c.track s.track).state = .off then 3
  else if (match due with | some d => decide (d < c.now + 2) | none => false) then 2
  else if 8 ≤ steps.length then 1
  else if (match due with
    | none => false
    | some d => steps.any (fun x => match c.stepDue x with
      | some e => decide (d < e + 4) && decide (e < d + 4)
      | none => false)) then 5
  else 0

/-- Add a host step: the code and the due tick, 0 while the track has not locked. -/
def Core.stepAdd (c : Core) (i setting : Nat) (atOnce : Bool) (track epoch phase : Nat) (seq : Option Nat) :
    Core × Nat × Nat :=
  let s : RfStep := { setting := setting, track := track, epoch := epoch, phase := phase, seq := seq,
                      due := if atOnce then some (c.now + 2) else none }
  let code := c.stepCheck i s
  let due := c.stepDue s
  if code ≠ 0 then (c, code, 0)
  else
    let r := c.rf i
    (c.setRf i { r with steps := r.steps ++ [{ s with waiting := due.isNone }] }, 0, due.getD 0)

/-- The key under which a STEP_ADD awaits its landing. -/
def stepKey (i : Nat) (seq : Nat) : Nat := i * 65536 + seq

/-- A pending step is cancelled: a STEP_ADD that awaits its landing completes ABORTED. -/
def Core.stepDropped (c : Core) (i : Nat) (s : RfStep) : Core :=
  match s.seq with | some q => c.effectDone 0x1A (stepKey i q) 0 8 [] | none => c

/-- Cancel every uncommitted step of input `i` that `f` names; the flag tells whether a committed one is left. -/
def Core.cancelSteps (c : Core) (i : Nat) (f : RfStep → Bool) : Core × Bool :=
  let r := c.rf i
  let gone := r.steps.filter (fun s => f s && !c.stepCommitted s)
  let kept := r.steps.filter (fun s => !(f s && !c.stepCommitted s))
  (gone.foldl (fun d s => d.stepDropped i s) (c.setRf i { r with steps := kept }), kept.any f)

/-- STEP_RESULT after a GO (R89). -/
def Core.stepResult (c : Core) (i code : Nat) : Core :=
  (c.setFld (R.STEP_RESULT.at i) 0 4 code).wrapFld (R.STEP_RESULT.at i) 16 8

/-- STEP_GO_ADD (R89): executed in the tick after the write. -/
def execStepGoAdd (i : Fin 3) (s : State) : Host.Outcome State Fault Refusal :=
  s.act (3 + i) (fun c =>
    let w := R.STEP_CTL.at i
    let d := c.stepAdd i (c.fld w 24 5) (decide (c.fld w 18 1 = 1)) (c.fld w 16 2) (c.reg (R.STEP_EPOCH.at i)).toNat
      (c.fld w 0 16) none
    d.1.stepResult i d.2.1)

/-- STEP_GO_CANCEL_ALL (R89, R93): a committed step still lands, with PARTIAL. -/
def execStepGoCancelAll (i : Fin 3) (s : State) : Host.Outcome State Fault Refusal :=
  s.act (3 + i) (fun c =>
    let d := c.cancelSteps i (fun _ => true)
    d.1.stepResult i (if d.2 then 7 else 0))

/-- STEP_ADD (R89, R254). A page other than an RF page completes BAD_OPERAND. -/
def execStepAdd (h : CmdHead) (page setting : Nat) (s : State) : Host.Outcome State Fault Refusal :=
  s.run (fun c => c.command h 0x1A (fun c =>
    if page < 3 ∨ 5 < page then c.complete 0x1A h.seq 2 0 c.now []
    else
      let d := c.stepAdd (page - 3) setting h.now h.track (h.epoch % 2 ^ 32) (h.phase % 65536)
        (if h.atEffect then some h.seq else none)
      d.1.finish h 0x1A d.2.1 3 (stepKey (page - 3) h.seq) (if d.2.1 = 0 then leBytes 4 d.2.2 else [])))

/-- The step that commits in this tick (R86, R88): the first in order that is due in the next tick, or one that an event has
made due without a commit tick. A late step, and one placed before its track locked, keeps 4 ticks from the last landing. -/
def Core.committing (c : Core) (i : Nat) : Option RfStep :=
  let r := c.rf i
  if r.steps.any (·.committed) then none
  else
    let apart := decide (r.landed = 0) || decide (r.landed + 4 ≤ c.now + 1)
    (c.stepOrder i).find? (fun s => match c.stepDue s with
      | none => false
      | some d => if d = c.now + 1 then !s.waiting || apart else decide (d ≤ c.now) && apart)

/-- GAIN_STEP_COMMIT (R86): the analogue command leaves STEP_LAT samples ahead of the first sample of the next tick. -/
def execGainStepCommit (i : Fin 3) (s : State) : Host.Outcome State Fault Refusal :=
  s.act (3 + i) (fun c =>
    if !c.samplesFlow then c
    else
      match c.committing i with
      | none => c
      | some x =>
        let r := c.rf i
        let late := decide (c.stepDue x ≠ some (c.now + 1))
        let y := { x with committed := true, due := some (c.now + 1), late := x.late || late }
        (c.setRf i { r with steps := r.steps.map (fun z => if z = x then y else z) }).put
          (.gainCommand i x.setting (samplesPerTick i - c.fld (R.STEP_LAT.at i) 0 10)))

/-! ### The AGC (R91, R92) -/

/-- The AGC acts: AUTO on an input that is ON. -/
def Core.agcOn (c : Core) (i : Nat) : Bool := decide (c.fld (R.RF_CTRL.at i) 2 1 = 1) && c.inputOn i

/-- A pending step that the AGC placed. -/
def Core.agcStep (c : Core) (i : Nat) : Option RfStep := (c.rf i).steps.find? (·.agc)

/-- Place an AGC step from the SETTING in force, due at tick `due`, limited by SMIN and SMAX. -/
def Core.agcPlace (c : Core) (i : Nat) (down : Bool) (due : Nat) : Core :=
  let cur := c.setting i
  let w := R.AGC_CFG.at i
  let attack := c.fld w 4 3
  let smin := c.fld w 8 5
  let smax := c.fld w 16 5
  let goal := if down then max (cur - attack) smin else min (cur + 1) smax
  let beyond := if down then decide (cur < smin + attack) else decide (smax < cur + 1)
  let c1 := if beyond then c.event (3 + i) 3 else c
  let r := c1.rf i
  if (if down then decide (goal < cur) else decide (cur < goal)) then
    c1.setRf i { r with steps := r.steps ++ [{ setting := goal, due := some due, agc := true }] }
  else c1

/-- An AGC decision (R91): placed, or kept until the pending step lands. -/
def Core.agcWant (c : Core) (i : Nat) (down : Bool) : Core :=
  if (c.agcStep i).isSome then c.setRf i { c.rf i with want := some down } else c.agcPlace i down (c.now + 3)

/-- GAIN_STEP_LAND (R86, R88, R91, R93): the committed step takes effect on the first sample of this tick; with SYN0 unlocked,
steps whose due tick has come are cancelled. -/
def execGainStepLand (i : Fin 3) (s : State) : Host.Outcome State Fault Refusal :=
  s.act (3 + i) (fun c =>
    let r := c.rf i
    let isDue := fun x => match c.stepDue x with | some d => decide (d ≤ c.now) | none => false
    if !c.samplesFlow then
      if r.steps.any isDue then
        ((r.steps.filter isDue).foldl (fun d x => d.stepDropped i x)
          (c.setRf i { r with steps := r.steps.filter (fun x => !isDue x) })).event (3 + i) 2
      else c
    else
      match r.steps.find? (fun x => x.committed && isDue x) with
      | none => c
      | some x =>
        let c1 := c.setRf i { r with steps := r.steps.erase x, landed := c.now, want := none,
                                     quiet := if x.agc then 0 else r.quiet }
        let c2 := ((c1.setFld (R.RF_SETTING.at i) 8 5 x.setting).stampTick (R.STEP_LAST_TICK.at i)).setNat (R.STEP_LAST.at i)
          (c.setting i + 2 ^ 8 * x.setting + 2 ^ 16 * b2n x.late + 2 ^ 17 * b2n x.agc)
        let c3 := (c2.bump (R.STEP_CNT.at i)).event (3 + i) 1
        let c4 := if x.late then c3.event (3 + i) 2 else c3
        let c5 := match x.seq with
          | some q => c4.effectDone 0x1A (stepKey i q) 3 0 (leBytes 4 c.now)
          | none => c4
        match r.want with
        | some down => if x.agc && c5.agcOn i then c5.agcPlace i down (c.now + 3) else c5
        | none => c5)

/-- OVERLOAD of every stall in SETTLING, RUNNING or MOVING that `f` names (R90, R122). -/
def Core.overload (c : Core) (f : Nat → Bool) : Core :=
  (c.openStalls.filter (fun n =>
    (decide (c.stState n = 2) || decide (c.stState n = 3) || decide (c.stState n = 5)) && f n)).foldl
    (fun d n => d.stEvent n 2) c

/-- ADC_CLIP (R90, R91): with FAST, a clip places a down step unless a pending AGC step down already answers it. -/
def execAdcClip (i : Fin 3) (count : Nat) (s : State) : Host.Outcome State Fault Refusal :=
  s.act (3 + i) (fun c =>
    if count = 0 ∨ c.samplesFlow = false ∨ c.inputOn i = false then c
    else
      let c1 := ((c.bumpBy (R.CLIP_CNT.at i) count).event (3 + i) 0).overload (fun n => (c.stallInputs n).contains i.val)
      let c2 := c1.setRf i { c1.rf i with clips := true }
      if c2.agcOn i && bitOf (c2.reg (R.AGC_CFG.at i)) 7 then
        match c2.agcStep i with
        | some x => if x.setting < c2.setting i then c2 else c2.agcWant i true
        | none =>
          let c3 := c2.agcWant i true
          if (c3.agcStep i).isSome then c3.setRf i { c3.rf i with fast := true } else c3
      else c2)

/-- `peak` lies more than `db` dB below (`below`) or above that level of full scale (R91): peak²⁰ against FS²⁰ · 10^(−db). -/
def peakVs (i peak db : Nat) (below : Bool) : Bool :=
  if below then decide (peak ^ 20 * 10 ^ db < adcFullScale i ^ 20) else decide (adcFullScale i ^ 20 < peak ^ 20 * 10 ^ db)

/-- The AGC decision at the end of a window whose peak was `peak` (R91). -/
def Core.agcDecide (c : Core) (i peak : Nat) : Core :=
  let r := c.rf i
  let w := R.AGC_CFG.at i
  let target := c.fld w 0 4
  let quietDb := target + c.fld w 4 3 * stepDb i + 3
  if r.clips || peakVs i peak target false then
    let c1 := c.setRf i { r with quiet := 0 }
    if r.fast then c1 else c1.agcWant i true
  else if peakVs i peak quietDb true then
    let c1 := c.setRf i { r with quiet := r.quiet + 1 }
    if 16 * c.fld w 24 4 ≤ r.quiet + 1 then c1.agcWant i false else c1
  else c.setRf i { r with quiet := 0 }

/-- The part of a window end that is input `i`'s (R90, R91): RF_LEVEL and the AGC's decision. -/
def Core.rfWindow (c : Core) (i peak power : Nat) : Core :=
  if c.samplesFlow && c.inputOn i then
    let c1 := c.setNat (R.RF_LEVEL.at i) (peak % 65536 + 65536 * (power % 65536))
    let c2 := if c1.agcOn i then c1.agcDecide i peak else c1
    c2.setRf i { c2.rf i with clips := false, fast := false }
  else c.setRf i { c.rf i with clips := false, fast := false }

/-! ### Power states (R83, R92) -/

/-- A POWER that the input may not take now (R83). -/
def Core.powerRefused (c : Core) (i new : Nat) : Bool :=
  decide (new = 3) || (decide (new < 2) && decide (new ≠ c.power i) &&
    (c.inputDrawn i || !(c.rf i).steps.isEmpty || c.calBusy i))

/-- The ticks from a state to ON (R83). -/
def wakeTicks (old : Nat) : Nat := if old = 0 then 40960 else 205

/-- POWER changes from `old` to `new`: an input that leaves ON takes INIT and ends the AGC's books; one that goes ON wakes. -/
def Core.changePower (c : Core) (i old new : Nat) : Core :=
  let c1 := c.setFld (R.PG_STATUS.at (3 + i)) 16 2 new
  if new = 2 then
    (c1.setFld (R.PG_STATUS.at (3 + i)) 18 1 1).setRf i { c1.rf i with wake := some (c.now + 1 + wakeTicks old), quiet := 0 }
  else
    let c2 := (c1.setFld (R.PG_STATUS.at (3 + i)) 0 1 0).setFld (R.PG_STATUS.at (3 + i)) 18 1 0
    let c3 := if old = 2 then c2.setFld (R.RF_SETTING.at i) 8 5 (c.fld (R.RF_SETTING.at i) 0 5) else c2
    { c3.setRf i { c3.rf i with wake := none, want := none, quiet := 0 } with
      cal := { c3.cal with last := Table.set (fun _ => none) c3.cal.last i none } }

/-- A write of RF_CTRL (R83, R92): POWER and AGC_MODE are judged together, and a refusal of either refuses the whole write. -/
def rfCtrlWrite (i : Nat) (c : Core) (v : Word) : Core × Bool :=
  let a := R.RF_CTRL.at i
  let old := c.power i
  let new := fieldOf v 0 2
  let auto := bitOf v 2
  let was := bitOf (c.reg a) 2
  if c.powerRefused i new || (auto && !was && (c.rf i).steps.any (fun x => !x.agc)) then c.refusePage (3 + i)
  else
    let c1 := c.setReg a (R.RF_CTRL.merge 0 (c.reg a) v)
    let c2 := if new ≠ old then c1.changePower i old new else c1
    let c3 := if was && !auto then
        let d := (c2.cancelSteps i (·.agc)).1
        d.setRf i { d.rf i with want := none, quiet := 0 }
      else if auto && !was then c2.setRf i { c2.rf i with quiet := 0 } else c2
    (c3, true)

/-- RF_POWER_WRITE (R83). -/
def execRfPowerWrite (port : Port) (i : Fin 3) (v : Word) (s : State) : Host.Outcome State Fault Refusal :=
  s.write port R.RF_CTRL (R.RF_CTRL.at i) v (rfCtrlWrite i)

/-- AGC_MODE_WRITE (R92). -/
def execAgcModeWrite (port : Port) (i : Fin 3) (v : Word) (s : State) : Host.Outcome State Fault Refusal :=
  s.write port R.RF_CTRL (R.RF_CTRL.at i) v (rfCtrlWrite i)

/-- RF_WAKE_DONE (R80, R83): the first valid sample reaches the channeliser. -/
def execRfWakeDone (i : Fin 3) (s : State) : Host.Outcome State Fault Refusal :=
  s.act (3 + i) (fun c =>
    match (c.rf i).wake with
    | none => c
    | some t =>
      if t ≤ c.now ∧ c.samplesFlow = true then
        ((c.setFld (R.PG_STATUS.at (3 + i)) 18 1 0).setFld (R.PG_STATUS.at (3 + i)) 0 1 1).setRf i { c.rf i with wake := none }
      else c)

/-- A write of RF_SETTING.INIT (R83, R93, R95): refused while POWER is ON; otherwise the SETTING in force is the new INIT. -/
def rfSettingWrite (i : Nat) (c : Core) (v : Word) : Core × Bool :=
  if c.power i = 2 ∨ topSetting i < fieldOf v 0 5 then c.refusePage (3 + i)
  else ((c.setFld (R.RF_SETTING.at i) 0 5 (fieldOf v 0 5)).setFld (R.RF_SETTING.at i) 8 5 (fieldOf v 0 5), true)

/-- A write of TONE_CTRL (R94): refused while calibration owns the tone and for an INDEX or LEVEL out of range. -/
def toneWrite (i : Nat) (c : Core) (v : Word) : Core × Bool :=
  let idx := fieldOf v 4 8
  let good := if i = 0 then decide (32 ≤ idx) && decide (idx ≤ 44) else decide (128 ≤ idx) && decide (idx ≤ 146)
  if bitOf (c.reg (R.TONE_CTRL.at i)) 1 || !good || decide (10 < fieldOf v 12 4) then c.refusePage (3 + i)
  else plainWrite R.TONE_CTRL (R.TONE_CTRL.at i) c v

/-- TONE_CTRL_WRITE (R94). -/
def execToneCtrlWrite (port : Port) (i : Fin 3) (v : Word) (s : State) : Host.Outcome State Fault Refusal :=
  s.write port R.TONE_CTRL (R.TONE_CTRL.at i) v (toneWrite i)

end Sys2Proof.Machine
end

