-- ==== Sys2Proof/Machine/Chan.lean ====
section
/-! DEFINITION. The channeliser's windows, filter sets, detectors, saturation and level measurement (R97 to R126), the combiner's
weights (R137, R138) and the publication of quality (R147). -/

namespace Sys2Proof.Machine

/-! ### Channel windows (R114, R115) -/

/-- WIN_SEL_WRITE (R115): the new stall is shown from the next tick. -/
def execWinSelWrite (port : Port) (w : Fin 4) (v : Word) (s : State) : Host.Outcome State Fault Refusal :=
  s.write port R.WIN_SEL (R.WIN_SEL.at w) v (plainWrite R.WIN_SEL (R.WIN_SEL.at w))

/-- A write through window `w` to stall `n` is refused (R114). -/
def Core.refuseWin (c : Core) (w n : Nat) : Core × Bool :=
  (((c.setFld (R.WIN_STATUS.at w) 5 1 1).bumpFld (R.WIN_STATUS.at w) 16 16).stEvent n 31, false)

/-- A write through window `w` is accepted. -/
def Core.acceptWin (c : Core) (w : Nat) : Core × Bool := (c.setFld (R.WIN_STATUS.at w) 5 1 0, true)

/-- The stall that window `w` showed at the start of the tick (R115). -/
def State.winStall (s : State) (w : Nat) : Nat := s.image.fld (R.WIN_SEL.at w) 0 8

/-- STATE is CLOSED or STOPPED: the filter set is loadable (R114). -/
def loadable (st : Nat) : Bool := decide (st = 0) || decide (st = 4)

/-- A VARIANT that R113 marks for a class. -/
def variantOk (cls v : Nat) : Bool := decide (v = 0) || decide (cls = clsFm) || decide (cls = clsAm) || decide (cls = 0)

/-- A value of FIR_CTL that R114 refuses for a stall of class `cls`. -/
def firCtlBad (cls : Nat) (v : Word) : Bool :=
  let taps := fieldOf v 0 8
  (decide (taps ≠ 0) && (decide (taps < 16) || decide (128 < taps))) || !variantOk cls (fieldOf v 16 2) ||
    (bitOf v 12 && (decide (taps = 0) || (match classChain cls with | some g => decide (g.taps ≠ taps) | none => false)))

/-- A write of FIR_CTL of stall `n` through window `w`, the stall having been in state `st` at the start of the tick. -/
def firCtlWrite (w n st : Nat) (c : Core) (v : Word) : Core × Bool :=
  if !loadable st || firCtlBad (c.cls n) v then c.refuseWin w n
  else (c.setReg (R.FIR_CTL.at n) (R.FIR_CTL.merge 0 (c.reg (R.FIR_CTL.at n)) v)).acceptWin w

/-- FIR_CTL_WRITE (R114). -/
def execFirCtlWrite (port : Port) (w : Fin 4) (v : Word) (s : State) : Host.Outcome State Fault Refusal :=
  let n := s.winStall w
  s.write port R.FIR_CTL (R.FIR_CTL.at n) v (firCtlWrite w n (s.image.stState n)) (0x30008 + 0x1000 * w.val)

/-- A write of coefficient word `j` (R114). -/
def coefWrite (w n j st : Nat) (c : Core) (v : Word) : Core × Bool :=
  if !loadable st then c.refuseWin w n
  else (c.setReg (R.COEF.at n j) (R.COEF.merge 0 (c.reg (R.COEF.at n j)) v)).acceptWin w

/-- COEF_WRITE (R114). -/
def execCoefWrite (port : Port) (w : Fin 4) (j : Fin 64) (v : Word) (s : State) : Host.Outcome State Fault Refusal :=
  let n := s.winStall w
  s.write port R.COEF (R.COEF.at n j) v (coefWrite w n j (s.image.stState n)) (0x30100 + 0x1000 * w.val + 4 * j.val)

/-- FIR_DC_GAIN (R115): the sum over all taps of the host set, 18-bit words read as signed. -/
def Core.firDcGain (c : Core) (n : Nat) : Int :=
  let taps := c.fld (R.FIR_CTL.at n) 0 8
  ((List.range taps).map (fun j => signedOf 18 (c.reg (R.COEF.at n (min j (taps - 1 - j)))).toNat)).sum

/-- FIR_CRC (R115). -/
def Core.firCrc (c : Core) (n : Nat) : Nat :=
  crc32c ((List.range 64).flatMap (fun j => leBytes 4 (c.reg (R.COEF.at n j)).toNat))

/-- A write of CH_CFG (R116): DC_EN = 1 is refused for a stall that is not an IQ tap. -/
def dcCfgWrite (n : Nat) (c : Core) (v : Word) : Core × Bool :=
  if bitOf v 0 && decide (c.cls n ≠ clsIq) then c.refuseStall n else plainWrite R.CH_CFG (R.CH_CFG.at n) c v

/-- DC_CFG_WRITE (R117). -/
def execDcCfgWrite (port : Port) (n : Fin 256) (v : Word) (s : State) : Host.Outcome State Fault Refusal :=
  s.write port R.CH_CFG (R.CH_CFG.at n) v (dcCfgWrite n)

/-! ### Detectors (R118) -/

/-- Detector `i` of stall `n`. -/
def Core.det (c : Core) (n i : Nat) : DetRec := Table.get (fun _ => {}) (c.stallRec n).dets i

/-- `c` with it replaced. -/
def Core.setDet (c : Core) (n i : Nat) (x : DetRec) : Core :=
  let r := c.stallRec n
  c.setStallRec n { r with dets := Table.set (fun _ => {}) r.dets i x }

/-- A block of detector `i` begins with the words now written; with EN = 0 the detector stands. -/
def Core.detBegin (c : Core) (n i : Nat) (x : DetRec) : Core :=
  let w := c.reg (R.DET_CFG.at n i)
  c.setDet n i { x with running := bitOf w 0, cfg := w, freq := c.reg (R.DET_FREQ.at n i), thr := c.reg (R.DET_THR.at n i) }

/-- Half the input rate of a class's detectors, in 1/16 Hz. -/
def detHalf (cls : Nat) : Nat := if cls = clsFm then 3072000 else 384000

/-- A detector word that R118 refuses. -/
def detBad (cls word : Nat) (v : Word) : Bool :=
  match word with
  | 0 => decide (fieldOf v 4 4 = 0) || decide (fieldOf v 8 4 = 0) || decide (fieldOf v 16 16 < 63)
  | 1 => decide (detHalf cls ≤ fieldOf v 0 24)
  | _ => false

/-- A write of a detector word (R118, R498): on another class than FM and AM it is refused; a new EN starts the detector. -/
def detWrite (w n i word : Nat) (c : Core) (v : Word) : Core × Bool :=
  let cls := c.cls n
  let row := match word with | 0 => R.DET_CFG | 1 => R.DET_FREQ | _ => R.DET_THR
  let a := row.at n i
  let new := row.merge 0 (c.reg a) v
  let r := c.rateCfg n
  if (cls ≠ clsFm ∧ cls ≠ clsAm) ∨ detBad cls word v = true then c.refuseWin w n
  else if word = 0 ∧ ¬ c.ratesFit n { r with dets := r.dets.set i new } = true then
    ((c.refuseWin w n).1.setFld R.OPEN_RESULT.at 0 4 0xC, false)
  else
    let c1 := c.setReg a new
    let c2 := if word = 0 ∧ bitOf new 0 = true ∧ (c.det n i).running = false ∧ c.live n = true then
        c1.detBegin n i { c1.det n i with hits := 0, misses := 0 } else c1
    c2.acceptWin w

/-- DETECTOR_CFG_WRITE (R118). -/
def execDetectorCfgWrite (port : Port) (w i : Fin 4) (word : Fin 3) (v : Word) (s : State) :
    Host.Outcome State Fault Refusal :=
  let n := s.winStall w
  let row := match word with | 0 => R.DET_CFG | 1 => R.DET_FREQ | 2 => R.DET_THR
  s.write port row (row.at n i) v (detWrite w n i word) (0x30020 + 0x1000 * w.val + 16 * i.val + 4 * word.val)

/-- A TONE pennant of detector `i` (R118, R239). -/
def Core.tone (c : Core) (n i stamp : Nat) (x : DetRec) : Core :=
  let w := c.reg (R.DET_RESULT.at n i)
  let p := stallPennant n 0x06 stamp 2 i
    (leBytes 2 (fieldOf w 0 16) ++ leBytes 1 (fieldOf w 16 1) ++ leBytes 1 (fieldOf w 24 8) ++
      leBytes 3 x.freq.toNat ++ leBytes 1 0 ++ leBytes 2 x.thr.toNat)
  c.emit { p with output := if c.cls n = clsFm then 4 else 3 }

/-- DETECTOR_BLOCK_END (R118): runs of blocks at or above, and below, THR turn the detector ON and OFF; new words take effect
at the next block, and EN = 0 turns it OFF there. -/
def execDetectorBlockEnd (n : Fin 256) (i : Fin 4) (result : BitVec 16) (stamp : Nat) (s : State) :
    Host.Outcome State Fault Refusal :=
  s.act 6 (fun c =>
    let x := c.det n i
    if !x.running || !c.live n || c.settling n then c
    else
      let above := decide (signedOf 16 (x.thr.toNat % 65536) ≤ signedOf 16 result.toNat)
      let hits := if above then x.hits + 1 else 0
      let misses := if above then 0 else x.misses + 1
      let was := bitOf (c.reg (R.DET_RESULT.at n i)) 16
      let on := if was then !decide (fieldOf x.cfg 8 4 ≤ misses) else decide (fieldOf x.cfg 4 4 ≤ hits)
      let a := R.DET_RESULT.at n i
      let c1 := (((c.setFld a 0 16 result.toNat).setFld a 16 1 (b2n on)).wrapFld a 24 8)
      let c2 := if on ≠ was then c1.tone n i stamp x else c1
      let c3 := c2.detBegin n i { x with hits := min hits 15, misses := min misses 15 }
      if on && !(c3.det n i).running then (c3.setFld a 16 1 0).tone n i stamp x else c3)

/-- What a synchronising reset does to stall `n`'s detectors: state 0, and a block that starts with the words now written. -/
def Core.detsReset (c : Core) (n : Nat) : Core :=
  (List.range 4).foldl (fun d i => (d.setFld (R.DET_RESULT.at n i) 16 1 0).detBegin n i {}) c

/-! ### Saturation (R101, R122) -/

/-- The bins stall `n` draws, with the VHF inputs it draws on. -/
def Core.drawsBin (c : Core) (n k input : Nat) : Bool :=
  let b := binsOf (c.cls n) (c.reg (R.ST_FREQ.at n)).toNat
  (c.stallInputs n).contains input && drawsVhf (c.cls n) (c.iqCode n) &&
    (decide (b.1 = k) || (b.2 && decide (b.1 + 1 = k)))

/-- A saturated stage output of stall `n` (R101). -/
def Core.stageSat (c : Core) (n stage : Nat) : Core :=
  let c1 := ((c.bump R.CH_SAT_CNT.at).event 6 1).setNat R.CH_SAT_LAST.at (n + 2 ^ 8 * stage + 2 ^ 31)
  c1.setStallRec n { c1.stallRec n with sat := true }

/-- BIN_SAT (R122, R101). -/
def execBinSat (bankB : Bool) (k : Fin 192) (count : Nat) (stages : List (Fin 256 × Fin 9)) (s : State) :
    Host.Outcome State Fault Refusal :=
  s.act 6 (fun c =>
    let input := if bankB then 2 else 1
    let c1 := if count ≠ 0 ∧ c.inputOn input = true then
        ((c.bumpBy (if bankB then R.BIN_SAT_B.at else R.BIN_SAT_A.at) count).event 6 0).overload
          (fun n => c.drawsBin n k input)
      else c
    stages.foldl (fun d e => if d.live e.1 then d.stageSat e.1 e.2 else d) c1)

/-! ### Levels (R123 to R125, R137, R138) -/

/-- The fast sample period p_f (R123). -/
def fastPeriod (g : ChainCfg) : Nat := if g.vhf then 12 * min g.cicR 8 else 128

/-- A fast value is published in tick `t` after a reset at tick `tr` (R123). -/
def fastDue (g : ChainCfg) (tr t : Nat) : Bool :=
  let x := 64 * fastPeriod g
  let m := t - tr - 1
  let k := 48 * m / x
  decide (tr + 1 < t) && decide (1 ≤ k) && decide ((k * x + 47) / 48 = m)

/-- The larger of two levels in 1/256 dB. -/
def maxLevel (a b : BitVec 16) : BitVec 16 := if signedOf 16 a.toNat < signedOf 16 b.toNat then b else a

/-- ST_ANT.MODE of stall `n`. -/
def Core.antMode (c : Core) (n : Nat) : Nat := c.fld (R.ST_ANT.at n) 0 2

/-- The level that stall `n` reports: in MRC the higher of its branches (R138). -/
def Core.branchLevel (c : Core) (n : Nat) (a b : BitVec 16) : BitVec 16 := if c.antMode n = 2 then maxLevel a b else a

/-- A level or quality word of R125: value, gait, VALID, PART, bit 20, SEQ. -/
def levelWord (value gait : Nat) (valid part sat : Bool) (seq : Nat) : Nat :=
  value + 2 ^ 16 * gait + 2 ^ 18 * b2n valid + 2 ^ 19 * b2n part + 2 ^ 20 * b2n sat + 2 ^ 24 * (seq % 256)

/-- FAST_LEVEL_PUBLISH (R123). -/
def execFastLevelPublish (n : Fin 256) (a b : BitVec 16) (s : State) : Host.Outcome State Fault Refusal :=
  s.act 6 (fun c =>
    match c.chain n with
    | none => c
    | some g =>
      if c.live n && fastDue g (c.stallRec n).tr c.now then
        c.setNat (R.ST_LEVEL_FAST.at n)
          (levelWord (c.branchLevel n a b).toNat 0 true false false (c.fld (R.ST_LEVEL_FAST.at n) 24 8 + 1))
      else c)

/-- The quality that a class may publish now (R165, R185): an AM window needs the carrier lock, a DAB window FRAME. -/
def Core.qualityOf (c : Core) (n : Nat) (w : GaitWin) : Option (BitVec 16) :=
  match c.cls n with
  | 1 => w.quality
  | 2 => if bitOf (c.reg (R.AM_STATUS.at n)) 0 then w.quality else none
  | 3 => if 2 ≤ c.fld (R.DAB_STATUS.at n) 0 2 then w.quality else none
  | 4 => w.quality
  | 5 => w.quality
  | 6 => w.quality
  | _ => none

/-- ST_QUALITY after a window (R147): the value stands while the window has none; QUALITY_ALARM is set when BELOW changes. -/
def Core.publishQuality (c : Core) (n gait : Nat) (counted part : Bool) (q : Option (BitVec 16)) : Core :=
  let a := R.ST_QUALITY.at n
  let thr := c.fld (R.ST_PRESET.at n) 16 16
  let was := bitOf (c.reg a) 20
  let valid := counted && q.isSome
  let value := if valid then (q.getD 0).toNat else c.fld a 0 16
  let below := if valid then decide (thr ≠ 0x8000) && decide (signedOf 16 value < signedOf 16 thr)
    else was && decide (thr ≠ 0x8000) && decide (c.cls n ≠ clsIq)
  let c1 := c.setNat a (levelWord value gait valid part below (c.fld a 24 8 + 1))
  if below ≠ was then c1.stEvent n 7 else c1

/-- The engine's figures of a window (R154, R155, R164, R165, R189). -/
def Core.engineWindow (c : Core) (n gait stamp : Nat) (part : Bool) (w : GaitWin) : Core :=
  match c.cls n with
  | 1 =>
    let q := match w.quality with | some x => signedOf 16 x.toNat | none => 0
    let old := c.fld (R.FM_STATUS.at n) 1 8
    (c.setNat (R.FM_PATH.at n) (w.multipath.toNat + 2 ^ 8 * w.peakDev.toNat + 2 ^ 16 * w.cfo.toNat)).setFld
      (R.FM_STATUS.at n) 1 8 (blendStep old (c.separation n q) w.blend)
  | 2 =>
    let c1 := (c.setNat (R.AM_MOD.at n)
      (w.pos.toNat + 2 ^ 8 * w.neg.toNat + 2 ^ 16 * w.rms.toNat + 2 ^ 24 + 2 ^ 25 * b2n part)).setNat
      (R.AM_CARRIER.at n) (w.carrier.toNat + 2 ^ 16)
    let c2 := c1.setFld (R.AM_STATUS.at n) 16 16 w.cfo.toNat
    let c3 := if w.neg.toNat = 100 then c2.side n 0x98 else c2
    if bitOf (c.reg (R.AM_CFG.at n)) 4 then
      let p := stallPennant n 0x0A stamp 100 gait
        (leBytes 1 w.pos.toNat ++ leBytes 1 w.neg.toNat ++ leBytes 1 w.rms.toNat ++ leBytes 1 0 ++ leBytes 2 w.carrier.toNat)
      c3.emit { p with part := part, output := 2 }
    else c3
  | 4 => (match w.facMer with | some m => c.setNat (R.DRM_FAC_MER.at n) (m.toNat + 2 ^ 16) | none => c)
  | 5 => (match w.facMer with | some m => c.setNat (R.DRM_FAC_MER.at n) (m.toNat + 2 ^ 16) | none => c)
  | _ => c

/-- D_LEVEL_A and D_LEVEL_B of a VHF stall (R138), written with the gait window (log entry 22). -/
def Core.branchWords (c : Core) (n word : Nat) (a b : BitVec 16) : Core :=
  let put := fun (d : Core) (addr : Nat) (l : BitVec 16) => d.setNat addr (word / 65536 * 65536 + l.toNat)
  if drawsVhf (c.cls n) (c.iqCode n) then
    match c.antMode n with
    | 0 => put c (R.D_LEVEL_A.at n) a
    | 1 => put c (R.D_LEVEL_B.at n) a
    | _ => put (put c (R.D_LEVEL_A.at n) a) (R.D_LEVEL_B.at n) b
  else c

/-- GAIT_WINDOW_PUBLISH (R124, R147). -/
def execGaitWindowPublish (n : Fin 256) (w : GaitWin) (s : State) : Host.Outcome State Fault Refusal :=
  s.act 6 (fun c =>
    let r := c.stallRec n
    let old := match r.lastWin with | some x => if x.1 = c.now then some x.2 else none | none => none
    if c.stState n = 0 then c
    else
      match (match old with | some x => some x | none => if c.live n then c.gaitDue n c.now else none) with
      | none => c
      | some (e, gait, count, part) =>
        let counted := decide (0 < count)
        let a := R.ST_LEVEL_FINE.at n
        let value := if counted then (c.branchLevel n w.levelA w.levelB).toNat else c.fld a 0 16
        let word := levelWord value gait counted part r.sat (c.fld a 24 8 + 1)
        let c1 := c.setNat a word
        let c2 := if counted then c1.branchWords n word w.levelA w.levelB else c1
        let c3 := (c2.publishQuality n gait counted part (c.qualityOf n w)).setStallRec n
          { r with sat := false, lastWin := none, gaitOld := (if r.gaitEdge < e then 0 else r.gaitOld),
                   gaitEdge := (if r.gaitEdge < e then 0 else r.gaitEdge) }
        if counted then c3.engineWindow n gait e part w else c3)

/-- The weight window of a chain (R137): GALLOP at 256 kS/s and above, CANTER below. -/
def weightGait (g : ChainCfg) : Nat := if g.p ≤ 192 then 0 else 1

/-- MRC_WEIGHT_UPDATE (R137, R138): in MRC with WFREEZE = 0, after a weight window of 256 counted samples or more; w_A is real
and not negative. -/
def execMrcWeightUpdate (n : Fin 256) (a b : Word) (s : State) : Host.Outcome State Fault Refusal :=
  s.act 7 (fun c =>
    match c.chain n with
    | none => c
    | some g =>
      match c.windowDue n (gaitLength (weightGait g)) c.now with
      | none => c
      | some (_, count, _) =>
        if c.live n && decide (c.antMode n = 2) && !bitOf (c.reg (R.ST_ANT.at n)) 2 && decide (256 ≤ count) &&
            decide (a.toNat < 0x8000) then
          (c.setReg (R.D_W_A.at n) a).setReg (R.D_W_B.at n) b
        else c)

end Sys2Proof.Machine
end

