-- ==== Sys2Proof/Machine/Ofdm.lean ====
section
/-! DEFINITION. The DAB, DRM and timecode engines and the listening set (R174 to R207). What the coded air carries, once demodulated
and decoded by the rules of the broadcast standards, comes with the commands: FIGs with what they say, logical frames,
FAC and SDC contents, decoded minutes. -/

namespace Sys2Proof.Machine

/-! ### DAB state (R176, R177, R239) -/

/-- DAB_STATUS.SYNC. -/
def Core.dabSync (c : Core) (n : Nat) : Nat := c.fld (R.DAB_STATUS.at n) 0 2

/-- A DAB stall that produces outputs. -/
def Core.dabLive (c : Core) (n : Nat) : Bool := decide (c.cls n = clsDab) && c.live n

/-- The organisation of a subchannel. -/
def DabRec.sub (r : DabRec) (k : Nat) : Option SubCh := Table.get (fun _ => none) r.subs k

/-- `r` with it replaced. -/
def DabRec.setSub (r : DabRec) (k : Nat) (x : Option SubCh) : DabRec := { r with subs := Table.set (fun _ => none) r.subs k x }

/-- A DAB_STATE pennant with a change mask (R239). -/
def Core.dabState (c : Core) (n mask stamp : Nat) : Core :=
  let w := c.reg (R.DAB_STATUS.at n)
  let f := c.reg (R.DAB_CIF.at n)
  let p := stallPennant n 0x11 stamp 100 mask
    (leBytes 1 (fieldOf w 0 2) ++ leBytes 1 (fieldOf w 2 2) ++ leBytes 1 (fieldOf w 8 7) ++ leBytes 1 0 ++
      leBytes 2 (fieldOf w 16 16) ++ leBytes 2 (fieldOf f 0 13) ++ leBytes 2 (fieldOf f 16 16))
  c.emit { p with output := 3 }

/-- The service table of stall `n` is cleared, and its decodes wait (R199, R206). -/
def Core.clearServices (c : Core) (n : Nat) : Core :=
  ((List.range 64).foldl (fun d i => (d.setReg (R.SVC_SID.at n i) 0).setReg (R.SVC_INFO.at n i) 0) c).waitDecodes n

/-- A move of R176 is possible now. -/
def Core.dabMoveOk (c : Core) (n goal : Nat) : Bool :=
  let r := c.dabRec n
  match c.dabSync n, goal with
  | 0, 1 => true
  | 1, 2 => decide (2 ≤ r.passes)
  | 1, 0 => decide (3 ≤ r.miss)
  | 2, 3 => r.fig00 && !r.named.isEmpty && r.named.all (fun k => (r.sub k).isSome) && decide (10 ≤ r.settled)
  | 2, 0 => decide (3 ≤ r.miss)
  | 3, 0 => decide (3 ≤ r.miss)
  | _, _ => false

/-- DAB_SYNC_CHANGE (R176, R177): entering FRAME begins a sync with an empty service table; leaving FRAME or ENSEMBLE loses
the tracks that the stall serves. -/
def execDabSyncChange (n : Fin 256) (goal : Fin 4) (cfo : BitVec 16) (stamp : Nat) (s : State) :
    Host.Outcome State Fault Refusal :=
  s.run (fun c =>
    if !c.dabLive n || !c.dabMoveOk n goal then c
    else
      let old := c.dabSync n
      let r := c.dabRec n
      let wasValid := bitOf (c.reg (R.DAB_STATUS.at n)) 2
      let c1 := ((c.setFld (R.DAB_STATUS.at n) 0 2 goal).setFld (R.DAB_STATUS.at n) 2 1 (b2n (decide (goal.val = 3)))).setFld
        (R.DAB_CIF.at n) 16 16 cfo.toNat
      let mask := 1 + 2 * b2n (decide (decide (goal.val = 3) ≠ wasValid))
      let c2 := match goal with
        | 1 => c1.setDab n { r with miss := 0, passes := 0, null := 0 }
        | 2 =>
          let fresh : DabRec := { seqs := r.seqs, figs := r.figs, alarmAt := r.alarmAt, alarm := r.alarm }
          ((c1.clearServices n).setDab n fresh).setFld (R.DAB_STATUS.at n) 8 7 0
        | 3 => c1
        | 0 =>
          let d := c1.setDab n { r with miss := 0, tiiBroken := true, next := none, nextSvc := [] }
          if 2 ≤ old then (d.side n 0x8C).loseTracks 4 n else d
      c2.dabState n mask stamp)

/-- DAB_FRAME_START (R176, R177): a frame that passes reports its null symbol to the tracks; another is a missing frame. -/
def execDabFrameStart (n : Fin 256) (instant : Nat) (pass : Bool) (cif : Nat) (s : State) :
    Host.Outcome State Fault Refusal :=
  s.run (fun c =>
    let sync := c.dabSync n
    let r := c.dabRec n
    if !c.dabLive n || decide (sync = 0) then c
    else if sync = 1 then
      if pass then
        let near := decide (((instant : Int) - r.null - 4718592).natAbs ≤ 48)
        c.setDab n { r with miss := 0, null := instant,
                            passes := (if 2 ≤ r.passes then 2 else if r.passes = 1 ∧ near = true then 2 else 1) }
      else c.setDab n { r with miss := r.miss + 1 }
    else
      let r1 := { r with miss := if pass then 0 else r.miss + 1, settled := r.settled + 1, cifs := r.cifs + 4, fic := [],
                         ficAl := false, ficAlarm := false, ficClear := false }
      let c1 := (c.setDab n r1).setFld (R.DAB_CIF.at n) 0 13 ((cif + 3) % 5000)
      if pass then
        (List.range 4).foldl (fun d k =>
          if d.trkSrc k = 4 ∧ d.fld (R.TRK_CFG.at k) 8 8 = n then d.edge k instant else d) c1
      else c1.side n 0x88)

/-! ### The FIC (R179) -/

/-- A FIB passes its CRC: the complement of CRC-16 over 30 bytes, high byte first (EN 300 401; PRESUMED, log entry 23). -/
def fibGood (bytes : List Byte) : Bool :=
  decide (bytes.length = 32) &&
    decide (crc16 (bytes.take 30) ^^^ 0xFFFF = (bytes.getD 30 0).toNat * 256 + (bytes.getD 31 0).toNat)

/-- A FIG or SDC set: ⌈length / 14⌉ records, MORE on every one but the last (R239). -/
def sliceSet (n typ stamp output : Nat) (head : List Byte) (bytes : List Byte) (firstSub : Nat) : List Pennant :=
  let k := (bytes.length + 13) / 14
  (List.range k).map (fun i =>
    let p := stallPennant n typ stamp 100 (firstSub + i) (head ++ (bytes.drop (14 * i)).take 14)
    { p with more := decide (i + 1 < k), output := output })

/-- The FIGs kept for FIG_MODE 1: a new one of a type and extension first, at most 64 of each. -/
def keepFig (l : List (Nat × List Byte)) (key : Nat) (b : List Byte) : List (Nat × List Byte) :=
  let same := (key, b) :: l.filter (fun e => decide (e.1 = key))
  same.take 64 ++ l.filter (fun e => decide (e.1 ≠ key))

/-- The FIG pennants of one FIG (R179). -/
def Core.figPennants (c : Core) (n fib stamp : Nat) (f : Fig) : Core :=
  let mode := c.fld (R.DAB_CFG.at n) 0 2
  let key := f.typ.val + 8 * f.ext.toNat
  let r := c.dabRec n
  let seen := r.figs.any (fun e => decide (e.1 = key) && decide (e.2 = f.bytes))
  if mode = 2 ∨ (mode = 1 ∧ seen = true) then c
  else
    let set := sliceSet n 0x10 stamp 1
      (leBytes 1 f.typ.val ++ leBytes 1 f.ext.toNat ++ leBytes 1 f.bytes.length ++ leBytes 1 fib) f.bytes 0
    set.foldl Core.emit ((c.setDab n { r with figs := keepFig r.figs key f.bytes }).sideBy n 0x90 set.length)

/-- Every FM stall with Hoist on whose PI meets `p` under its mask (R212). -/
def Core.piStalls (c : Core) (p : Nat) : List Nat :=
  c.openStalls.filter (fun m =>
    decide (c.cls m = clsFm) && bitOf (c.reg (R.HS_CTL.at m)) 0 && bitOf (c.reg (R.FM_STATUS.at m)) 13 &&
      decide (p &&& c.fld (R.HS_CTL.at m) 16 16 = c.fld (R.FM_STATUS.at m) 16 16 &&& c.fld (R.HS_CTL.at m) 16 16))

/-- Organised subchannels of stall `n`. -/
def DabRec.count (r : DabRec) : Nat := (r.subs.filter (fun e => e.2.isSome)).length

/-- A service and its components enter the table in order of first appearance; a component known already is renewed (R199). -/
def Core.addService (c : Core) (n : Nat) (sid : Word) (x : SvcComp) (rate : Nat) : Core :=
  let info := x.subch.val + 64 * b2n x.packet + 2 ^ 8 * x.codec.val + 2 ^ 11 + 2 ^ 12 * x.comp.val + 2 ^ 16 * (rate % 1024)
  let place := match c.service n sid.toNat x.comp.val with
    | some i => some i
    | none => (List.range 64).find? (fun i => !c.svcValid n i)
  match place with
  | some i => (c.setReg (R.SVC_SID.at n i) sid).setNat (R.SVC_INFO.at n i) info
  | none => c

/-- The bit rate that the table shows for a subchannel follows its organisation. -/
def Core.renewRates (c : Core) (n k rate : Nat) : Core :=
  (List.range 64).foldl (fun d i =>
    if d.svcValid n i && decide (d.fld (R.SVC_INFO.at n i) 0 6 = k) then d.setFld (R.SVC_INFO.at n i) 16 10 rate else d) c

/-- What the engine takes from one FIG (R179, R182, R184, R212). -/
def Core.figRead (c : Core) (n : Nat) (f : Fig) : Core :=
  let r := c.dabRec n
  match f.meaning with
  | .ensemble eid cif al change =>
    let next := match change with
      | none => r.next
      | some t => some (t, match r.next with | some x => x.2 | none => [])
    ((c.setDab n { r with fig00 := true, ficAl := r.ficAl || al, next := next }).setFld (R.DAB_STATUS.at n) 16 16 eid.toNat).setFld
      (R.DAB_CIF.at n) 0 13 (cif % 5000)
  | .organisation nextCfg k org =>
    if nextCfg then
      let x := match r.next with | some x => x | none => (5000, [])
      c.setDab n { r with next := some (x.1, (k.val, org) :: x.2.filter (fun e => decide (e.1 ≠ k.val))) }
    else
      match r.sub k with
      | some _ => c
      | none =>
        let start := if c.dabSync n = 3 then r.cifs else 0
        let r1 := { r.setSub k (some org) with settled := 0, begun := Table.set (fun _ => 0) r.begun k start }
        ((c.setDab n r1).setFld (R.DAB_STATUS.at n) 8 7 r1.count).renewRates n k org.rate
  | .service nextCfg sid comps =>
    if nextCfg then c.setDab n { r with nextSvc := (sid, comps) :: r.nextSvc.filter (fun e => decide (e.1 ≠ sid)) }
    else
      let named := (comps.map (fun x => x.subch.val)).foldl (fun l k => if l.contains k then l else l ++ [k]) r.named
      comps.foldl (fun d x => d.addService n sid x (match r.sub x.subch with | some o => o.rate | none => 0))
        (c.setDab n { r with named := named })
  | .linkage hard la pis key =>
    if hard && la && decide (c.dabSync n = 3) then
      (pis.flatMap (fun p => c.piStalls p.toNat)).foldl (fun d m =>
        if bitOf (d.reg (R.HS_CTL.at m)) 1 then d.addCand m 2 2 key.toNat n 0 else d) c
    else c
  | .announcement al k region =>
    let body := leBytes 1 k.val ++ leBytes 1 (b2n region) ++ leBytes 1 (min 14 f.bytes.length) ++ leBytes 1 0 ++ f.bytes.take 14
    if al then
      let kept := if bitOf (c.reg (R.DAB_STATUS.at n)) 3 then r.alarm else body
      c.setDab n { r with ficAlarm := true, alarmAt := c.now, alarm := kept }
    else c.setDab n { r with ficClear := true, alarm := body }
  | .frequencies pi hz =>
    if c.dabSync n = 3 then
      (c.piStalls pi.toNat).foldl (fun d m =>
        if bitOf (d.reg (R.HS_CTL.at m)) 5 then hz.foldl (fun x f => x.addFreq m 3 f) d else d) c
    else c
  | .other => c

/-- The next frame number of a subchannel or stream, and the record after it. -/
def DabRec.seqOf (r : DabRec) (k : Nat) : Nat := Table.get (fun _ => 0) r.seqs k

/-- RECONF and RESTART of the next frame of a subchannel (R193). -/
def DabRec.frameFlags (r : DabRec) (k : Nat) : Nat := 4 * b2n (r.changed.contains k) + 8 * b2n (!r.started.contains k)

/-- A frame of subchannel `k` has been written. -/
def DabRec.wrote (r : DabRec) (k : Nat) : DabRec :=
  { r with seqs := Table.set (fun _ => 0) r.seqs k ((r.seqOf k + 1) % 65536),
           started := if r.started.contains k then r.started else r.started ++ [k],
           changed := r.changed.filter (fun e => decide (e ≠ k)) }

/-- FIB_DECODE (R179, R193). -/
def execFibDecode (n : Fin 256) (index : Fin 12) (bytes : List Byte) (figs : List Fig) (stamp : Nat) (s : State) :
    Host.Outcome State Fault Refusal :=
  s.run (fun c =>
    if !c.dabLive n || decide (c.dabSync n < 2) then c
    else
      let good := fibGood bytes
      let r := c.dabRec n
      let c1 := (c.setDab n { r with fic := r.fic ++ bytes }).side n (if good then 0x80 else 0x84)
      let c2 := if good then figs.foldl (fun d f => (d.figPennants n index stamp f).figRead n f) c1 else c1
      let r2 := c2.dabRec n
      if index.val = 11 ∧ bitOf (c.reg (R.DAB_CFG.at n)) 2 = true ∧ r2.fic.length = 384 then
        let first := (c2.fld (R.DAB_CIF.at n) 0 13 + 4997) % 5000
        (c2.setDab n (r2.wrote 0xFF)).writeFrame n 1 stamp 0x04 0xFF (r2.frameFlags 0xFF) (r2.seqOf 0xFF) first 0 r2.fic
      else c2)

/-! ### MSC (R180 to R182) -/

/-- A subchannel may deliver: 16 CIFs have been held since its organisation began (R180). -/
def DabRec.full (r : DabRec) (k : Nat) : Bool := decide (Table.get (fun _ => 0) r.begun k + 16 ≤ r.cifs)

/-- MSC_FRAME (R180). -/
def execMscFrame (n : Fin 256) (k : Fin 64) (index : Nat) (err : Bool) (payload : List Byte) (stamp : Nat) (s : State) :
    Host.Outcome State Fault Refusal :=
  s.run (fun c =>
    let r := c.dabRec n
    match r.sub k with
    | none => c
    | some o =>
      if !c.dabLive n || decide (c.dabSync n ≠ 3) || o.plus || !r.full k || decide (payload.length ≠ 3 * o.rate) then c
      else
        let c1 := (c.setDab n (r.wrote k)).side n 0x94
        (if err then c1.side n 0x98 else c1).writeFrame n 0 stamp (if o.packet then 3 else 1) k
          (b2n err + r.frameFlags k) (r.seqOf k) (index % 5000) 0 payload)

/-- DAB_SUPERFRAME (R181). -/
def execDabSuperframe (n : Fin 256) (k : Fin 64) (index corrected : Nat) (err : Bool) (payload : List Byte) (stamp : Nat)
    (s : State) : Host.Outcome State Fault Refusal :=
  s.run (fun c =>
    let r := c.dabRec n
    match r.sub k with
    | none => c
    | some o =>
      if !c.dabLive n || decide (c.dabSync n ≠ 3) || !o.plus || !r.full k ||
          decide (payload.length ≠ 110 * (o.rate / 8)) then c
      else
        let c1 := (((c.setDab n (r.wrote k)).side n 0x94).side n (if err then 0xA4 else 0x9C)).sideBy n 0xA0 corrected
        (if err then c1.side n 0x98 else c1).writeFrame n 0 stamp 2 k
          (b2n err + r.frameFlags k) (r.seqOf k) (index % 5000) (min 255 corrected) payload)

/-- DAB_RECONFIG (R182, R206): unchanged subchannels go on; the decodes whose subchannel is removed wait; new and changed
subchannels begin anew and their first frame carries RECONF. -/
def execDabReconfig (n : Fin 256) (stamp : Nat) (s : State) : Host.Outcome State Fault Refusal :=
  s.run (fun c =>
    let r := c.dabRec n
    match r.next with
    | none => c
    | some (_, conf) =>
      if !c.dabLive n || decide (c.dabSync n < 2) then c
      else
        let fresh := (conf.filter (fun e => decide (r.sub e.1 ≠ some e.2))).map (·.1)
        let subs := conf.foldl (fun t e => Table.set (fun _ => none) t e.1 (some e.2)) ([] : Table (Option SubCh))
        let begun := fresh.foldl (fun t k => Table.set (fun _ => 0) t k r.cifs) r.begun
        let r1 := { r with subs := subs, begun := begun, changed := fresh, next := none, nextSvc := [],
                           named := if r.nextSvc.isEmpty then r.named.filter (fun k => conf.any (fun e => decide (e.1 = k)))
                             else r.nextSvc.flatMap (fun e => e.2.map (fun x => x.subch.val)) }
        let gone := fun (d : Core) (i : Nat) => d.svcValid n i && (r1.sub (d.fld (R.SVC_INFO.at n i) 0 6)).isNone
        let c1 := (c.setDab n r1).setFld (R.DAB_STATUS.at n) 8 7 r1.count
        let c2 := r.nextSvc.foldl (fun d e => e.2.foldl (fun y x =>
          y.addService n e.1 x (match r1.sub x.subch with | some o => o.rate | none => 0)) d) c1
        let c3 := conf.foldl (fun d e => d.renewRates n e.1 e.2.rate) c2
        let c4 := (c3.decodesOf n).foldl (fun d k =>
          match d.service n (d.reg (R.LS_SID.at k)).toNat (d.fld (R.LS_CTL.at k) 16 4) with
          | none => d.setDecodeState k 1
          | some i => if gone d i then d.setDecodeState k 1 else d) c3
        let c5 := (List.range 64).foldl (fun d i =>
          if gone d i then (d.setReg (R.SVC_SID.at n i) 0).setReg (R.SVC_INFO.at n i) 0 else d) c4
        (c5.side n 0xA8).dabState n 4 stamp)

/-! ### TII and alarms (R183, R184) -/

/-- TII_WINDOW_END (R183): a window in which the engine was out of ENSEMBLE is discarded. -/
def execTiiWindowEnd (n : Fin 256) (pairs : List (Fin 70 × Fin 24 × BitVec 16 × Word)) (cif stamp : Nat) (s : State) :
    Host.Outcome State Fault Refusal :=
  s.run (fun c =>
    let r := c.dabRec n
    let win := c.fld (R.DAB_CFG.at n) 4 4
    if !c.dabLive n || !bitOf (c.reg (R.DAB_CFG.at n)) 3 || decide (cif % (4 * win) ≠ 0) then c
    else
      let c1 := c.setDab n { r with tiiBroken := decide (c.dabSync n ≠ 3) }
      if r.tiiBroken || decide (c.dabSync n ≠ 3) then c1
      else
        let l := pairs.take 24
        let first := l.headD (0, 0, 0, 0)
        let c2 := (c1.side n 0xAC).setNat (R.DAB_TII.at n)
          (l.length + 2 ^ 8 * first.1.val + 2 ^ 16 * first.2.1.val + 2 ^ 24)
        (l.zipIdx).foldl (fun d e =>
          let p := stallPennant n 0x13 stamp 100 e.2
            (leBytes 1 e.1.1.val ++ leBytes 1 e.1.2.1.val ++ leBytes 2 e.1.2.2.1.toNat ++ leBytes 4 e.1.2.2.2.toNat ++
              leBytes 1 l.length ++ leBytes 1 win ++ leBytes 2 cif)
          d.emit { p with output := 2 }) c2)

/-- An ALARM pennant and the DAB_STATE pennant of the change (R184, R239). -/
def Core.alarmPennant (c : Core) (n start stamp : Nat) : Core :=
  let p := stallPennant n 0x12 stamp 2 start (c.dabRec n).alarm
  ((c.setFld (R.DAB_STATUS.at n) 3 1 start).emit { p with alert := true, output := 3 }).dabState n 8 stamp

/-- ALARM_START (R184): one FIC carries the Al flag and an announcement with the Alarm bit. -/
def execAlarmStart (n : Fin 256) (stamp : Nat) (s : State) : Host.Outcome State Fault Refusal :=
  s.run (fun c =>
    let r := c.dabRec n
    if c.dabLive n && bitOf (c.reg (R.DAB_CFG.at n)) 16 && !bitOf (c.reg (R.DAB_STATUS.at n)) 3 && r.ficAl && r.ficAlarm then
      (c.side n 0xB0).alarmPennant n 1 stamp
    else c)

/-- ALARM_END (R184): an announcement without the Alarm bit, or 2 s without one that has it. -/
def execAlarmEnd (n : Fin 256) (stamp : Nat) (s : State) : Host.Outcome State Fault Refusal :=
  s.run (fun c =>
    let r := c.dabRec n
    if c.dabLive n && bitOf (c.reg (R.DAB_STATUS.at n)) 3 && (r.ficClear || decide (r.alarmAt + 2 * ticksPerSecond ≤ c.now)) then
      c.alarmPennant n 0 stamp
    else c)

/-- What a synchronising reset does to the DAB engine (R175, R199, R206). -/
def Core.dabReset (c : Core) (n : Nat) : Core :=
  let w := c.reg (R.DAB_STATUS.at n)
  let r := c.dabRec n
  let mask := b2n (decide (fieldOf w 0 2 ≠ 0)) + 2 * b2n (bitOf w 2) + 8 * b2n (bitOf w 3)
  let c1 := ((c.clearServices n).setDab n { seqs := r.seqs }).setFld (R.DAB_STATUS.at n) 0 4 0
  let c2 := (c1.setFld (R.DAB_STATUS.at n) 8 7 0).loseTracks 4 n
  if mask = 0 then c2 else c2.dabState n mask (c.antenna n 3)

/-! ### DRM (R186 to R188) -/

/-- DRM_STATUS.SYNC. -/
def Core.drmSync (c : Core) (n : Nat) : Nat := c.fld (R.DRM_STATUS.at n) 0 3

/-- A DRM or DRM+ stall that produces outputs. -/
def Core.drmLive (c : Core) (n : Nat) : Bool := (decide (c.cls n = clsDrm) || decide (c.cls n = clsDrmPlus)) && c.live n

/-- A DRM_STATE pennant with a change mask (R239). -/
def Core.drmState (c : Core) (n mask stamp : Nat) : Core :=
  let w := c.reg (R.DRM_STATUS.at n)
  let v := c.reg (R.DRM_SERVICE.at n)
  let p := stallPennant n 0x16 stamp 100 mask
    (leBytes 1 (fieldOf w 0 3) ++ leBytes 1 (fieldOf w 3 3) ++ leBytes 1 (fieldOf w 6 3) ++ leBytes 1 (fieldOf w 9 2) ++
      leBytes 3 (fieldOf v 0 24) ++ leBytes 1 (fieldOf v 24 3 + 16 * fieldOf v 28 3) ++ leBytes 2 (fieldOf w 16 16))
  c.emit { p with output := 3 }

/-- A move of R186 is possible now. -/
def Core.drmMoveOk (c : Core) (n goal mode : Nat) : Bool :=
  let r := c.drmRec n
  let sync := c.drmSync n
  let modeOk := if c.cls n = clsDrmPlus then decide (mode = 4) else decide (mode < 4)
  match sync, goal with
  | 0, 1 => modeOk
  | 1, 2 => true
  | 1, 0 => true
  | 2, 3 => decide (2 ≤ r.facPass)
  | 3, 4 => r.sdcOk
  | 3, 2 => decide (3 ≤ r.facFail)
  | 4, 2 => decide (3 ≤ r.facFail)
  | 2, 0 => decide (3 ≤ r.refMiss) || decide (mode ≠ c.fld (R.DRM_STATUS.at n) 3 3)
  | 3, 0 => decide (3 ≤ r.refMiss) || decide (mode ≠ c.fld (R.DRM_STATUS.at n) 3 3)
  | 4, 0 => decide (3 ≤ r.refMiss) || decide (mode ≠ c.fld (R.DRM_STATUS.at n) 3 3)
  | _, _ => false

/-- DRM_SYNC_CHANGE (R186): a mode found that is not the last one held counts a MODE_CHANGE. -/
def execDrmSyncChange (n : Fin 256) (goal mode : Fin 5) (cfo : BitVec 16) (stamp : Nat) (s : State) :
    Host.Outcome State Fault Refusal :=
  s.run (fun c =>
    if !c.drmLive n || !c.drmMoveOk n goal mode then c
    else
      let old := c.drmSync n
      let r := c.drmRec n
      let a := R.DRM_STATUS.at n
      let c1 := (c.setFld a 0 3 goal).setFld a 16 16 cfo.toNat
      match goal with
      | 0 =>
        let c2 := ((c1.setFld a 3 3 7).setFld a 6 3 7).setDrm n
          { seqs := r.seqs, lastMode := r.lastMode, held := r.held }
        (if 2 ≤ old then c2.side n 0x8C else c2).drmState n 3 stamp
      | 1 =>
        let changed := decide (r.lastMode ≠ 7) && decide (r.lastMode ≠ mode)
        let c2 := (c1.setFld a 3 3 mode).setDrm n { r with lastMode := mode }
        (if changed then c2.side n 0xA0 else c2).drmState n 3 stamp
      | 2 =>
        let r1 := if old = 1 then { r with frames := 0, started := [], facPass := 0, facFail := 0, refMiss := 0, sdcOk := false }
          else { r with facPass := 0, facFail := 0, sdcOk := false }
        (c1.setDrm n r1).drmState n 1 stamp
      | _ => c1.drmState n 1 stamp)

/-- ILV_MISMATCH after a FAC or a change of the decodes (R188): set when the FAC signals long interleaving while ILV_DECL = 0
and a decode of the stall is admitted; its decodes wait. -/
def Core.ilvCheck (c : Core) (n stamp : Nat) : Core :=
  let a := R.DRM_STATUS.at n
  let now := decide (c.cls n = clsDrm) && bitOf (c.reg a) 9 && !bitOf (c.reg (R.DRM_CFG.at n)) 0 && !(c.decodesOf n).isEmpty
  let was := bitOf (c.reg a) 10
  if now && !was then (((c.setFld a 10 1 1).side n 0xA4).waitDecodes n).drmState n 4 stamp
  else if was && !now then (c.setFld a 10 1 0).drmState n 4 stamp
  else c

/-- DRM_FAC (R186, R187, R188). -/
def execDrmFac (n : Fin 256) (f : FacIn) (stamp : Nat) (s : State) : Host.Outcome State Fault Refusal :=
  s.run (fun c =>
    let sync := c.drmSync n
    let r := c.drmRec n
    if !c.drmLive n || decide (sync < 2) then c
    else if !f.ref then (c.setDrm n { r with refMiss := r.refMiss + 1, frames := r.frames + 1 }).side n 0x88
    else
      let r1 := { r with refMiss := 0, frames := r.frames + 1, facPass := if f.ok then r.facPass + 1 else 0,
                         facFail := if f.ok then 0 else r.facFail + 1 }
      let a := R.DRM_STATUS.at n
      let c1 := (c.setDrm n r1).side n (if f.ok then 0x80 else 0x84)
      let svc := f.sid.toNat + 2 ^ 24 * f.naudio.val + 2 ^ 28 * f.ndata.val
      let c2 := if f.ok then ((c1.setFld a 6 3 f.occ).setFld a 9 1 (b2n f.long)).setNat (R.DRM_SERVICE.at n) svc else c1
      let c3 := if 3 ≤ sync ∧ bitOf (c.reg (R.DRM_CFG.at n)) 1 = true then
          let p := stallPennant n 0x14 stamp 100 f.index
            (leBytes 1 (b2n f.ok) ++ leBytes 1 (c.fld a 3 3) ++ leBytes 1 f.nbits ++ leBytes 1 0 ++ f.bits.take 14)
          c2.emit { p with output := 1 }
        else c2
      let c4 := if f.ok ∧ (c.reg (R.DRM_SERVICE.at n)).toNat ≠ svc then c3.drmState n 8 stamp else c3
      if f.ok then c4.ilvCheck n stamp else c4)

/-- DRM_SDC (R187, R199). -/
def execDrmSdc (n : Fin 256) (ok : Bool) (bytes : List Byte) (services : List (Fin 4 × BitVec 24 × SvcComp × Nat))
    (streams : List (Fin 4)) (stamp : Nat) (s : State) : Host.Outcome State Fault Refusal :=
  s.run (fun c =>
    let sync := c.drmSync n
    let r := c.drmRec n
    if !c.drmLive n || decide (sync < 3) then c
    else
      let c1 := c.side n (if ok then 0x90 else 0x94)
      let c2 := if bitOf (c.reg (R.DRM_CFG.at n)) 2 then
          (sliceSet n 0x15 stamp 2
            (leBytes 1 (b2n ok) ++ leBytes 1 (c.fld (R.DRM_STATUS.at n) 3 3) ++ leBytes 2 bytes.length) bytes 0).foldl
            Core.emit c1
        else c1
      if !ok then c2
      else
        let c3 := c2.setDrm n { r with sdcOk := true, streams := streams.map (·.val) }
        services.foldl (fun d e =>
          let x := e.2.2.1
          (d.setNat (R.SVC_SID.at n e.1) e.2.1.toNat).setNat (R.SVC_INFO.at n e.1)
            (x.subch.val + 64 * b2n x.packet + 2 ^ 8 * x.codec.val + 2 ^ 11 + 2 ^ 12 * x.comp.val +
              2 ^ 16 * (e.2.2.2 % 1024))) c3)

/-- DRM_MSC_FRAME (R187, R193): ERR marks a frame whose MER fell below its constellation's threshold. -/
def execDrmMscFrame (n : Fin 256) (k : Fin 4) (mer : Int) (threshold : Nat) (payload : List Byte) (stamp : Nat) (s : State) :
    Host.Outcome State Fault Refusal :=
  s.run (fun c =>
    let r := c.drmRec n
    if !c.drmLive n || decide (c.drmSync n ≠ 4) || !r.streams.contains k.val then c
    else
      let err := decide (mer < (threshold * 256 : Nat))
      let seq := Table.get (fun _ => 0) r.seqs k
      let r1 := { r with seqs := Table.set (fun _ => 0) r.seqs k ((seq + 1) % 65536),
                         started := if r.started.contains k.val then r.started else r.started ++ [k.val] }
      let c1 := (c.setDrm n r1).side n 0x98
      (if err then c1.side n 0x9C else c1).writeFrame n 0 stamp 0x10 k
        (b2n err + 8 * b2n (!r.started.contains k.val)) seq (r.frames % 65536) 0 payload)

/-- What a synchronising reset does to the DRM engine (R175, R199, R206). -/
def Core.drmReset (c : Core) (n : Nat) : Core :=
  let a := R.DRM_STATUS.at n
  let held := c.drmSync n ≠ 0
  let r := c.drmRec n
  let c1 := ((c.clearServices n).setDrm n { seqs := r.seqs, lastMode := r.lastMode }).setFld a 0 11 0x1F8
  if held then c1.drmState n 3 (c.antenna n 3) else c1

/-- A write of DRM_CFG (R188, R205): ILV_DECL is refused while a decode of the stall is admitted, and has no effect on a DRM+
stall. -/
def drmCfgWrite (n : Nat) (c : Core) (v : Word) : Core × Bool :=
  let a := R.DRM_CFG.at n
  let new0 := R.DRM_CFG.merge 0 (c.reg a) v
  let new := if c.cls n = clsDrmPlus then putField new0 0 1 0 else new0
  if c.classWordShut n then c.refuseStall n
  else if bitOf new 0 ≠ bitOf (c.reg a) 0 ∧ (c.decodesOf n).isEmpty = false then c.refuseStall n
  else if !c.ratesFit n { c.rateCfg n with word := new } then c.refuseRate n
  else (c.setReg a new, true)

/-- A write of DAB_CFG (R201, R205, R498). -/
def dabCfgWrite (n : Nat) (c : Core) (v : Word) : Core × Bool :=
  let a := R.DAB_CFG.at n
  let new := R.DAB_CFG.merge 0 (c.reg a) v
  if c.classWordShut n || decide (fieldOf v 0 2 = 3) || decide (fieldOf v 4 4 = 0) || decide (fieldOf v 8 8 < 3) ||
      decide (40 < fieldOf v 8 8) then c.refuseStall n
  else if !c.ratesFit n { c.rateCfg n with word := new } then c.refuseRate n
  else (c.setReg a new, true)

/-! ### Time signals (R190 to R192) -/

/-- TC_STATUS.SYNC. -/
def Core.tcSync (c : Core) (n : Nat) : Nat := c.fld (R.TC_STATUS.at n) 0 2

/-- A timecode stall that produces outputs. -/
def Core.tcLive (c : Core) (n : Nat) : Bool := decide (c.cls n = clsTime) && c.live n

/-- One second in fine cycles. -/
def fineSecond : Nat := 49152000

/-- A TC_STATE pennant (R192, R239), visible within 100 ms of the stamp. -/
def Core.tcState (c : Core) (n stamp : Nat) : Core :=
  let w := c.reg (R.TC_STATUS.at n)
  let p := stallPennant n 0x1A stamp 100 1 (leBytes 1 (fieldOf w 0 2) ++ leBytes 1 (fieldOf w 2 6))
  c.emit { p with output := 2 }

/-- The timecode engine returns to SEARCH. -/
def Core.tcSearch (c : Core) (n stamp : Nat) : Core :=
  let a := R.TC_STATUS.at n
  let held := c.tcSync n ≠ 0
  let c1 := (((c.setFld a 0 2 0).setFld a 8 1 0).setTc n {}).loseTracks 5 n
  if held then c1.tcState n stamp else c1

/-- The whole seconds from the last mark to an instant, rounded to the nearest, and the signed distance. -/
def secondsFrom (mark x : Nat) : Nat × Int :=
  let k := max 1 (roundDiv (x - mark) fineSecond)
  (k, (x : Int) - (mark + k * fineSecond : Nat))

/-- A mark reaches the tracks that name the stall (R191). -/
def Core.markTracks (c : Core) (n x : Nat) : Core :=
  (List.range 4).foldl (fun d k =>
    if d.trkSrc k = 5 ∧ d.fld (R.TRK_CFG.at k) 8 8 = n then d.edge k x else d) c

/-- Three edges spaced 1000 ms ± 2 ms (R191). -/
def threeEdges (l : List Nat) : Bool :=
  match l with
  | [a, b, d] =>
    let near := fun x y : Nat => decide (((y : Int) - x - fineSecond).natAbs ≤ 98304)
    near a b && near b d
  | _ => false

/-- TC_MARK (R191, R192). -/
def execTcMark (n : Fin 256) (x : Nat) (sign : Bool) (jitter : BitVec 16) (s : State) : Host.Outcome State Fault Refusal :=
  s.run (fun c =>
    let r := c.tcRec n
    let a := R.TC_STATUS.at n
    if !c.tcLive n then c
    else if c.tcSync n = 0 then
      let l := (r.edges ++ [x]).reverse.take 3 |>.reverse
      if threeEdges l then
        let c1 := ((c.setTc n { r with edges := [], mark := x, miss := 0 }).setFld a 0 2 1).setNat (R.TC_MARK_LO.at n) x
        (c1.markTracks n x).tcState n x
      else c.setTc n { r with edges := l }
    else
      let g := secondsFrom r.mark x
      if x ≤ r.mark ∨ 983040 < g.2.natAbs then c
      else
        let sec := if sign then 0 else min 60 (c.fld a 2 6 + g.1)
        let minute := decide (c.tcSync n = 1) && sign
        let c1 := ((((c.setTc n { r with mark := x, miss := 0 }).setFld a 2 6 sec).setFld a 8 1 0).setFld a 16 16 jitter.toNat).setNat
          (R.TC_MARK_LO.at n) x
        let c2 := ((c1.side n 0x80).sideBy n 0x84 (g.1 - 1)).markTracks n x
        let c3 := if bitOf (c.reg (R.TC_CFG.at n)) 3 then
            let err := (g.2 * 1000000) / (fineSecond : Int)
            let p := stallPennant n 0x18 x 100 sec
              (leBytes 2 (codeOf 16 err) ++ leBytes 2 jitter.toNat ++ leBytes 1 (c.fld (R.TC_CFG.at n) 0 3))
            c2.emit { p with output := 0 }
          else c2
        if minute then (c3.setFld a 0 2 2).tcState n x else c3)

/-- The second that begins is in the station's gap list (R190): DCF77's 59, or 60 in a leap minute. -/
def Core.gapSecond (c : Core) (n : Nat) : Bool :=
  let sec := c.fld (R.TC_STATUS.at n) 2 6 + 1
  decide (c.fld (R.TC_CFG.at n) 0 3 = 0) && decide (2 ≤ c.tcSync n) &&
    (decide (sec = 59) || (decide (sec = 60) && bitOf (c.reg (R.TC_TIME.at n)) 28))

/-- TC_GAP (R191, R206): nothing is reported to the Yard. -/
def execTcGap (n : Fin 256) (x : Nat) (s : State) : Host.Outcome State Fault Refusal :=
  s.run (fun c =>
    if c.tcLive n && c.gapSecond n then
      let a := R.TC_STATUS.at n
      (((c.setFld a 8 1 1).setFld a 2 6 (c.fld a 2 6 + 1)).side n 0x88).setTc n { c.tcRec n with mark := x }
    else c)

/-- TC_MARK_LOSS (R191): three predicted marks are missing. -/
def execTcMarkLoss (n : Fin 256) (s : State) : Host.Outcome State Fault Refusal :=
  s.run (fun c =>
    let r := c.tcRec n
    if c.tcLive n && decide (1 ≤ c.tcSync n) && decide (r.mark + 3 * fineSecond + 983040 ≤ c.time) then
      ((c.sideBy n 0x84 3).side n 0x8C).tcSearch n (r.mark + 3 * fineSecond)
    else c)

/-- Days since 2000-03-01 of a civil date (year 0 to 99). -/
def dayNumber (year month day : Nat) : Nat :=
  let y := if month ≤ 2 then year + 399 else year + 400
  let m := (month + 9) % 12
  365 * y + y / 4 - y / 100 + y / 400 + (153 * m + 2) / 5 + day

/-- The minute that a decoded time names, counted through. -/
def minuteNumber (m : TcMinuteIn) : Nat :=
  (dayNumber m.year m.month m.day * 24 + m.hour) * 60 + m.minute

/-- TC_TIME of a decoded minute (R203). -/
def minuteWord (m : TcMinuteIn) (valid : Bool) : Nat :=
  m.minute.val + 2 ^ 6 * m.hour.val + 2 ^ 11 * m.day.val + 2 ^ 16 * m.month.val + 2 ^ 20 * m.year.val + 2 ^ 27 * b2n m.dst +
    2 ^ 28 * b2n m.leapAnn + 2 ^ 29 * b2n m.dstAnn + 2 ^ 31 * b2n valid

/-- The minute checks of a station (R192): parity for DCF77, MSF and JJY, the markers for every station. -/
def minutePasses (station : Nat) (m : TcMinuteIn) : Bool := (m.parity || decide (station = 2)) && m.markers

/-- TC_MINUTE (R192): VALID when it passes its checks and follows the previous decoded minute by one; two in a row give TIME. -/
def execTcMinute (n : Fin 256) (m : TcMinuteIn) (stamp : Nat) (s : State) : Host.Outcome State Fault Refusal :=
  s.run (fun c =>
    let r := c.tcRec n
    let station := c.fld (R.TC_CFG.at n) 0 3
    if !c.tcLive n || decide (c.tcSync n < 2) then c
    else
      let pass := minutePasses station m
      let follows := decide (r.minute.map (· + 1) = some (minuteNumber m))
      let valid := pass && follows
      let run := if valid then r.run + 1 else 0
      let c1 := ((c.setTc n { r with minute := some (minuteNumber m), run := min run 2 }).setNat (R.TC_TIME.at n) (minuteWord m valid)).side n
        (if valid then 0x90 else 0x94)
      let c2 := if bitOf (c.reg (R.TC_CFG.at n)) 4 then
          let p := stallPennant n 0x19 stamp 100 station
            (leBytes 1 m.minute.val ++ leBytes 1 m.hour.val ++ leBytes 1 m.day.val ++ leBytes 1 m.month.val ++ leBytes 1 m.year.val ++
              leBytes 1 (b2n m.dst + 2 * b2n m.leapAnn + 4 * b2n m.dstAnn + 8 * b2n valid) ++
              leBytes 1 (b2n m.parity + 2 * b2n m.markers + 4 * b2n follows))
          (c1.side n 0x98).emit { p with output := 1 }
        else c1
      if 2 ≤ run ∧ c.tcSync n = 2 then (c2.setFld (R.TC_STATUS.at n) 0 2 3).tcState n stamp else c2)

/-- A write of TC_CFG (R203, R205): a new STATION takes the engine to SEARCH. -/
def tcCfgWrite (n : Nat) (c : Core) (v : Word) : Core × Bool :=
  let a := R.TC_CFG.at n
  if c.cls n ≠ clsTime then (c, true)
  else if c.classWordShut n || decide (4 ≤ fieldOf v 0 3) then c.refuseStall n
  else
    let moved := decide (fieldOf v 0 3 ≠ c.fld a 0 3)
    let c1 := c.setReg a (R.TC_CFG.merge 0 (c.reg a) v)
    (if moved then c1.tcSearch n (48 * (c.now + 1) - c.delay n 2) else c1, true)

/-- TC_CFG_WRITE (R205). -/
def execTcCfgWrite (port : Port) (n : Fin 256) (v : Word) (s : State) : Host.Outcome State Fault Refusal :=
  s.write port R.TC_CFG (R.TC_CFG.at n) v (tcCfgWrite n)

/-! ### The listening set (R196 to R200) -/

/-- LS_GO_ADD (R196, R200). -/
def execLsGoAdd (s : State) : Host.Outcome State Fault Refusal :=
  s.run (fun c =>
    let w := R.LS_STAGE_CTL.at
    let d := c.addDecode (c.fld w 0 8) (c.reg R.LS_STAGE_SID.at).toNat (c.fld w 16 4) (c.fld w 8 8) none
    d.1.lsResult d.2.1 d.2.2.1)

/-- A DROP of decode `d` (R196): the code. -/
def Core.lsDrop (c : Core) (d : Nat) : Core × Nat := if 64 ≤ d ∨ c.decodeState d = 0 then (c, 1) else (c.dropDecode d, 0)

/-- LS_GO_DROP (R196, R200). -/
def execLsGoDrop (d : Fin 64) (s : State) : Host.Outcome State Fault Refusal :=
  s.run (fun c => let x := c.lsDrop d; x.1.lsResult x.2 d)

/-- LS_ADD (R196, R254). -/
def execLsAdd (h : CmdHead) (n : Fin 256) (team comp : Nat) (sid : Word) (s : State) : Host.Outcome State Fault Refusal :=
  s.run (fun c => c.command h 0x20 (fun c =>
    let d := c.addDecode n sid.toNat (comp % 16) (team % 256) none
    d.1.complete 0x20 h.seq d.2.1 4 c.now (if d.2.1 = 0 then leBytes 1 d.2.2.1 ++ leBytes 1 d.2.2.2 else [])))

/-- LS_DROP (R196, R254). -/
def execLsDrop (h : CmdHead) (d : Nat) (s : State) : Host.Outcome State Fault Refusal :=
  s.run (fun c => c.command h 0x21 (fun c =>
    let x := c.lsDrop d
    x.1.complete 0x21 h.seq x.2 4 c.now []))

/-- Decode `d` takes up a codec (R198): on its own core when it has room, else on another, else it is HELD. -/
def Core.decodeCodec (c : Core) (d codec : Nat) : Core × Bool :=
  let w := R.LS_CTL.at d
  let old := codecUnits (c.fld w 20 3)
  let new := codecUnits codec
  let core := c.fld w 24 3
  if codec = 0 ∨ codec = 4 then (c.setDecodeState d 1, false)
  else if codec = c.fld w 20 3 ∧ c.decodeState d ≠ 3 then (c, true)
  else if c.coreUnits core - old + new ≤ 16 ∧ c.regionRetired (0x150 + core) = false then ((c.setFld w 20 3 codec), true)
  else
    match c.coreWithRoom new with
    | some k => ((c.setFld w 20 3 codec).setFld w 24 3 k, true)
    | none => (c.setDecodeState d 3, false)

/-- DECODE_FRAME (R197, R198): in DRM mode E the frame that carries the second half is the one used. -/
def execDecodeFrame (d : Fin 64) (stamp : Nat) (bad : Bool) (codec : Fin 5) (overrun : Bool) (s : State) :
    Host.Outcome State Fault Refusal :=
  s.run (fun c =>
    let n := c.fld (R.LS_CTL.at d) 0 8
    let x := c.dec d
    let known := (c.service n (c.reg (R.LS_SID.at d)).toNat (c.fld (R.LS_CTL.at d) 16 4)).isSome
    let holds := decide (c.cls n = clsDrm) && bitOf (c.reg (R.DRM_STATUS.at n)) 10
    if c.decodeState d = 0 ∨ known = false ∨ holds = true then c
    else if c.cls n = clsDrmPlus ∧ x.half = false then c.setDec d { x with half := true }
    else
      let k := c.decodeCodec d codec
      if !k.2 then k.1
      else
        let c1 := (k.1.setDecodeState d 2).bump (R.LS_FRAMES.at d)
        let y := { c1.dec d with bad := if bad then x.bad + 1 else 0, concealed := x.concealed || bad, last := stamp, half := false }
        let c2 := c1.setDec d y
        let c3 := if bad then c2.bumpFld (R.LS_STAT.at d) 0 16 else c2
        if overrun then
          (c3.bumpFld (R.LS_STAT.at d) 16 16).deadlineMiss n true 4 4 0x61 0 stamp false 0
        else c3)

end Sys2Proof.Machine
end

