-- ==== Sys2Proof/Machine/Sync.lean ====
section
/-! DEFINITION. Tick T_r of a synchronising reset (R111, R119, R120, R134, R148, R169, R175, R206, R210, R262). -/

namespace Sys2Proof.Machine

/-- The engine of stall `n` restarts (R169, R175). -/
def Core.engineReset (c : Core) (n : Nat) : Core :=
  match c.cls n with
  | 1 => c.fmReset n
  | 2 => c.amReset n
  | 3 => c.dabReset n
  | 4 => c.drmReset n
  | 5 => c.drmReset n
  | 6 => c.tcSearch n (c.antenna n 2)
  | _ => c

/-- A bay's next block is the first after the reset (R262). -/
def Core.freshBay (c : Core) (k : Nat) : Core := c.setBay k { c.bay k with fresh := true, done := 0 }

/-- The stamp of the first sample that a measurement counts: that of sample D (R111, R120). -/
def Core.countStart (c : Core) (n : Nat) : Nat :=
  match c.chain n with
  | none => 0
  | some g => (48 * (c.stallRec n).tr + g.lproc + g.p * c.settleLen n) - (c.anaDelay n + g.filt)

/-- The synchronising reset of stall `n` in tick T_r = now (R119): SETTLE begins, chain, detectors and engine restart, and the
combiner's weights are w_A = 1, w_B = 0 (R137). -/
def Core.syncReset (c : Core) (n : Nat) : Core :=
  let r := c.stallRec n
  let c1 := c.setStallRec n { r with syncAt := none, tr := c.now, base := 0, gaitOld := 0, gaitEdge := 0, sat := false }
  let c2 := (c1.setFld (R.ST_STATUS.at n) 4 1 1).setFld (R.ST_CTRL.at n) 1 1 0
  let c3 := c2.voidStall n
  let c4 := ((c3.setNat (R.D_W_A.at n) 0x7FFF).setNat (R.D_W_B.at n) 0).detsReset n
  let c5 := (c4.setStallRec n { c4.stallRec n with countFrom := c4.countStart n }).hoistReset n
  ((c5.engineReset n).freshBay (stallBay n 0)).freshBay (stallBay n 1)

/-- SYNC_RESET (R119). -/
def execSyncReset (n : Fin 256) (s : State) : Host.Outcome State Fault Refusal :=
  s.run (fun c => if (c.stallRec n).syncAt = some c.now ∧ c.stState n ≠ 0 then c.syncReset n else c)

end Sys2Proof.Machine
end

