-- ==== Sys2Proof/Machine/Queue.lean ====
section
/-! DEFINITION. Pennant routing, the 64 queues and the command ring (R234 to R257). -/

namespace Sys2Proof.Machine

/-! ### Records and routing (R234 to R236, R240) -/

/-- The 32 bytes of a record (R234, R235). -/
def Pennant.bytes (p : Pennant) (late : Bool) : List Byte :=
  let body := leBytes 8 p.stamp ++ leBytes 1 p.typ ++ leBytes 1 p.source ++
    leBytes 1 (b2n late + 2 * b2n p.alert + 4 * b2n p.part + 8 * b2n p.more) ++ leBytes 1 p.sub ++
    (p.payload ++ List.replicate 18 0).take 18
  body ++ leBytes 2 (crc16 body)

/-- Queue `q` is enabled. -/
def Core.qEnabled (c : Core) (q : Nat) : Bool := decide (1 ≤ q) && decide (q < 64) && bitOf (c.reg (R.Q_CFG.at q)) 0

/-- The queues that a record is routed to, under the routing of `c` (R240): 0 names no queue. -/
def Core.routeOf (c : Core) (p : Pennant) : List Nat :=
  match p.queue with
  | some q => [q]
  | none =>
    let b := c.routeByte p.typ
    if b / 64 % 2 = 1 then []
    else
      let q := if b % 64 ≠ 0 ∧ !hoistType p.typ then b % 64
        else if p.stall then c.fld (R.ST_ROUTE.at p.source) 0 6 else c.devQueue
      q :: (if p.alert && decide (c.alertQueue ≠ 0) && decide (c.alertQueue ≠ q) then [c.alertQueue] else [])

/-- Whether the record is copied to the UDP pennant stream (R240, R281). -/
def Core.copiesEth (c : Core) (p : Pennant) : Bool :=
  decide (c.routeByte p.typ / 128 = 1) && decide (p.typ ≠ 0x70) && decide (c.fld R.ETH_CFG.at 0 1 = 1) &&
    decide (c.fld R.PEN_CFG.at 0 1 = 1)

/-- The rank of a record among those that become visible in one tick (R245): alerts, then stalls, then device sources. -/
def Pennant.rank (p : Pennant) : Nat := if p.alert then 0 else if p.stall then 1 + p.source else 257 + p.source

/-- Insert a record behind those of its rank. -/
def insertRanked (p : Pennant) : List Pennant → List Pennant
  | [] => [p]
  | x :: r => if p.rank < x.rank then p :: x :: r else x :: insertRanked p r

/-- Records in the order of R245. -/
def ranked (l : List Pennant) : List Pennant := l.foldl (fun a p => insertRanked p a) []

/-! ### Rings and holds (R244 to R247, R255, R256) -/

/-- Hidden state of queue `q`. -/
def Core.queue (c : Core) (q : Nat) : QState := Table.get (fun _ => {}) c.queues q

/-- `c` with that state replaced. -/
def Core.setQueue (c : Core) (q : Nat) (x : QState) : Core := { c with queues := Table.set (fun _ => {}) c.queues q x }

/-- Queue `q` has its ring in the Shed. -/
def Core.qShed (c : Core) (q : Nat) : Bool := bitOf (c.reg (R.Q_CFG.at q)) 1

/-- Entries of queue `q`'s ring. -/
def Core.ringSize (c : Core) (q : Nat) : Nat := 2 ^ c.fld (R.Q_CFG.at q) 8 4

/-- BASE of queue `q`. -/
def Core.qBase (c : Core) (q : Nat) : Nat := (c.reg (R.Q_BASE_LO.at q)).toNat + (c.reg (R.Q_BASE_HI.at q)).toNat * 2 ^ 32

/-- FILL of queue `q` with `cons` as the consumer's index (R244). -/
def Core.fillWith (c : Core) (q : Nat) (cons : Word) : Nat := (c.reg (R.Q_PROD.at q) - cons).toNat

/-- A ring in host memory can be written: the link is up and bus mastering enabled (R246). -/
def Core.busReady (c : Core) : Bool := c.linkUp && c.busMaster

/-- Free ring entries that queue `q` may use in this tick: room that a Q_CONS write of this tick freed does not count (R246). -/
def Core.qRoom (image c : Core) (q : Nat) : Nat :=
  if !c.qEnabled q || (!c.qShed q && !c.busReady) then 0
  else c.ringSize q - c.fillWith q (if image.qEnabled q then image.reg (R.Q_CONS.at q) else c.reg (R.Q_CONS.at q))

/-- NOTIFY of queue `q` is set (R247): the count of fresh entries restarts. -/
def Core.setNotify (c : Core) (q : Nat) : Core := (c.qEvent q 0).setQueue q { c.queue q with fresh := 0 }

/-- One more entry is visible, an alert or not (R247). -/
def Core.noteVisible (c : Core) (q : Nat) (alert : Bool) : Core :=
  let s := c.queue q
  let n := s.fresh + 1
  let c1 := c.setQueue q { s with fresh := n, oldest := if s.fresh = 0 then c.now else s.oldest }
  if alert || decide (max 1 (c.fld (R.Q_NOTIFY.at q) 0 16) ≤ n) then c1.setNotify q else c1

/-- Why a record is late or lost (R78): the link, a full queue, SYN0 gated, or its own source. -/
def Core.missCause (c : Core) (h : Held) : Nat :=
  if h.link then 2 else if h.waited then 1 else if c.fld R.SYN0_STATUS.at 0 3 = 3 then 6 else 5

/-- A record of queue `q` has missed its deadline (R256). -/
def Core.recordMiss (c : Core) (q : Nat) (h : Held) (dropped : Bool) : Core :=
  let p := h.entry
  (c.qEvent q 3).deadlineMiss p.source p.stall p.output (c.missCause h) p.typ q p.stamp dropped
    ((c.time - p.due.getD c.time) / 48)

/-- A completion has become visible (R251): one command fewer in flight. -/
def Core.completionVisible (c : Core) (p : Pennant) : Core :=
  let seq := bytesAt p.payload 0 2
  let status := bytesAt p.payload 2 1
  let c1 := c.setFld R.CMD_STATUS.at 0 8 (c.fld R.CMD_STATUS.at 0 8 - 1)
  if bytesAt p.payload 3 1 = 0 ∧ (status = 3 ∨ status = 4 ∨ status = 5) then c1
  else { c1 with inflight := c1.inflight.erase seq }

/-- One record enters the ring of queue `q` and is visible (R244, R245, R255). -/
def Core.enterRing (c : Core) (q : Nat) (h : Held) : Core :=
  let p := h.entry
  let late := match p.due with | some d => decide (d < c.time) | none => false
  let i := (c.reg (R.Q_PROD.at q)).toNat
  let a := c.qBase q + 32 * (i % c.ringSize q)
  let bytes := p.bytes late
  let c1 := if c.qShed q then c.shedWrite (a % 2 ^ 34) bytes else c.put (.hostWrite (a % 2 ^ 64) bytes)
  let c2 := c1.setNat (R.Q_PROD.at q) (i + 1)
  let c3 := if q = 1 then c2.completionVisible p else c2.setNat (R.Q_WRITTEN.at q) ((c2.reg (R.Q_WRITTEN.at q)).toNat + 1)
  let c4 := c3.noteVisible q p.alert
  if late then (if q = 1 then c4 else c4.bump (R.Q_LATE_CNT.at q)).recordMiss q h false else c4

/-- Records enter the ring, then Q_PROD is written back for a ring in host memory (R244, R245). -/
def Core.enterAll (c : Core) (q : Nat) (l : List Held) : Core :=
  if l.isEmpty then c
  else
    let c1 := l.foldl (fun d h => d.enterRing q h) c
    let c2 := if c1.fillWith q (c1.reg (R.Q_CONS.at q)) = c1.ringSize q then c1.qEvent q 1 else c1
    if c2.qShed q then c2
    else c2.put (.hostWrite ((c2.qBase q + 32 * c2.ringSize q) % 2 ^ 64) (leBytes 8 (c2.reg (R.Q_PROD.at q)).toNat))

/-- A record is dropped from the full hold of queue `q` (R246). -/
def Core.dropRecord (c : Core) (q : Nat) (h : Held) : Core :=
  let c1 := (if q = 1 then c else c.bump (R.Q_DROP_CNT.at q)).qEvent q 2
  if h.entry.due.isSome then c1.recordMiss q h true else c1

/-- Room of a queue's hold (R246). -/
def holdCapacity : Nat := 65536

/-- New records join queue `q`'s hold, alerts ahead of all others; what the ring has room for enters it; and what the hold has
no room for is dropped, the newest other record before any alert (R245, R246). -/
def Core.settleQueue (image : Core) (q : Nat) (new : List Pennant) (c : Core) : Core :=
  let held := (c.queue q).hold
  let fresh := (ranked new).map (fun p => (⟨p, false, false⟩ : Held))
  let isAlert := fun h : Held => h.entry.alert
  let all := held.filter isAlert ++ fresh.filter isAlert ++
    (held.filter (fun h => !isAlert h) ++ fresh.filter (fun h => !isAlert h))
  let room := Core.qRoom image c q
  let noLink := !c.qShed q && !c.busReady
  let rest := (all.drop room).map (fun h => { h with waited := true, link := h.link || noLink })
  let c1 := c.setQueue q { c.queue q with hold := rest.take holdCapacity }
  let c2 := (rest.drop holdCapacity).reverse.foldl (fun d h => d.dropRecord q h) (c1.enterAll q (all.take room))
  let n := (rest.take holdCapacity).length
  if q ≠ 1 ∧ (c2.reg (R.Q_HOLD_PEAK.at q)).toNat < n then c2.setNat (R.Q_HOLD_PEAK.at q) n else c2

/-- Copy a record to the UDP pennant stream (R281). -/
def Core.copyEth (c : Core) (p : Pennant) : Core :=
  { c with penStream := c.penStream ++ [p.bytes false], penSince := if c.penStream.isEmpty then c.now else c.penSince }

/-- The routed records: each with its queue. Records that no enabled queue takes are counted (R240). -/
def Core.routeAll (image : Core) (l : List Pennant) (c : Core) : Core × List (Nat × Pennant) :=
  l.foldl (fun d p =>
    let c1 := if image.copiesEth p then d.1.copyEth p else d.1
    (image.routeOf p).foldl (fun e q =>
      if image.qEnabled q && e.1.qEnabled q then
        (if p.typ < 0x60 then e.1.bump R.PN_EMIT_CNT.at else e.1, e.2 ++ [(q, p)])
      else (if p.typ = 0x70 then e.1 else e.1.bump R.PN_DROP_CNT.at, e.2)) (c1, d.2)) (c, [])

/-- Route records and make them visible, queue by queue. -/
def Core.deliver (image : Core) (l : List Pennant) (c : Core) : Core :=
  let d := Core.routeAll image l c
  (List.range 64).foldl (fun x q =>
    let mine := (d.2.filter (fun e => decide (e.1 = q))).map (·.2)
    if mine.isEmpty then x else Core.settleQueue image q mine x) d.1

/-- DEVICE_EVENT records of the pages that PN_EVT_PAGES names, for the events of this tick (R239, R242). -/
def Core.eventRecords (image c : Core) : List Pennant :=
  (List.range 29).filterMap (fun p =>
    let rise := c.reg (R.PG_EVENT.at p) &&& ~~~ image.reg (R.PG_EVENT.at p)
    if bitOf (image.reg R.PN_EVT_PAGES.at) p && decide (rise ≠ 0) then
      some (c.deviceRecord 0x2A p 0 (leBytes 4 rise.toNat)) else none)

/-- QUEUE_ENTRY_VISIBLE (R240, R245): the records of this tick, then the DEADLINE records that these brought about and the
DEVICE_EVENT records of the tick. -/
def execQueueEntryVisible (s : State) : Host.Outcome State Fault Refusal :=
  s.run (fun c =>
    let c1 := Core.deliver s.image c.made { c with made := [] }
    Core.deliver s.image (c1.made ++ Core.eventRecords s.image c1) { c1 with made := [] })

/-- HOLD_DRAIN (R246): held entries enter the ring as far as it has room. -/
def execHoldDrain (q : Fin 64) (s : State) : Host.Outcome State Fault Refusal :=
  s.run (fun c => if c.qEnabled q then Core.settleQueue s.image q [] c else c)

/-- NOTIFY_TIMEOUT (R247): the oldest unnotified entry has been visible for TIMEOUT ticks. -/
def Core.notifyDue (c : Core) (q : Nat) : Bool :=
  let t := c.fld (R.Q_NOTIFY.at q) 16 16
  c.qEnabled q && decide (t ≠ 0) && decide ((c.queue q).fresh ≠ 0) && decide ((c.queue q).oldest + t ≤ c.now)

/-- NOTIFY_TIMEOUT (R247). -/
def execNotifyTimeout (q : Fin 64) (s : State) : Host.Outcome State Fault Refusal :=
  s.run (fun c => if c.notifyDue q then c.setNotify q else c)

/-! ### Queue registers (R248, R249) -/

/-- A write of Q_CONS (R247, R249). -/
def qConsWrite (q : Nat) (c : Core) (v : Word) : Core × Bool :=
  let cons := c.reg (R.Q_CONS.at q)
  if c.fillWith q cons < (v - cons).toNat then (c.qEvent q 4).refusePage 0xA
  else ({ c.setReg (R.Q_CONS.at q) v with rearm := c.rearm ++ [q] }, true)

/-- Q_CONS_WRITE (R249). Queue 0 has no block of its own. -/
def execQConsWrite (port : Port) (q : Fin 64) (v : Word) (s : State) : Host.Outcome State Fault Refusal :=
  if q = 0 then s.run (fun c => c) else s.write port R.Q_CONS (R.Q_CONS.at q) v (qConsWrite q)

/-- Some admitted stall, subscription or route resolves to queue `q` (R249). -/
def Core.queueInUse (c : Core) (q : Nat) : Bool :=
  c.openStalls.any (fun n => decide (c.fld (R.ST_ROUTE.at n) 0 6 = q)) ||
    c.subs.any (fun e => e.2.valid && decide (e.2.queue = q)) ||
    (List.range 128).any (fun t => decide (c.routeByte t % 64 = q)) || decide (c.devQueue = q) ||
    decide (c.alertQueue = q)

/-- Queue `q` starts empty; block 1 restarts the command ring too (R249, R251). -/
def Core.enableQueue (c : Core) (q : Nat) : Core :=
  let c1 := ((c.setReg (R.Q_PROD.at q) 0).setReg (R.Q_CONS.at q) 0).setQueue q {}
  if q = 1 then
    let c2 := ((c1.setReg R.CQ0_PROD.at 0).setReg R.CQ0_CONS.at 0).setNat R.CMD_STATUS.at (2 ^ 24)
    { c2 with fetched := [], inflight := [], awaits := [] }
  else c1

/-- The row of Q_CFG of block `q`: block 1 also places the command ring. -/
def qCfgRow (q : Nat) : RegRow := if q = 1 then R.Q_CFG1 else R.Q_CFG

/-- A write of Q_CFG (R248, R249): the ring's place and size are fixed while it is enabled. -/
def qCfgWrite (q : Nat) (c : Core) (v : Word) : Core × Bool :=
  let a := R.Q_CFG.at q
  let old := c.reg a
  let fixed : Word := if q = 1 then 0x1F0F02 else 0xF02
  let size := fieldOf v 8 4
  let csize := fieldOf v 16 4
  let was := bitOf old 0
  let on := bitOf v 0
  let busy := if q = 1 then decide (c.fld R.CMD_STATUS.at 0 8 ≠ 0) else c.queueInUse q
  if size < 6 ∨ (q = 1 ∧ (csize < 6 ∨ 12 < csize)) ∨ (was = true ∧ (v ^^^ old) &&& fixed ≠ 0) ∨
      (was = true ∧ on = false ∧ busy = true) then c.refusePage 0xA
  else
    let c1 := (plainWrite (qCfgRow q) a c v).1
    (if on && !was then c1.enableQueue q else c1, true)

/-- Q_ENABLE_WRITE (R249). -/
def execQEnableWrite (port : Port) (q : Fin 64) (v : Word) (s : State) : Host.Outcome State Fault Refusal :=
  if q = 0 then s.run (fun c => c) else s.write port (qCfgRow q) (R.Q_CFG.at q) v (qCfgWrite q)

/-- A write of a register that is fixed while queue `q` is enabled (R249). -/
def qFixedWrite (r : RegRow) (a q : Nat) (c : Core) (v : Word) : Core × Bool :=
  if c.qEnabled q && decide (c.reg a ≠ v) then c.refusePage 0xA else plainWrite r a c v

/-- A soft reset of the QUEUE page (R257): holds and unstarted commands are discarded, and started ones end without a
completion. Registers return to their reset values with the page (R19). -/
def Core.queueReset (c : Core) : Core :=
  { c with queues := [], fetched := [], inflight := [], awaits := [], made := [] }

/-! ### Route registers (R240 to R242) -/

/-- The types that R238 lists: the others' route bytes are RO 0 (R242). -/
def listedType (t : Nat) : Bool :=
  (decide (1 ≤ t) && decide (t ≤ 0x0A) && decide (t ≠ 7)) || (decide (0x10 ≤ t) && decide (t ≤ 0x1A) && decide (t ≠ 0x17)) ||
    decide (t = 0x20) || decide (t = 0x21) || (decide (0x28 ≤ t) && decide (t ≤ 0x2A)) ||
    (decide (0x30 ≤ t) && decide (t < 0x40)) || decide (t = 0x60) || decide (t = 0x61) || decide (t = 0x70)

/-- The route byte that a write of `b` leaves for type `t`: only OFF and ETH of the HOIST types are writable (R240). -/
def routeByteWritten (t b : Nat) : Nat := if !listedType t then 0 else if hoistType t then b / 64 * 64 else b

/-- The queues over their declared drain when loads change from `old` to `new` (R241, R249). -/
def Core.overfull (c : Core) (old new : List (Nat × Nat × Nat)) (q : Nat) : Bool :=
  let l := fun x : List (Nat × Nat × Nat) => rateTo q (x.map (·.2))
  let drain := (c.reg (R.Q_DRAIN.at q)).toNat
  decide (drain ≠ 0) && decide (l old < l new) && decide (drain * 1000000 + l old < rateTo q c.allLoads + l new)

/-- The rate of type `t` to queue `q`. -/
def typeRate (t q : Nat) (l : List (Nat × Nat × Nat)) : Nat :=
  (l.map (fun e => if e.1 = t ∧ e.2.1 = q then e.2.2 else 0)).sum

/-- The QUEUE check of a routing (R241): the lowest type whose check fails. -/
def Core.routeCheck (c : Core) (route : Nat → Nat) (alertQ devQ : Nat) : Option Nat :=
  let old := c.typeLoads c.routeByte c.alertQueue c.devQueue
  let new := c.typeLoads route alertQ devQ
  (List.range 128).find? (fun t => new.any (fun e =>
    decide (e.1 = t) && decide (typeRate t e.2.1 old < typeRate t e.2.1 new) && c.overfull old new e.2.1))

/-- PN_RESULT after a routing write checked (R242). -/
def Core.pnResult (c : Core) (code typ : Nat) : Core :=
  ((c.setFld R.PN_RESULT.at 0 4 code).setFld R.PN_RESULT.at 8 8 typ).wrapFld R.PN_RESULT.at 16 8

/-- A write of PN_CFG (R241, R242). -/
def pnCfgWrite (c : Core) (v : Word) : Core × Bool :=
  let dev := fieldOf v 0 6
  let alert := fieldOf v 8 6
  if dev = 1 ∨ alert = 1 then (c.pnResult 2 0).refusePage 9
  else
    match c.routeCheck c.routeByte alert dev with
    | some t => (c.pnResult 0xC t).refusePage 9
    | none => ((plainWrite R.PN_CFG R.PN_CFG.at c v).1.pnResult 0 0, true)

/-- The word that a write of PN_ROUTEk leaves. -/
def routeWordWritten (k : Nat) (v : Word) : Word :=
  BitVec.ofNat 32 (routeByteWritten (4 * k) (fieldOf v 0 8) + routeByteWritten (4 * k + 1) (fieldOf v 8 8) * 2 ^ 8 +
    routeByteWritten (4 * k + 2) (fieldOf v 16 8) * 2 ^ 16 + routeByteWritten (4 * k + 3) (fieldOf v 24 8) * 2 ^ 24)

/-- What routing word `k` set to `w` makes of a routing. -/
def Core.routeWith (c : Core) (k : Nat) (w : Word) (t : Nat) : Nat := if t / 4 = k then fieldOf w (8 * (t % 4)) 8 else c.routeByte t

/-- Judge routing word `k` at the value `w` (R241, R242): the code and the type it concerns. -/
def Core.routeJudge (c : Core) (k : Nat) (w : Word) : Nat × Nat :=
  match (List.range 4).find? (fun j => decide (fieldOf w (8 * j) 6 = 1)) with
  | some j => (2, 4 * k + j)
  | none =>
    match c.routeCheck (c.routeWith k w) c.alertQueue c.devQueue with
    | some t => (0xC, t)
    | none => (0, 0)

/-- A write of PN_ROUTEk (R241, R242). -/
def pnRouteWrite (k : Nat) (c : Core) (v : Word) : Core × Bool :=
  let w := routeWordWritten k v
  let j := c.routeJudge k w
  if j.1 = 0 then ((c.setReg (R.PN_ROUTE.at k) w).pnResult 0 0, true) else (c.pnResult j.1 j.2).refusePage 9

/-- ROUTE_WRITE (R241). -/
def execRouteWrite (port : Port) (k : Option (Fin 32)) (v : Word) (s : State) : Host.Outcome State Fault Refusal :=
  match k with
  | none => s.write port R.PN_CFG R.PN_CFG.at v pnCfgWrite
  | some k => s.write port R.PN_ROUTE (R.PN_ROUTE.at k) v (pnRouteWrite k)

/-- ROUTE_SET (R241, R254): one route byte. PN_RESULT keeps what the register path left (R252). -/
def execRouteSet (h : CmdHead) (typ byte : Nat) (s : State) : Host.Outcome State Fault Refusal :=
  s.run (fun c => c.command h 0x28 (fun c => c.writes h 0x28 [R.PN_ROUTE.at (typ / 4)] (fun c =>
    if listedType typ = false then c.complete 0x28 h.seq 2 0 c.now []
    else
      let k := typ / 4
      let w := routeWordWritten k (putField (c.reg (R.PN_ROUTE.at k)) (8 * (typ % 4)) 8 byte)
      let j := c.routeJudge k w
      if j.1 = 0 then (c.setReg (R.PN_ROUTE.at k) w).complete 0x28 h.seq 0 6 c.now []
      else (c.refusePage 9).1.complete 0x28 h.seq j.1 6 c.now [])))

/-! ### The command ring (R250 to R254) -/

/-- Entries of the command ring. -/
def Core.cmdRing (c : Core) : Nat := 2 ^ c.fld (R.Q_CFG.at 1) 16 4

/-- Commands that wait in the ring. -/
def Core.cmdWaiting (c : Core) : Nat := (c.reg R.CQ0_PROD.at - c.reg R.CQ0_CONS.at).toNat

/-- The command ring lies in the Shed. -/
def Core.cmdShed (c : Core) : Bool := bitOf (c.reg (R.Q_CFG.at 1)) 20

/-- A command can be fetched (R246, R251, R257). -/
def Core.canFetch (c : Core) : Bool :=
  c.qEnabled 1 && (c.cmdShed || c.busReady) && decide (c.fld R.CMD_STATUS.at 0 8 < 128) && decide (c.cmdWaiting ≠ 0)

/-- The ring entry at CQ0_CONS of a ring in the Shed. -/
def Core.shedEntry (c : Core) : List Byte :=
  c.shedRead (((c.reg R.CQ0_BASE_LO.at).toNat + (c.reg R.CQ0_BASE_HI.at).toNat * 2 ^ 32 +
    32 * ((c.reg R.CQ0_CONS.at).toNat % c.cmdRing)) % 2 ^ 34) 32

/-- A fetched command that does not run: CMD_ERR and its completion (R251). -/
def Core.rejectCommand (c : Core) (b : List Byte) (status : Nat) : Core :=
  (c.qEvent 1 5).complete (bytesAt b 2 1) (bytesAt b 0 2) status 0 c.now []

/-- EXPECT_SEQ after a command (R251). -/
def Core.expectSeq (c : Core) (n : Nat) : Core := c.setFld R.CMD_STATUS.at 8 16 n

/-- CRC, DUPLICATE and SEQ of a fetched command, in that order (R251); a good one waits to start. -/
def Core.takeCommand (c : Core) (b : List Byte) : Core :=
  let seq := bytesAt b 0 2
  let expect := c.fld R.CMD_STATUS.at 8 16
  if crc16 (b.take 30) ≠ bytesAt b 30 2 then (c.expectSeq (expect + 1)).rejectCommand b 5
  else if c.inflight.contains seq then c.rejectCommand b 4
  else if c.fld R.CMD_STATUS.at 24 1 = 0 ∧ seq ≠ expect then (c.expectSeq (seq + 1)).rejectCommand b 3
  else
    let c1 := (c.expectSeq (seq + 1)).setFld R.CMD_STATUS.at 24 1 0
    { c1 with fetched := c1.fetched ++ [⟨b⟩], inflight := c1.inflight ++ [seq] }

/-- COMMAND_FETCH (R247, R251). -/
def execCommandFetch (entry : List Byte) (s : State) : Host.Outcome State Fault Refusal :=
  s.run (fun c =>
    if !c.canFetch then c
    else
      let b := ((if c.cmdShed then c.shedEntry else entry) ++ List.replicate 32 0).take 32
      let full := decide (c.cmdRing ≤ c.cmdWaiting)
      let c1 := (c.setReg R.CQ0_CONS.at (c.reg R.CQ0_CONS.at + 1)).setFld R.CMD_STATUS.at 0 8 (c.fld R.CMD_STATUS.at 0 8 + 1)
      { c1 with ringWasFull := c1.ringWasFull || full }.takeCommand b)

/-- NOP (R254). -/
def execNop (h : CmdHead) (s : State) : Host.Outcome State Fault Refusal :=
  s.run (fun c => c.command h 0 (fun c => c.finish { h with atEffect := false } 0 0 0 0 []))

end Sys2Proof.Machine
end

