-- ==== Sys2Proof/Machine/Streams.lean ====
section
/-! DEFINITION. Teams and members, subscriptions, bay blocks, serial audio ports, the Ethernet port, the Shed access path and
the Shed window of PCI Express (R43, R258 to R290, R413 to R415, R435). -/

namespace Sys2Proof.Machine

/-! ### Members (R267 to R269) -/

/-- The member's stream has 48 kS/s. -/
def Core.member48 (c : Core) (m : Nat) : Bool := decide (c.memberPeriod m = 1024)

/-- The member's source is in a state that ends its stream without a miss (R269): the stall is not live, the decode waits or
is held. -/
def Core.sourceQuiet (c : Core) (m : Nat) : Bool :=
  let src := c.fld (R.MEMBER.at m) 8 8
  if c.fld (R.MEMBER.at m) 6 2 = 1 then decide (c.decodeState src = 1 ∨ c.decodeState src = 3) else !c.live src

/-- The OFS of a member's stream (R209). -/
def Core.memberOfs (c : Core) (m : Nat) : Int :=
  if c.fld (R.MEMBER.at m) 6 2 = 0 then signedOf 32 (c.reg (R.HS_OFS.at (c.fld (R.MEMBER.at m) 8 8))).toNat else 0

/-- Late samples discarded by member `m` (R268). -/
def Core.lateSamples (c : Core) (m k : Nat) : Core :=
  if k = 0 then c else (c.setMember m { c.member m with late := satAdd 32 (c.member m).late k }).event 0xB 2

/-- MEMBER_UNDERRUN (R268, R269, R285): an episode begins at grid instant `g`. It is a miss when late data started it. -/
def execMemberUnderrun (m : Fin 256) (g late stamp : Nat) (cause : Fin 7) (s : State) : Host.Outcome State Fault Refusal :=
  s.act 0xB (fun c =>
    if c.memberValid m && decide (c.fld (R.MEMBER.at m) 16 1 = 0) then
      let c1 := c.lateSamples m late
      let c2 := ((c1.setMember m { c1.member m with under := satAdd 32 (c1.member m).under 1, since := g }).setFld
        (R.MEMBER.at m) 16 1 1).event 0xB 0
      if late = 0 ∨ c.sourceQuiet m = true then c2
      else
        let src := c.fld (R.MEMBER.at m) 8 8
        let decode := decide (c.fld (R.MEMBER.at m) 6 2 = 1)
        let n := if decode then c.fld (R.LS_CTL.at src) 0 8 else src
        c2.deadlineMiss n true (if decode then 4 else 0) cause 0 0 stamp true 0
    else c)

/-- MEMBER_RESUME (R267, R269, R285): the first sample to present has stamp `stamp`. Zeros marked SILENT were presented at the
member's instants since the episode began. The first start of a member is no resume. -/
def execMemberResume (m : Fin 256) (stamp late : Nat) (s : State) : Host.Outcome State Fault Refusal :=
  s.act 0xB (fun c =>
    if !c.memberValid m then c
    else
      let x : Int := (stamp : Int) + c.teamLatency (c.memberTeam m) - c.memberOfs m
      let r := if c.member48 m then ((-x) % 1024).toNat else 0
      let g := (x + r).toNat
      let c1 := (c.lateSamples m late).setFld (R.MEMBER.at m) 17 10 r
      let mem := c1.member m
      if c.fld (R.MEMBER.at m) 16 1 = 1 then
        let p := c.memberPeriod m
        ((c1.setMember m { mem with silent := satAdd 32 mem.silent ((g - mem.since + p - 1) / p), begun := true }).setFld
          (R.MEMBER.at m) 16 1 0).event 0xB 1
      else c1.setMember m { mem with begun := true })

/-! ### Bay blocks (R260 to R262, R270, R278) -/

/-- A sample word as a bay holds it (R261): the marks SILENT, FADE and RAMP appear in presented blocks alone. -/
def bayWord (presented : Bool) (w : Word) : Word := if presented then w &&& 0xFFFFFF0F else w &&& 0xFFFFFF01

/-- Slots of a port's format (R274). -/
def Core.sapSlots (c : Core) (p : Nat) : Nat :=
  if c.fld (R.SAP_CFG.at p) 2 2 = 2 then 2 ^ (c.fld (R.SAP_CFG.at p) 4 2 + 1) else 2

/-- The captured words of a port's block: slots that the RX mask does not take read 0 (R278). -/
def Core.portWords (c : Core) (p : Nat) (l : List Word) : List Word :=
  l.mapIdx (fun i w =>
    if i % 16 < c.sapSlots p ∧ c.fld (R.SAP_MASK_CUR.at p) (16 + i % 16) 1 = 1 then w &&& 0xFFFFFF00 else 0)

/-- The source of a bay writes blocks: an open stall, an admitted decode, a member, or a port that captures. -/
def Core.bayWrites (c : Core) (kind i : Nat) (mpx : Bool) : Bool :=
  match kind with
  | 0 => decide (c.stState i ≠ 0) && (!mpx || c.mpxOut i)
  | 1 => decide (i < 64) && decide (c.decodeState i ≠ 0) && !mpx
  | 2 => c.memberValid i && !mpx
  | _ => decide (i < 8) && decide (c.fld (R.SAP_CFG.at i) 0 1 = 1) && decide (c.fld (R.SAP_MASK_CUR.at i) 16 16 ≠ 0) && !mpx

/-- BAY_BLOCK_CLOSE (R260 to R262, R270, R272, R278). -/
def execBayBlockClose (kind : Fin 4) (i : Fin 256) (mpx : Bool) (stamp : Nat) (words : List Word) (s : State) :
    Host.Outcome State Fault Refusal :=
  s.act 0x1A (fun c =>
    if !c.bayWrites kind i mpx then c
    else
      let l := if kind = 3 then c.portWords i words else words.map (bayWord (decide (kind = 2)))
      let src := c.fld (R.MEMBER.at i) 8 8
      let ofs := if kind = 2 ∧ c.fld (R.MEMBER.at i) 6 2 = 0 then c.reg (R.HS_OFS.at src) else 0
      c.closeBlock kind i mpx { stamp := stamp, words := l } ofs (if kind = 2 then c.fld (R.MEMBER.at i) 17 10 else 0))

/-! ### Teams (R265, R283, R285) -/

/-- Open a team: the code (R283). -/
def Core.openTeam (c : Core) (team lat : Nat) : Core × Nat :=
  if 32 ≤ team ∨ 4 ≤ lat then (c, 2)
  else if c.teamOpen team then (c, 1)
  else (c.setNat (R.TEAM.at team) (1 + 2 * lat), 0)

/-- Close a team: refused while it has members (R265). -/
def Core.closeTeam (c : Core) (team : Nat) : Core × Nat :=
  if 32 ≤ team then (c, 2)
  else if c.teamOpen team = false ∨ c.teamMembers team ≠ [] then (c, 1)
  else (c.setReg (R.TEAM.at team) 0, 0)

/-- TEAM_RESULT after a GO (R285). -/
def Core.teamResult (c : Core) (code team : Nat) : Core :=
  ((c.setFld R.TEAM_RESULT.at 0 4 code).setFld R.TEAM_RESULT.at 8 5 team).wrapFld R.TEAM_RESULT.at 16 8

/-- TEAM_GO_OPEN (R265, R285). -/
def execTeamGoOpen (s : State) : Host.Outcome State Fault Refusal :=
  s.run (fun c =>
    let team := c.fld R.TEAM_STAGE.at 0 5
    let d := c.openTeam team (c.fld R.TEAM_STAGE.at 8 2)
    d.1.teamResult d.2 team)

/-- TEAM_GO_CLOSE (R265, R285). -/
def execTeamGoClose (s : State) : Host.Outcome State Fault Refusal :=
  s.run (fun c =>
    let team := c.fld R.TEAM_STAGE.at 0 5
    let d := c.closeTeam team
    d.1.teamResult d.2 team)

/-- TEAM_OPEN (R265, R283). -/
def execTeamOpen (h : CmdHead) (team lat : Nat) (s : State) : Host.Outcome State Fault Refusal :=
  s.run (fun c => c.command h 0x30 (fun c =>
    let d := c.openTeam team lat
    d.1.complete 0x30 h.seq d.2 7 c.now []))

/-- TEAM_CLOSE (R265, R283). -/
def execTeamClose (h : CmdHead) (team : Nat) (s : State) : Host.Outcome State Fault Refusal :=
  s.run (fun c => c.command h 0x31 (fun c =>
    let d := c.closeTeam team
    d.1.complete 0x31 h.seq d.2 7 c.now []))

/-! ### Subscriptions (R271, R283, R285) -/

/-- The source that a subscription names is present (R271). -/
def Core.subSource (c : Core) (s : Sub) : Bool :=
  match s.kind with
  | 0 => decide (s.srcKind = 0) && decide (c.stState s.source ≠ 0) &&
      (decide (c.cls s.source = clsDab) || decide (c.cls s.source = clsDrm) || decide (c.cls s.source = clsDrmPlus))
  | 1 =>
    if s.srcKind = 1 then decide (s.source < 64) && decide (c.decodeState s.source ≠ 0) && decide (s.sel = 4)
    else decide (s.srcKind = 0) && decide (c.stState s.source ≠ 0) &&
      ((decide (s.sel = 0) && (decide (c.cls s.source = clsFm) || decide (c.cls s.source = clsAm) ||
          decide (c.cls s.source = clsIq))) || (decide (s.sel = 1) && decide (c.cls s.source = clsFm)))
  | 2 => decide (s.srcKind = 2) && c.memberValid s.source && decide (s.sel = 0)
  | _ => decide (s.srcKind = 3) && decide (s.source < 8) && decide (s.sel = 0)

/-- The lowest free subscription. -/
def Core.freeSub (c : Core) : Option Nat := (List.range 256).find? (fun i => !(c.sub i).valid)

/-- The checks of a subscription in the order of R283's codes: CONFIG, COUNT, SHED, LINK, QUEUE. -/
def Core.subCheck (c : Core) (s : Sub) : Nat :=
  let load := [(s.queue, c.subRate s)]
  if s.queue < 2 ∨ c.subSource s = false then 2
  else if c.freeSub.isNone then 8
  else if shedCapacity < c.shedUsed + c.subBytes s then 0xA
  else if !c.linkFits c.allLoads [] load 0 0 then 0xB
  else if !c.queueFits c.allLoads [] load then 0xC
  else 0

/-- Add a subscription: the code and the index. -/
def Core.addSub (c : Core) (s : Sub) : Core × Nat × Nat :=
  let code := c.subCheck s
  if code ≠ 0 then (c, code, 0)
  else
    let i := c.freeSub.getD 0
    ({ c with subs := Table.set (fun _ => {}) c.subs i { s with valid := true } }, 0, i)

/-- Drop a subscription: the code. -/
def Core.dropSub (c : Core) (i : Nat) : Core × Nat :=
  if (c.sub i).valid = false then (c, 1) else ({ c with subs := Table.set (fun _ => {}) c.subs i {} }, 0)

/-- SUB_RESULT after a GO (R285). -/
def Core.subResult (c : Core) (code i : Nat) : Core :=
  ((c.setFld R.SUB_RESULT.at 0 4 code).setFld R.SUB_RESULT.at 8 8 i).wrapFld R.SUB_RESULT.at 16 8

/-- The staged subscription (R285). -/
def Core.subStaged (c : Core) : Sub :=
  let w := R.SUB_STAGE.at
  { kind := c.fld w 0 2, srcKind := c.fld w 2 2, source := c.fld w 8 8, sel := c.fld w 16 8, queue := c.fld w 24 6 }

/-- SUB_GO_ADD (R271, R285). -/
def execSubGoAdd (s : State) : Host.Outcome State Fault Refusal :=
  s.run (fun c => let d := c.addSub c.subStaged; d.1.subResult d.2.1 d.2.2)

/-- SUB_GO_DROP (R271, R285). -/
def execSubGoDrop (i : Fin 256) (s : State) : Host.Outcome State Fault Refusal :=
  s.run (fun c => let d := c.dropSub i; d.1.subResult d.2 i)

/-- SUB_ADD (R271, R283). -/
def execSubAdd (h : CmdHead) (kind srcKind source sel queue : Nat) (s : State) : Host.Outcome State Fault Refusal :=
  s.run (fun c => c.command h 0x32 (fun c =>
    if 4 ≤ kind ∨ 4 ≤ srcKind ∨ 64 ≤ queue then c.complete 0x32 h.seq 2 7 c.now []
    else
      let d := c.addSub { kind := kind, srcKind := srcKind, source := source % 256, sel := sel % 256, queue := queue }
      d.1.complete 0x32 h.seq d.2.1 7 c.now (if d.2.1 = 0 then leBytes 1 d.2.2 else [])))

/-- SUB_DROP (R283). -/
def execSubDrop (h : CmdHead) (i : Nat) (s : State) : Host.Outcome State Fault Refusal :=
  s.run (fun c => c.command h 0x33 (fun c =>
    let d := c.dropSub (i % 256)
    d.1.complete 0x33 h.seq d.2 7 c.now []))

/-! ### Serial audio ports (R274 to R278, R286, R287) -/

/-- Hidden state of port `p`. -/
def Core.sap (c : Core) (p : Nat) : SapRec := Table.get (fun _ => {}) c.saps p

/-- `c` with that state replaced. -/
def Core.setSap (c : Core) (p : Nat) (x : SapRec) : Core := { c with saps := Table.set (fun _ => {}) c.saps p x }

/-- SAP_CFG.EN of port `p`. -/
def Core.sapOn (c : Core) (p : Nat) : Bool := decide (c.fld (R.SAP_CFG.at p) 0 1 = 1)

/-- Yard time of the port's frame 0. -/
def Core.sapStart (c : Core) (p : Nat) : Nat := (c.reg (R.SAP_START_LO.at p)).toNat + (c.reg (R.SAP_START_HI.at p)).toNat * 2 ^ 32

/-- The first grid instant at or after `x` (R267). -/
def gridAt (x : Nat) : Nat := (x + 1023) / 1024 * 1024

/-- The port runs at Yard time `x` (R274): frames have begun, and it is enabled or has not reached the boundary that stops it. -/
def Core.sapRunning (c : Core) (p x : Nat) : Bool :=
  let stop := match (c.sap p).stopAt with | some e => decide (x < e) | none => false
  decide (c.sapStart p ≤ x) && decide (0 < c.sapStart p) && (c.sapOn p || stop)


/-- A write of SAP_CFG (R274, R286, R427). -/
def sapCfgWrite (p : Nat) (c : Core) (v : Word) : Core × Bool :=
  let a := R.SAP_CFG.at p
  let old := c.reg a
  let format := fieldOf v 2 2
  if format = 3 ∨ (fieldOf v 4 2 ≠ 0 ∧ format ≠ 2) ∨ (bitOf old 0 = true ∧ (v ^^^ old) &&& 0x7FE ≠ 0) ∨
      (bitOf v 1 = true ∧ c.regionRetired (0x158 + p) = true) then c.refusePage 0xC
  else
    let c1 := (plainWrite R.SAP_CFG a c v).1
    if bitOf v 0 && !bitOf old 0 then
      let x := gridAt (48 * (c.now + 2))
      let c2 := c1.setPair (R.SAP_START_LO.at p) (R.SAP_START_HI.at p) x
      let pend := decide (c.fld (R.SAP_STATUS.at p) 3 1 = 1)
      ((if pend then c2.setReg (R.SAP_MASK_FRAME.at p) 0 else c2).setSap p
        { c.sap p with maskAt := if pend then some x else none, stopAt := none }, true)
    else if !bitOf v 0 && bitOf old 0 then
      (c1.setSap p { c.sap p with stopAt := some (max (c.sapStart p) (gridAt (48 * (c.now + 1)))) }, true)
    else (c1, true)

/-- SAP_ENABLE (R274). -/
def execSapEnable (port : Port) (p : Fin 8) (v : Word) (s : State) : Host.Outcome State Fault Refusal :=
  s.write port R.SAP_CFG (R.SAP_CFG.at p) v (sapCfgWrite p)

/-- Channels of a member's stream. -/
def Core.memberChannels (c : Core) (m : Nat) : Nat := (c.blockKind 2 m false).2.1

/-- Judge a map half-word (R275, R280, R283): RATE for a member not at 48 kS/s, CONFIG for a channel that it lacks. A place that
no member holds carries zeros. -/
def Core.mapCheck (c : Core) (v : Nat) : Nat :=
  let m := v % 256
  if v / 32768 % 2 = 0 ∨ c.memberValid m = false then 0
  else if c.member48 m = false then 0xF
  else if c.memberChannels m ≤ v / 256 % 2 then 2
  else 0

/-- A write of SAP_MAPk (R275). -/
def sapMapWrite (p k : Nat) (c : Core) (v : Word) : Core × Bool :=
  if c.mapCheck (v.toNat % 65536) ≠ 0 then c.refusePage 0xC else plainWrite R.SAP_MAP (R.SAP_MAP.at p k) c v

/-- SAP_MAP_WRITE (R275). -/
def execSapMapWrite (port : Port) (p : Fin 8) (k : Fin 16) (v : Word) (s : State) : Host.Outcome State Fault Refusal :=
  s.write port R.SAP_MAP (R.SAP_MAP.at p k) v (sapMapWrite p k)

/-- SAP_MAP (R275, R283). -/
def execSapMap (h : CmdHead) (p k v : Nat) (s : State) : Host.Outcome State Fault Refusal :=
  s.run (fun c => c.command h 0x34 (fun c =>
    if 8 ≤ p ∨ 16 ≤ k then c.complete 0x34 h.seq 2 7 c.now []
    else c.writes h 0x34 [R.SAP_MAP.at p k] (fun c =>
      let code := c.mapCheck (v % 65536)
      if code ≠ 0 then (c.refusePage 0xC).1.complete 0x34 h.seq code 7 c.now []
      else (plainWrite R.SAP_MAP (R.SAP_MAP.at p k) c (BitVec.ofNat 32 (v % 65536))).1.complete 0x34 h.seq 0 7 c.now [])))

/-- The frame number and Yard instant of the boundary at which a mask written now applies (R276). -/
def Core.maskFrame (c : Core) (p : Nat) : Nat × Nat :=
  let s := c.sapStart p
  let k := (48 * (c.now + 2) - s + 1023) / 1024
  (k, s + 1024 * k)

/-- A write of SAP_MASK_NEXT (R276): it replaces a mask that still waits. On a port that is off it applies at frame 0. -/
def sapMaskWrite (p : Nat) (c : Core) (v : Word) : Core × Bool :=
  let c1 := (c.setReg (R.SAP_MASK_NEXT.at p) v).setFld (R.SAP_STATUS.at p) 3 1 1
  if c.sapOn p then
    let f := c.maskFrame p
    ((c1.setNat (R.SAP_MASK_FRAME.at p) f.1).setSap p { c.sap p with maskAt := some f.2 }, true)
  else ((c1.setReg (R.SAP_MASK_FRAME.at p) 0).setSap p { c.sap p with maskAt := none }, true)

/-- SAP_MASK_WRITE (R276). -/
def execSapMaskWrite (port : Port) (p : Fin 8) (v : Word) (s : State) : Host.Outcome State Fault Refusal :=
  s.write port R.SAP_MASK_NEXT (R.SAP_MASK_NEXT.at p) v (sapMaskWrite p)

/-- SAP_MASK (R276, R283). -/
def execSapMask (h : CmdHead) (p : Nat) (v : Word) (s : State) : Host.Outcome State Fault Refusal :=
  s.run (fun c => c.command h 0x35 (fun c =>
    if 8 ≤ p then c.complete 0x35 h.seq 2 7 c.now []
    else c.writes h 0x35 [R.SAP_MASK_NEXT.at p] (fun c =>
      let d := (sapMaskWrite p c v).1
      d.complete 0x35 h.seq 0 7 c.now (leBytes 4 (d.reg (R.SAP_MASK_FRAME.at p)).toNat))))

/-- A pending mask's frame starts in this tick. -/
def Core.maskDue (c : Core) (p : Nat) : Bool :=
  match (c.sap p).maskAt with | some x => decide (x < 48 * (c.now + 1)) | none => false

/-- SAP_MASK_APPLY (R276). -/
def execSapMaskApply (p : Fin 8) (s : State) : Host.Outcome State Fault Refusal :=
  s.act 0xC (fun c =>
    if c.maskDue p then
      (((c.setReg (R.SAP_MASK_CUR.at p) (c.reg (R.SAP_MASK_NEXT.at p))).setFld (R.SAP_STATUS.at p) 3 1 0).setSap p
        { c.sap p with maskAt := none }).event 0xC p
    else c)

/-- Port `p` is an enabled slave. -/
def Core.sapSlave (c : Core) (p : Nat) : Bool := c.sapOn p && decide (c.fld (R.SAP_CFG.at p) 1 1 = 1)

/-- ASRC lock of port `p` is set or cleared in both its registers. -/
def Core.setAsrcLock (c : Core) (p : Nat) (on : Bool) : Core :=
  (c.setFld (R.ASRC_STATUS.at p) 0 1 (b2n on)).setFld (R.SAP_STATUS.at p) 2 1 (b2n on)

/-- SAP_CLK_LOSS (R277, R286). -/
def execSapClkLoss (p : Fin 8) (s : State) : Host.Outcome State Fault Refusal :=
  s.act 0xC (fun c =>
    if c.sapSlave p then
      let c1 := (c.setFld (R.SAP_STATUS.at p) 1 1 0).event 0xC (8 + p)
      if c.fld (R.ASRC_STATUS.at p) 0 1 = 1 then (c1.setAsrcLock p false).event 0xC (16 + p) else c1
    else c)

/-- ASRC_LOCK (R277, R287). -/
def execAsrcLock (p : Fin 8) (ratio tx rx : Word) (s : State) : Host.Outcome State Fault Refusal :=
  s.act 0xD (fun c =>
    if c.sapSlave p then
      ((((c.setAsrcLock p true).setFld (R.SAP_STATUS.at p) 1 1 1).setReg (R.ASRC_RATIO.at p) ratio).setReg
        (R.ASRC_DELAY.at p) tx).setReg (R.ASRC_DELAY_RX.at p) rx
    else c)

/-- A write of ASRC_CFG: BW 3 is refused (R287). -/
def asrcCfgWrite (c : Core) (v : Word) : Core × Bool :=
  if fieldOf v 0 2 = 3 then c.refusePage 0xD else plainWrite R.ASRC_CFG R.ASRC_CFG.at c v

/-- A soft reset of the SAP page (R284): every port stops; maps and masks stay. -/
def Core.sapReset (c : Core) : Core :=
  (List.range 8).foldl (fun d p =>
    ((d.setFld (R.SAP_CFG.at p) 0 1 0).setSap p { d.sap p with stopAt := none, maskAt := none }).setAsrcLock p false) c

/-! ### Ethernet (R279 to R281, R284, R288) -/

/-- The Ethernet port carries frames: on, with its link up. -/
def Core.ethUp (c : Core) : Bool := decide (c.fld R.ETH_CFG.at 0 1 = 1) && decide (c.fld R.ETH_STATUS.at 0 1 = 1)

/-- PTP_LOCK. -/
def Core.setPtpLock (c : Core) (on : Bool) : Core := c.setFld R.ETH_STATUS.at 1 1 (b2n on)

/-- PTP_SYNC (R279): lock after 16 consecutive messages below 1 µs, lost after 16 at or above 10 µs. -/
def execPtpSync (offset : Int) (s : State) : Host.Outcome State Fault Refusal :=
  s.act 0xE (fun c =>
    if c.ethUp && decide (c.fld R.ETH_CFG.at 2 1 = 1) then
      let p := c.ptp
      let good := if offset.natAbs < 1000 then min 16 (p.good + 1) else 0
      let bad := if 10000 ≤ offset.natAbs then min 16 (p.bad + 1) else 0
      let c1 := { c.setNat R.PTP_OFFSET.at (codeOf 32 (satInt 32 offset)) with ptp := { good := good, bad := bad, last := c.now } }
      if c.fld R.ETH_STATUS.at 1 1 = 1 then (if bad = 16 then c1.setPtpLock false else c1)
      else if good = 16 then c1.setPtpLock true else c1
    else c)

/-- 4 s have passed without a Sync message while PTP is locked. -/
def Core.ptpTimeoutDue (c : Core) : Bool :=
  decide (c.fld R.ETH_STATUS.at 1 1 = 1) && decide (c.ptp.last + 4 * ticksPerSecond ≤ c.now)

/-- PTP_TIMEOUT (R279). -/
def execPtpTimeout (s : State) : Host.Outcome State Fault Refusal :=
  s.act 0xE (fun c => if c.ptpTimeoutDue then { c.setPtpLock false with ptp := { c.ptp with good := 0, bad := 0 } } else c)

/-- A frame leaves the port with the tag that ETH_VLAN gives it. -/
def Core.sendFrame (c : Core) (kind : EthKind) (dest ports : Word) (dscp : Nat) (bytes : List Byte) : Core :=
  c.put (.ethernet kind dest ports dscp (if bitOf (c.reg R.ETH_VLAN.at) 15 then c.reg R.ETH_VLAN.at else 0) bytes)

/-- ETH_FRAME_RX (R279): requests for the port's own IPv4 address are answered; PTP messages go to the servo; every other frame is
discarded. -/
def execEthFrameRx (kind : EthKind) (target source : Word) (bytes : List Byte) (s : State) :
    Host.Outcome State Fault Refusal :=
  s.act 0xE (fun c =>
    if c.ethUp && decide (target = c.reg R.IP_ADDR.at) then
      match kind with
      | .arp => c.sendFrame .arp source 0 0
          (leBytes 4 (c.reg R.MAC_LO.at).toNat ++ leBytes 2 (c.reg R.MAC_HI.at).toNat ++ leBytes 4 target.toNat)
      | .icmpEcho => c.sendFrame .icmpEcho source 0 0 bytes
      | _ => c
    else c)

/-- Hidden state of AES67 stream `i`. -/
def Core.aes (c : Core) (i : Nat) : AesRec := Table.get (fun _ => {}) c.aess i

/-- `c` with that state replaced. -/
def Core.setAes (c : Core) (i : Nat) (x : AesRec) : Core := { c with aess := Table.set (fun _ => {}) c.aess i x }

/-- Samples of an AES67 packet (R280). -/
def aesSamples (w : Word) : Nat := match fieldOf w 1 2 with | 0 => 48 | 1 => 12 | _ => 6

/-- The map half-word of a stream's channel. -/
def Core.aesMapped (c : Core) (i j : Nat) : Nat := c.fld (R.AES_MAP.at i (j / 2)) (16 * (j % 2)) 16

/-- The samples that a stream carries: a channel mapped to no member carries zeros (R280). -/
def Core.aesPayload (c : Core) (i channels : Nat) (l : List (BitVec 24)) : List Byte :=
  (l.mapIdx (fun k w =>
    let v := c.aesMapped i (k % max 1 channels)
    let x := if v / 32768 = 1 ∧ c.memberValid (v % 256) = true then w.toNat else 0
    [BitVec.ofNat 8 (x / 65536), BitVec.ofNat 8 (x / 256), BitVec.ofNat 8 x])).flatten

/-- Big-endian bytes, as network headers carry them. -/
def beBytes (n x : Nat) : List Byte := (leBytes n x).reverse

/-- AES_PACKET (R280, R284): an RTP packet with payload L24. While the link is down it is discarded, with one miss per outage. -/
def execAesPacket (i : Fin 64) (g ptp : Nat) (samples : List (BitVec 24)) (s : State) : Host.Outcome State Fault Refusal :=
  s.act 0xE (fun c =>
    let w := c.reg (R.AES_CFG.at i)
    let n := aesSamples w
    let ch := fieldOf w 3 4
    if bitOf w 0 && decide (c.fld R.ETH_CFG.at 0 1 = 1) && decide (samples.length = n * ch) && decide (g % 1024 = 0) then
      if c.fld R.ETH_STATUS.at 0 1 = 0 then
        if (c.aes i).lost then c
        else (c.setAes i { c.aes i with lost := true, next := none }).deadlineMiss i false 0 2 0 0 g true 0
      else if c.fld R.ETH_STATUS.at 1 1 = 0 then c
      else
        let ts := 48000 * ptp / 1000000000 % 2 ^ 32
        let r := c.aes i
        let slip := match r.next with | some e => decide (e ≠ ts) | none => false
        let body := beBytes 1 0x80 ++ beBytes 1 (fieldOf w 8 7) ++ beBytes 2 r.seq ++ beBytes 4 ts ++
          beBytes 4 (c.reg (R.AES_SSRC.at i)).toNat ++ c.aesPayload i ch samples
        let c1 := (c.sendFrame .rtp (c.reg (R.AES_DEST_IP.at i)) (c.reg (R.AES_PORT.at i)) (c.fld R.ETH_CFG.at 16 6) body).setAes i
          { r with seq := (r.seq + 1) % 65536, next := some ((ts + n) % 2 ^ 32) }
        let c2 := c1.wrapFld (R.AES_STATUS.at i) 16 16
        if slip then c2.hwFlags (R.AES_STATUS.at i) (bit 1) else c2
    else c)

/-- A pennant datagram is due (R281). -/
def Core.datagramDue (c : Core) : Bool :=
  decide (44 ≤ c.penStream.length) || (!c.penStream.isEmpty && decide (c.penSince + 1024 ≤ c.now))

/-- PEN_DATAGRAM (R281, R284). -/
def execPenDatagram (s : State) : Host.Outcome State Fault Refusal :=
  s.act 0xE (fun c =>
    if !c.datagramDue then c
    else
      let l := c.penStream.take 44
      let c1 := { c with penStream := c.penStream.drop 44, penSince := c.now }
      if c.fld R.PEN_CFG.at 0 1 = 0 ∨ c.fld R.ETH_CFG.at 0 1 = 0 then c1
      else if c.fld R.ETH_STATUS.at 0 1 = 0 then
        if c.penLost then c1 else { c1 with penLost := true }.deadlineMiss 0xE false 0 2 0 0 c.time true 0
      else
        let seq := (c.reg R.PEN_SEQ.at).toNat
        (c1.sendFrame .pennants (c.reg R.PEN_DEST_IP.at) (c.reg R.PEN_PORT.at) 0
          (leBytes 4 seq ++ leBytes 2 l.length ++ leBytes 2 0 ++ leBytes 8 c.time ++ l.flatten)).setNat R.PEN_SEQ.at (seq + 1))

/-- ETH_LINK_CHANGE (R284, R288). -/
def execEthLinkChange (up : Bool) (s : State) : Host.Outcome State Fault Refusal :=
  s.act 0xE (fun c =>
    let c1 := c.setFld R.ETH_STATUS.at 0 1 (b2n up)
    if up then { c1 with penLost := false, aess := c1.aess.map (fun e => (e.1, { e.2 with lost := false })) } else c1)

/-- Bit/s that an AES67 configuration adds over the one in force. -/
def Core.aesFits (c : Core) (i : Nat) (w : Word) : Bool :=
  let old := c.reg (R.AES_CFG.at i)
  decide (c.ethUsed + aesBits w ≤ c.ethCapacity + (if bitOf old 0 then aesBits old else 0))

/-- Judge a stream's configuration word (R283, R288): CONFIG for a reserved value, LINK for the budget. -/
def Core.aesCheck (c : Core) (i : Nat) (w : Word) : Nat :=
  let ch := fieldOf w 3 4
  if fieldOf w 1 2 = 3 ∨ 8 < ch ∨ (bitOf w 0 = true ∧ (ch = 0 ∨ fieldOf w 8 7 < 96)) then 2
  else if bitOf w 0 = true ∧ c.aesFits i w = false then 0xB
  else 0

/-- A stream starts or stops sending with its EN bit (R280). -/
def Core.aesSwitch (c : Core) (i : Nat) (w : Word) : Core :=
  if bitOf (c.reg (R.AES_CFG.at i)) 0 = bitOf w 0 then c.setReg (R.AES_CFG.at i) w
  else (c.setReg (R.AES_CFG.at i) w).setAes i { c.aes i with next := none, lost := false }

/-- A write of AES_CFG (R288). -/
def aesCfgWrite (i : Nat) (c : Core) (v : Word) : Core × Bool :=
  let old := c.reg (R.AES_CFG.at i)
  let w := v &&& 0x7F7F
  if c.aesCheck i w ≠ 0 ∨ (bitOf old 0 = true ∧ (w ^^^ old) &&& 0x7F7E ≠ 0) then c.refusePage 0xE
  else (c.aesSwitch i w, true)

/-- A write of another configuration word of a stream: refused while the stream is enabled (R288). -/
def aesFixedWrite (r : RegRow) (a i : Nat) (c : Core) (v : Word) : Core × Bool :=
  if bitOf (c.reg (R.AES_CFG.at i)) 0 && decide (c.reg a ≠ v) then c.refusePage 0xE else plainWrite r a c v

/-- A write of AES_MAP (R280, R288). -/
def aesMapWrite (i k : Nat) (c : Core) (v : Word) : Core × Bool :=
  if c.mapCheck (fieldOf v 0 16) ≠ 0 ∨ c.mapCheck (fieldOf v 16 16) ≠ 0 then c.refusePage 0xE
  else aesFixedWrite R.AES_MAP (R.AES_MAP.at i k) i c v

/-- AES_MAP (R280, R283). -/
def execAesMap (h : CmdHead) (i j v : Nat) (s : State) : Host.Outcome State Fault Refusal :=
  s.run (fun c => c.command h 0x36 (fun c =>
    if 64 ≤ i ∨ 8 ≤ j then c.complete 0x36 h.seq 2 7 c.now []
    else c.writes h 0x36 [R.AES_MAP.at i (j / 2)] (fun c =>
      let code := if bitOf (c.reg (R.AES_CFG.at i)) 0 then 1 else c.mapCheck (v % 65536)
      if code ≠ 0 then (c.refusePage 0xE).1.complete 0x36 h.seq code 7 c.now []
      else (c.setFld (R.AES_MAP.at i (j / 2)) (16 * (j % 2)) 16 (v % 65536 &&& 0x81FF)).complete 0x36 h.seq 0 7 c.now [])))

/-- AES_EN (R280, R283). -/
def execAesEn (h : CmdHead) (i : Nat) (en : Bool) (s : State) : Host.Outcome State Fault Refusal :=
  s.run (fun c => c.command h 0x37 (fun c =>
    if 64 ≤ i then c.complete 0x37 h.seq 2 7 c.now []
    else c.writes h 0x37 [R.AES_CFG.at i] (fun c =>
      let w := putField (c.reg (R.AES_CFG.at i)) 0 1 (b2n en)
      let code := c.aesCheck i w
      if code ≠ 0 then (c.refusePage 0xE).1.complete 0x37 h.seq code 7 c.now []
      else (c.aesSwitch i w).complete 0x37 h.seq 0 7 c.now [])))

/-- A write of PEN_CFG: the stream's rate must fit the Ethernet budget (R282, R288). -/
def penCfgWrite (c : Core) (v : Word) : Core × Bool :=
  if bitOf v 0 && !bitOf (c.reg R.PEN_CFG.at) 0 && decide (c.ethCapacity < c.ethUsed + penBits c.penRate) then c.refusePage 0xE
  else plainWrite R.PEN_CFG R.PEN_CFG.at c v

/-! ### The Shed: errors, the access path and the BAR2 window (R43, R258, R289, R413, R414, R435) -/

/-- A Shed error is recorded (R413, R434, R435). The syndrome's code is not stated: a free value (log entry 2). -/
def Core.shedError (c : Core) (w : Nat) (ue scrub : Bool) : Core :=
  let syn := c.draw
  let c1 := syn.2.bump (if ue then R.SHED_UE_CNT.at else R.SHED_CE_CNT.at)
  let c2 := (c1.setNat R.SHED_ECC_LAST_LO.at (8 * w)).setNat R.SHED_ECC_LAST_HI.at
    (w / 2 ^ 29 % 4 + syn.1.toNat % 256 * 2 ^ 8 + b2n ue * 2 ^ 16 + b2n scrub * 2 ^ 17 + 2 ^ 31)
  (c2.event 0x15 (if ue then 11 else 10)).tally (if ue then 18 else 17)

/-- Word `w` of the Shed holds an uncorrectable error. -/
def Core.wordBad (c : Core) (w : Nat) : Bool := Table.get (fun _ => false) c.shedBad w

/-- A read of word `w` (R413): a single-bit error is corrected and written back; an uncorrectable one is recorded. -/
def Core.touchWord (c : Core) (w : Nat) (scrub : Bool) : Core :=
  if Table.get (fun _ => false) c.shedCe w then
    { c with shedCe := Table.set (fun _ => false) c.shedCe w false }.shedError w false scrub
  else if c.wordBad w then c.shedError w true scrub
  else c

/-- The words that `n` bytes from `a` lie in. -/
def wordsOf (a n : Nat) : List Nat := if n = 0 then [] else (List.range ((a + n - 1) / 8 - a / 8 + 1)).map (fun i => a / 8 + i)

/-- Read `n` bytes from `a` through the host's paths: the bytes (those of an uncorrectable word are free values), whether some
word was uncorrectable, and the device after. -/
def Core.shedHostRead (c : Core) (a n : Nat) : List Byte × Bool × Core :=
  let words := wordsOf a n
  let bad := words.any c.wordBad
  let d := words.foldl (fun x w => x.touchWord w false) c
  if bad then
    ((List.range n).map (fun i => if c.wordBad ((a + i) / 8) then Config.freeByte (d.drawn + i) else c.shedByte (a + i)), true,
      { d with drawn := d.drawn + n })
  else (c.shedRead a n, false, d)

/-- A host may write byte `a` of the Shed (R258). -/
def Core.hostWritable (c : Core) (a : Nat) : Bool :=
  (decide (0x300000000 ≤ a) && decide (a < 0x340000000) && bitOf (c.reg R.SHED_CFG.at) 0) ||
    (decide (0x340000000 ≤ a) && decide (a < 0x350000000) && bitOf (c.reg R.SHED_CFG.at) 1)

/-- The Shed line that SHED_ACC names. -/
def Core.accLine (c : Core) : Nat := (c.reg R.SHED_ACC_ADDR_LO.at).toNat + c.fld R.SHED_ACC_ADDR_HI.at 0 2 * 2 ^ 32

/-- SHED_ACC_RESULT and ACC_DONE (R289). -/
def Core.accDone (c : Core) (code : Nat) : Core :=
  ((c.setFld R.SHED_ACC_RESULT.at 0 4 code).wrapFld R.SHED_ACC_RESULT.at 16 8).event 0x1A 0

/-- SHED_ACC_LOAD (R289, R414). -/
def execShedAccLoad (s : State) : Host.Outcome State Fault Refusal :=
  s.act 0x1A (fun c =>
    let d := c.shedHostRead c.accLine 64
    ((List.range 16).foldl (fun x i => x.setNat (R.SHED_ACC_DATA.at i) (bytesAt d.1 (4 * i) 4)) d.2.2).accDone
      (if d.2.1 then 2 else 0))

/-- The errors that INJ_CE and INJ_UE leave in the first word of a line stored in the host region (R435); the bits clear. -/
def Core.inject (c : Core) (a : Nat) : Core :=
  let e := R.SHED_ECC_CFG.at
  if 0x300000000 ≤ a ∧ a < 0x340000000 ∧ c.fld e 16 2 ≠ 0 then
    let ue := decide (c.fld e 17 1 = 1)
    let c1 := c.setFld e 16 2 0
    if ue then { c1 with shedBad := Table.set (fun _ => false) c1.shedBad (a / 8) true }
    else { c1 with shedCe := Table.set (fun _ => false) c1.shedCe (a / 8) true }
  else c

/-- SHED_ACC_STORE (R289, R435). -/
def execShedAccStore (s : State) : Host.Outcome State Fault Refusal :=
  s.act 0x1A (fun c =>
    let a := c.accLine
    if c.hostWritable a then
      ((c.shedWrite a ((List.range 16).flatMap (fun i => leBytes 4 (c.reg (R.SHED_ACC_DATA.at i)).toNat))).inject a).accDone 0
    else c.accDone 1)

/-- The Shed address of offset `o` of the BAR2 window (R40, R43). -/
def Core.windowAddr (c : Core) (o : Nat) : Nat :=
  let size := 2 ^ c.bar2Log
  ((c.fld R.SHED_WIN_BASE.at 0 6 * 2 ^ 28 / size * size) + o % size) % 2 ^ 34

/-- PCIE_BAR2_WRITE (R43, R258). -/
def execPcieBar2Write (o : Nat) (bytes : List Byte) (s : State) : Host.Outcome State Fault Refusal :=
  s.run (fun c =>
    if !c.linkUp || bytes.isEmpty then c
    else
      let a := c.windowAddr o
      if c.hostWritable a && c.hostWritable (a + bytes.length - 1) then c.shedWrite a bytes
      else c.hostErr .pcie (o % 2 ^ 20) 5)

/-- PCIE_BAR2_READ (R43, R414). -/
def execPcieBar2Read (o n : Nat) (s : State) : Host.Outcome State Fault Refusal :=
  s.run (fun c =>
    if !c.linkUp then c
    else
      let a := c.windowAddr o
      let d := c.shedHostRead a n
      let c1 := if d.2.1 then d.2.2.hostErr .pcie (o % 2 ^ 20) 8 else d.2.2
      c1.put (.shedData a d.1 d.2.1))

/-- PCIE_LINK_UP (R39, R282): the budget of the trained rate and width. -/
def execPcieLinkUp (rate : Fin 4) (width : Nat) (s : State) : Host.Outcome State Fault Refusal :=
  s.run (fun c => { c with linkUp := true, pcieCap := 6000 * 2 ^ rate.val * width / 32 })

/-- A soft reset of the TEAM page with no team open: the subscriptions go (R284). -/
def Core.teamReset (c : Core) : Core := { c with subs := [], members := [] }

/-- Some team is open (R284). -/
def Core.anyTeamOpen (c : Core) : Bool := (List.range 32).any c.teamOpen

end Sys2Proof.Machine
end

