-- ==== Sys2Proof/Machine/Air.lean ====
section
/-! DEFINITION. The Wamelon air interface as functions on bits: chirp symbols, headers, whitening, the repeat-accumulate code and
the interleaver (R319 to R327). -/

namespace Sys2Proof.Machine

/-- Chips of a symbol (R320). -/
def chips (sf : Nat) : Nat := 2 ^ sf

/-- The fine cycles of `n` symbols at spreading factor `sf`, rounded up (R320, R322): a chip lasts 245.76 fine cycles. -/
def symbolTime (sf n : Nat) : Nat := (n * chips sf * 24576 + 99) / 100

/-- Header symbols (R322). -/
def headerSymbols (sf : Nat) : Nat := (96 + sf - 2) / (sf - 1)

/-- Block size of the payload code (R325). -/
def payloadK (len : Nat) : Nat :=
  let n := 8 * (len + 2)
  if n ≤ 64 then 64 else if n ≤ 128 then 128 else if n ≤ 256 then 256 else if n ≤ 512 then 512
  else if n ≤ 1024 then 1024 else 2048

/-- Payload symbols (R322). -/
def payloadSymbols (sf len : Nat) : Nat :=
  if len = 0 then 0 else (8 * (len + 2) + payloadK len + sf - 2) / (sf - 1)

/-- F_d of a frame (R322). -/
def frameTime (sf pre len : Nat) : Nat := symbolTime sf (pre + 4 + headerSymbols sf + payloadSymbols sf len)

/-- The bits of bytes, least significant bit first (R323, R324). -/
def bitsOf (l : List Byte) : List Bool := l.flatMap (fun b => (List.range 8).map (fun i => b.getLsbD i))

/-- Bytes of bits, least significant bit first. -/
def bytesOfBits : Nat → List Bool → List Byte
  | 0, _ => []
  | n + 1, l => BitVec.ofNat 8 ((List.range 8).map (fun i => if (l[i]?).getD false then 2 ^ i else 0)).sum ::
      bytesOfBits n (l.drop 8)

/-- CRC-8 of the header (R323) from an initial value. -/
def headerCrc (init : Nat) (l : List Byte) : Nat := l.foldl (crcByte 8 0x07) init

/-- The PN9 whitening bits (R324): the register starts at 0x1FF, and each step outputs bit 0. -/
def pn9 : Nat → Nat → List Bool
  | 0, _ => []
  | n + 1, r => decide (r % 2 = 1) :: pn9 n (r / 2 + 256 * ((r % 2 + r / 32 % 2) % 2))

/-- Bits XOR the whitening sequence. -/
def whiten (l : List Bool) : List Bool := l.zipWith (fun a b => a ^^ b) (pn9 l.length 0x1FF)

/-- The parameters of a code (R325). -/
structure RaCode where
  k : Nat
  n7 : Nat
  a : Nat
  m : Nat
  f1 : Nat
  f2 : Nat
deriving DecidableEq, Repr

/-- The header code. -/
def headerCode : RaCode := ⟨32, 8, 2, 64, 15, 32⟩

/-- The payload code of block size `k`. -/
def payloadCode (k : Nat) : RaCode :=
  match k with
  | 64 => ⟨64, 16, 4, 64, 17, 48⟩
  | 128 => ⟨128, 32, 4, 128, 25, 96⟩
  | 256 => ⟨256, 64, 4, 256, 31, 64⟩
  | 512 => ⟨512, 128, 4, 512, 45, 160⟩
  | 1024 => ⟨1024, 256, 4, 1024, 63, 128⟩
  | _ => ⟨2048, 512, 4, 2048, 91, 256⟩

/-- E: the length of the repeated sequence. -/
def RaCode.e (c : RaCode) : Nat := 7 * c.n7 + 3 * (c.k - c.n7)

/-- The information bit that repeated index `i` copies (R326). -/
def RaCode.source (c : RaCode) (i : Nat) : Nat := if i < 7 * c.n7 then i / 7 else c.n7 + (i - 7 * c.n7) / 3

/-- π(j) (R326). -/
def RaCode.perm (c : RaCode) (j : Nat) : Nat := (c.f1 * j + c.f2 * j * j) % c.e

/-- v_j for information bits `u`. -/
def RaCode.v (c : RaCode) (u : List Bool) (j : Nat) : Bool := (u[c.source (c.perm j)]?).getD false

/-- The parity bits p_j … for `n` more steps (R326). -/
def RaCode.parity (c : RaCode) (u : List Bool) : Nat → Nat → Bool → List Bool
  | 0, _, _ => []
  | n + 1, j, p =>
    let q := (List.range c.a).foldl (fun x i => x ^^ c.v u (c.a * j + i)) p
    q :: RaCode.parity c u n (j + 1) q

/-- The codeword of the transmitted bits `d`: filler zeros are not sent (R325, R326). -/
def RaCode.encode (c : RaCode) (d : List Bool) : List Bool :=
  let u := (d ++ List.replicate c.k false).take c.k
  d ++ c.parity u c.m 0 false

/-- The value of symbol `s` of `n` that carry codeword `w` at `b` bits a symbol (R327): bit w_k goes to symbol k mod n, at
position (⌊k / n⌋ + s) mod b. -/
def symbolValue (w : List Bool) (n b s : Nat) : Nat :=
  ((List.range b).map (fun i =>
    if (w[s + n * i]?).getD false then 2 ^ ((i + s) % b) else 0)).sum

/-- The symbol of value `v` (R321): the Gray code, doubled. -/
def graySymbol (v : Nat) : Nat := 2 * (v ^^^ (v / 2))

/-- The data symbols of a codeword. -/
def dataSymbols (sf n : Nat) (w : List Bool) : List Nat :=
  (List.range n).map (fun s => graySymbol (symbolValue w n (sf - 1) s))

/-- The symbols of a frame after its preamble (R322): network mark, frame-start mark, header, payload. -/
def frameSymbols (sf nid : Nat) (header payload : List Byte) : List Nat :=
  let n := chips sf
  let mark := fun x : Nat => n / 8 * x + n / 16
  let body := payload ++ leBytes 2 (crc16 payload)
  [mark (nid % 8), mark (nid / 8 % 8), n / 2, n / 2] ++
    dataSymbols sf (headerSymbols sf) (headerCode.encode (bitsOf header)) ++
    (if payload.isEmpty then [] else
      dataSymbols sf (payloadSymbols sf payload.length)
        ((payloadCode (payloadK payload.length)).encode (whiten (bitsOf body))))

/-- The four header bytes (R323); `init` is the initial value of HCRC. -/
def headerBytes (len typ flags tag init : Nat) : List Byte :=
  let l := leBytes 1 len ++ leBytes 1 (typ % 16 + flags % 16 * 16) ++ leBytes 1 tag
  l ++ leBytes 1 (headerCrc init l)

/-- SNR_req of R328 in 1/256 dB. -/
def snrReq (sf : Nat) : Int := -1536 - 640 * ((sf : Int) - 6)

end Sys2Proof.Machine
end

