-- ==== Sys2Proof/Machine/RadioOps.lean ====
section
/-! DEFINITION. The shared operations of the Wamelon radio: state, pins, freeze, calibration, the Regulatory Lock, the duty window
and the placement of requests (R291 to R318, R361, R362). -/

namespace Sys2Proof.Machine

/-! ### State, detectors and the freeze -/

/-- WR_STATUS.STATE (R292): 0 OFF, 1 IDLE, 2 RX, 3 CAL, 4 TURN_TX, 5 TX, 6 TURN_RX. -/
def Core.wrState (c : Core) : Nat := c.fld R.WR_STATUS.at 0 3

/-- STATE is CAL, TURN_TX, TX or TURN_RX. -/
def Core.wrBusy (c : Core) : Bool := decide (3 ≤ c.wrState) && decide (c.wrState ≤ 6)

/-- WR_STATUS.SYN1_LOCK. -/
def Core.syn1Locked (c : Core) : Bool := decide (c.fld R.WR_STATUS.at 3 1 = 1)

/-- SYN0 is LOCKED or holds (R357). -/
def Core.syn0Runs (c : Core) : Bool := c.samplesFlow

/-- WR_CTRL.MODE. -/
def Core.wrMode (c : Core) : Nat := c.fld R.WR_CTRL.at 0 2

/-- The key of a detector instance: spreading factor 6 + `sf`. -/
def detectorKey (lane sf inst : Nat) : Nat := (lane * 7 + sf) * 2 + inst

/-- A detector instance. -/
def Core.detector (c : Core) (k : Nat) : Detector := Table.get (fun _ => {}) c.detectors k

/-- The lanes that hold a packet: an instance in PREAMBLE or LOCKED (R301, R329). -/
def Core.packetLanes (c : Core) : Nat :=
  ((List.range 8).map (fun k => if c.detectors.any (fun e => decide (e.1 / 14 = k) && decide (e.2.st ≠ 0)) then 2 ^ k else 0)).sum

/-- The AGC freezes while a lane holds a packet and in STATES 3 to 6 (R301); status bits, the spoilt noise windows of R339 and a
dropped AGC step follow. -/
def Core.freezeCheck (c : Core) : Core :=
  let lanes := c.packetLanes
  let frozen := decide (lanes ≠ 0) || c.wrBusy
  let valid := decide (c.wrState = 2) && c.syn1Locked
  let c1 := (c.setFld R.WR_STATUS.at 4 2 (b2n (!valid) + 2 * b2n (decide (lanes ≠ 0)))).setFld R.WL_STATUS.at 8 8 lanes
  let c2 := { c1 with link := { c1.link with spoilt := if valid then c1.link.spoilt ||| lanes else 0xFF } }
  let c3 := if frozen && decide (c2.fld R.WR_AGC_STATUS.at 7 1 = 0) then c2.bumpFld R.WR_AGC_STATUS.at 16 16 else c2
  let c4 := c3.setFld R.WR_AGC_STATUS.at 7 1 (b2n frozen)
  if frozen && decide (c4.fld R.WR_AGC_CFG.at 0 1 = 1) then { c4 with radio := { c4.radio with gain := none } } else c4

/-- A detector instance changes. -/
def Core.setDetector (c : Core) (k : Nat) (x : Detector) : Core :=
  { c with detectors := Table.set (fun _ => {}) c.detectors k x }.freezeCheck

/-- BLANK samples return a PREAMBLE instance to SEARCH and mark a LOCKED frame (R329). -/
def blankDetector (x : Detector) : Detector := if x.st = 2 then { x with blanked := true } else {}

/-- The radio enters STATE `st`; outside RX the samples are BLANK (R294). -/
def Core.setWr (c : Core) (st : Nat) : Core :=
  let c1 := c.setFld R.WR_STATUS.at 0 3 st
  let c2 := if st = 2 then c1 else
    { c1 with detectors := (c1.detectors.map (fun e => (e.1, blankDetector e.2))).filter (fun e => decide (e.2 ≠ {})) }
  c2.freezeCheck

/-- The state that MODE names (R292). -/
def Core.wrHome (c : Core) : Nat := if c.wrMode = 2 then 2 else 1

/-! ### Pins (R302, R305, R306) -/

/-- The polarity bit of a pin in WR_PA_CFG. -/
def polarityBit : Pin → Nat
  | .trSel => 1
  | .lnaByp => 2
  | _ => 0

/-- A front-end pin is driven asserted or not, at the polarity of WR_PA_CFG. -/
def Core.drivePin (c : Core) (p : Pin) (on : Bool) : Core :=
  let c1 := c.put (.pin p (on ^^ bitOf (c.reg R.WR_PA_CFG.at) (polarityBit p)))
  if p = .lnaByp then c1.setFld R.WR_AGC_STATUS.at 6 1 (b2n on) else c1

/-- The PA_RAMP envelope moves to RAMP_TOP or RAMP_IDLE. -/
def Core.ramp (c : Core) (top : Bool) : Core :=
  c.put (.paRamp (c.fld R.WR_PA_CFG.at (if top then 4 else 16) 10))

/-- Pin transitions to come are added. -/
def Core.pinsAt (c : Core) (l : List (Nat × Pin × Bool)) : Core :=
  { c with radio := { c.radio with pins := c.radio.pins ++ l } }

/-- A pin transition of R305 or R306: LNA_BYP is released only where the AGC does not hold it (R302). -/
def Core.pinStep (c : Core) (p : Pin) (on : Bool) : Core :=
  if p = .lnaByp then c.drivePin p (on || c.radio.byp) else c.drivePin p on

/-- The pin transitions whose instants lie in this tick. -/
def Core.duePins (c : Core) : Core :=
  let due := c.radio.pins.filter (fun x => decide (x.1 / 48 ≤ c.now))
  let rest := c.radio.pins.filter (fun x => !decide (x.1 / 48 ≤ c.now))
  due.foldl (fun d x => d.pinStep x.2.1 x.2.2) { c with radio := { c.radio with pins := rest } }

/-! ### Channels and calibration (R291, R303, R361) -/

/-- Channels of a band (R291). -/
def bandChannels (band : Nat) : Nat := match band with | 0 => 1 | 1 => 8 | 2 => 16 | _ => 0

/-- The channel in force: band and number. -/
def Core.channelNow (c : Core) : Nat × Nat := (c.fld R.WR_STATUS.at 13 2, c.fld R.WR_STATUS.at 8 5)

/-- The channel in force changes. -/
def Core.setChannel (c : Core) (band chan inj : Nat) : Core :=
  ((c.setFld R.WR_STATUS.at 13 2 band).setFld R.WR_STATUS.at 8 5 chan).setFld R.WR_STATUS.at 15 1 inj

/-- Fine cycles of a channel calibration (R303). -/
def calLength : Nat := 1967

/-- A calibration runs until `stop`. -/
def Core.calibrate (c : Core) (stop : Nat) : Core :=
  let c1 := { c with radio := { c.radio with calEnd := some stop, calAgain := false, calNext := false } }
  (c1.setFld R.SYN1_STATUS.at 1 1 1).setWr 3

/-- The radio stays in CAL without a calibration, after one that failed twice (R303). -/
def Core.calStuck (c : Core) : Bool :=
  decide (c.wrState = 3) && c.radio.calEnd.isNone && !c.radio.calNext && c.radio.commit.isNone

/-- SYN1's lock state. -/
def Core.setSyn1 (c : Core) (on : Bool) : Core :=
  (c.setFld R.WR_STATUS.at 3 1 (b2n on)).setFld R.SYN1_STATUS.at 0 1 (b2n on)

/-- SYN1 loses lock: its events and its count (R362, R371). -/
def Core.syn1Lost (c : Core) : Core :=
  ((((c.setSyn1 false).event 0x11 9).event 2 9).bump R.SYN1_UNLOCK_CNT.at).freezeCheck

/-- A committed request that has not reached t0 goes back to the head of the waiting ones (R369). -/
def Core.unplace (c : Core) : Core :=
  match c.radio.commit with
  | some m => { c with radio := { c.radio with commit := none, requests := { m.req with queued := false } :: c.radio.requests } }
  | none => c

/-- A calibration in progress is abandoned. -/
def Core.dropCal (c : Core) : Core :=
  let c1 := { c with radio := { c.radio with calEnd := none, calAgain := false, calNext := false } }
  c1.setFld R.SYN1_STATUS.at 1 1 0

/-- SYN1 loses lock outside TURN_TX and TX (R362, R369): a calibration is abandoned, a request not yet at t0 stays held, and with
`recal` the channel in force is calibrated from the next tick. -/
def Core.syn1Unlocked (c : Core) (recal : Bool) : Core :=
  if c.wrState = 0 then c
  else
    let c1 := if decide (c.wrState ≤ 3) then c.unplace.dropCal else c
    let c2 := if c1.wrState = 3 then c1.setWr c1.wrHome else c1
    let c3 := c2.syn1Lost
    { c3 with radio := { c3.radio with calNext := recal && decide (c3.wrState ≤ 2) } }

/-! ### The Regulatory Lock and the duty window (R309 to R313) -/

/-- The effective power ceiling of a band (R310). -/
def Core.powerCeiling (c : Core) (band : Nat) : Nat := min (c.fld (R.RL_BAND.at band) 0 8) (c.fld R.RL_SOFT_PWR.at (8 * band) 8)

/-- The effective duty ceiling of a band, in 0.01 % (R310). -/
def Core.dutyCeiling (c : Core) (band : Nat) : Nat := min (c.fld (R.RL_BAND.at band) 16 16) (c.fld (R.RL_SOFT_DUTY.at band) 0 16)

/-- A power code is permitted on a band (R311). -/
def Core.powerOk (c : Core) (p band : Nat) : Bool := decide (p + 2 * c.fld R.RL_ID.at 8 5 ≤ c.powerCeiling band)

/-- The bit of a channel in the masks (R311). -/
def channelBit (band chan : Nat) : Nat := match band with | 0 => 0 | 1 => 1 + chan | _ => 9 + chan

/-- The channel is permitted (R309, R310, R311); in RETIRED no transmission is (R454). -/
def Core.channelOk (c : Core) (band chan : Nat) : Bool :=
  decide (c.fld R.RL_ID.at 0 8 ≠ 0) && decide (chan < bandChannels band) &&
    bitOf (c.reg R.RL_CHMASK.at &&& c.reg R.RL_SOFT_CHMASK.at) (channelBit band chan) &&
    decide (c.fld R.GRD_STATUS.at 4 3 ≠ 4)

/-- Fine cycles of a duty bucket (R312). -/
def bucketLength : Nat := 49152000

/-- The current duty bucket. -/
def Core.bucketNow (c : Core) : Nat := c.time / bucketLength

/-- A charge counts in the window of 3599 complete buckets and the current one; charges name their bucket plus 1 (R312). -/
def Core.inWindow (c : Core) (bucket : Nat) : Bool := decide (c.bucketNow + 1 < bucket + 3600)

/-- The window sum of a band, fine cycles (R312). -/
def Core.dutySum (c : Core) (band : Nat) : Nat :=
  ((c.radio.duty.filter (fun e => decide (e.1 = band) && c.inWindow e.2.1)).map (·.2.2)).sum

/-- The allowance of a band, fine cycles: DUTY × 360 ms (R312). -/
def Core.dutyAllowance (c : Core) (band : Nat) : Nat := c.dutyCeiling band * 360 * 49152

/-- Whole microseconds in a number of fine cycles. -/
def microseconds (x : Nat) : Nat := x * 1000 / 49152

/-- RL_DUTY_USED and RL_DUTY_LEFT of a band follow the window (R312). -/
def Core.showBand (c : Core) (b : Nat) : Core :=
  let used := microseconds (c.dutySum b)
  (c.setNat (R.RL_DUTY_USED.at b) used).setNat (R.RL_DUTY_LEFT.at b) (c.dutyCeiling b * 360000 - used)

/-- The duty registers of every band and RL_PRECHARGE (R312, R313). -/
def Core.showDuty (c : Core) : Core :=
  (((c.showBand 0).showBand 1).showBand 2).setNat R.RL_PRECHARGE.at
    ((List.range 3).map (fun b =>
      if c.radio.duty.any (fun e => decide (e.1 = b) && decide (e.2.1 = 0) && c.inWindow 0 && decide (e.2.2 ≠ 0))
      then 2 ^ b else 0)).sum

/-- Airtime is charged to a bucket of a band (R312). -/
def Core.chargeDuty (c : Core) (band bucket air : Nat) : Core :=
  { c with radio := { c.radio with duty := c.radio.duty ++ [(band, bucket, air)] } }.showDuty.tally 38 ((air + 49151) / 49152)

/-! ### Requests (R307, R308) -/

/-- Fine cycles of a ramp, of the RX to TX turn-round and of the TX to RX one (R305, R306). -/
def rampLength : Nat := 787
def turnOn : Nat := 4719
def turnBack : Nat := 2360

/-- A of a request (R307). -/
def TxReq.air (r : TxReq) : Nat := rampLength + r.fd + rampLength

/-- The busy point q and whether it comes from a calibration or a turn-round (R308). -/
def Core.busyPoint (c : Core) : Nat × Bool :=
  let base := 48 * (c.now + 1)
  let cal := c.radio.calEnd.getD 0
  let turn := match c.radio.ended with | some e => e + turnBack | none => 0
  let q := max base (max cal turn)
  (q, decide (base < q))

/-- The placement of a request taken now (R308). -/
def Core.place (c : Core) (r : TxReq) : Commit :=
  let other := decide (c.channelNow ≠ (r.band, r.chan))
  let b := c.busyPoint
  let x := max r.x1 (b.1 + turnOn + (if other then calLength else 0))
  { req := r, x1 := x, held := b.2, shifted := decide (r.x1 < x), chcal := other }

/-- The code of a request taken now (R308). -/
def Core.txCheck (c : Core) (r : TxReq) : Nat :=
  if !c.channelOk r.band r.chan then 1
  else if !c.powerOk r.pwr r.band then 2
  else if c.dutyAllowance r.band < c.dutySum r.band + r.air then 3
  else if r.slotEnd < (c.place r).x1 + r.fd + rampLength then 4
  else 0

/-- Marks and code into WR_TX_LAST, with the instant and the airtime; counters and event (R308). -/
def Core.radioDone (c : Core) (code : Nat) (m : Commit) : Core :=
  let marks := if code = 0 ∨ code = 4 ∨ code = 5 then
    16 * b2n m.held + 32 * b2n m.shifted + 64 * b2n (m.chcal && decide (code ≠ 4)) else 0
  let seq := (c.fld R.WR_TX_LAST.at 16 8 + 1) % 256
  let c1 := c.setNat R.WR_TX_LAST.at (code + marks + seq * 65536)
  let c2 := if code = 0 ∨ code = 4 ∨ code = 5 then c1.setNat R.WR_TX_LAST_TICK.at (m.x1 / 48) else c1
  let c3 := c2.setNat R.WR_TX_LAST_AIR.at (if m.charged then m.req.air else 0)
  match code with
  | 0 => ((c3.bump R.WR_TX_CNT.at).event 0x11 1).tally 37
  | 4 => (c3.bump R.WR_TX_LATE_CNT.at).event 0x11 2
  | 5 => c3.event 0x11 4
  | _ => (c3.bump R.WR_TX_REFUSE_CNT.at).event 0x11 3

/-- A request reaches the radio (R308): one that comes while another is committed waits for RX. -/
def Core.submit (c : Core) (r : TxReq) : Core :=
  { c with radio := { c.radio with requests := c.radio.requests ++ [{ r with queued := c.radio.commit.isSome }] } }

/-- The next request that the radio takes in this tick (R293, R308, R315). -/
def Core.nextRequest (c : Core) : Option TxReq :=
  match c.radio.requests with
  | [] => none
  | r :: _ =>
    if c.radio.commit.isNone && !c.radio.powerLost && !c.radio.change && decide (c.wrMode = 2) &&
        decide (c.radio.calEnd ≠ some (48 * c.now + calLength)) &&
        (decide (c.wrState = 2) && c.syn1Locked && !c.radio.calNext ||
          (decide (c.wrState = 3) && c.radio.calEnd.isSome || decide (c.wrState = 6) && c.syn1Locked) && !r.queued) &&
        (decide (r.origin ≠ 4) || decide (r.after ≤ c.now))
    then some r else none

/-! ### The fast AGC (R299 to R302) -/

/-- The external LNA's gain in whole dB, rounded up (R302). -/
def Core.extGain (c : Core) : Nat := (c.fld R.WR_EXT_LNA.at 0 7 + 3) / 4

/-- G after a step down, and LNA_BYP (R300, R302). -/
def Core.stepDown (c : Core) (g : Nat) : Nat × Bool :=
  let a := c.fld R.WR_AGC_CFG.at 2 6
  if bitOf (c.reg R.WR_AGC_CFG.at) 1 && !c.radio.byp && decide (g < a) then (g + c.extGain - a, true)
  else (g - a, c.radio.byp)

/-- G after a step up, and LNA_BYP. -/
def Core.stepUp (c : Core) (g : Nat) : Nat × Bool :=
  if c.radio.byp && decide (55 - c.extGain < g + 3) then (min 55 (g + 3 - c.extGain), false)
  else (min 55 (g + 3), c.radio.byp)

/-- The pending gain change lands on the first sample of a block while the AGC is not frozen (R299, R301). -/
def Core.landGain (c : Core) : Core :=
  match c.radio.gain with
  | some (t, g, byp) =>
    if decide (t ≤ c.now) && decide (c.now % 8 = 0) && decide (c.fld R.WR_AGC_STATUS.at 7 1 = 0) then
      let c1 := { c with radio := { c.radio with gain := none, byp := byp } }
      let c2 := c1.setFld R.WR_AGC_STATUS.at 0 6 g
      if decide (c2.fld R.WR_AGC_STATUS.at 6 1 = b2n byp) then c2 else c2.drivePin .lnaByp byp
    else c
  | none => c

/-! ### Background calibration (R314) -/

/-- STATE is RX, no lane holds a packet and no request is committed. -/
def Core.radioQuiet (c : Core) : Bool := decide (c.wrState = 2) && decide (c.packetLanes = 0) && c.radio.commit.isNone

/-- New values are applied. -/
def Core.applyBgcal (c : Core) (v : BgVals) : Core :=
  let c1 := { c with radio := { c.radio with eps := v.eps, phi := v.phi, fresh := none, warned := false } }
  let c2 := (c1.setNat R.WR_STEP_LAT.at v.stepLat.toNat).setNat R.WR_IRC.at v.irr.toNat
  (c2.stampTick R.WR_CAL_LAST_TICK.at).event 0x11 7

/-! ### What the radio does of itself at the start of a tick -/

/-- A committed request with a channel of its own starts its calibration 1967 fine cycles before t0 (R305). -/
def Core.commitCal (c : Core) : Core :=
  match c.radio.commit with
  | some m =>
    let t0 := m.x1 - turnOn
    if m.chcal && decide (c.wrState = 2) && decide ((t0 - calLength) / 48 = c.now) then
      (c.setChannel m.req.band m.req.chan (c.fld R.WR_STATUS.at 15 1)).calibrate t0
    else c
  | none => c

/-- The ramp start charges the airtime; the first chip leaves RFI_TX at x1 (R305, R307, R312). -/
def Core.commitAir (c : Core) : Core :=
  match c.radio.commit with
  | some m =>
    let start := m.x1 - rampLength
    let c1 := if decide (start / 48 = c.now) && !m.charged && decide (c.wrState = 4) then
        ({ c with radio := { c.radio with commit := some { m with charged := true } } }.chargeDuty m.req.band
          (start / bucketLength + 1) m.req.air).ramp true else c
    if decide (m.x1 / 48 = c.now) && decide (c1.wrState = 4) then
      let h := headerBytes m.req.len m.req.typ m.req.flags m.req.tag m.req.init
      (c1.setWr 5).put (.airFrame m.req.lane m.req.sf
        (if m.req.origin = 4 then [] else frameSymbols m.req.sf (c.fld R.WL_NET.at 0 6) h m.req.payload))
    else c1
  | none => c

/-- MODE and channel writes of the last tick are taken, and a calibration of the next tick starts (R292, R293, R303, R362). -/
def Core.takeMode (c : Core) : Core :=
  let ctrl := c.reg R.WR_CTRL.at
  let chan := fun x : Core => { x with radio := { x.radio with change := false } }.setChannel
    (fieldOf ctrl 2 2) (fieldOf ctrl 4 5) (fieldOf ctrl 9 1)
  if c.wrState = 0 then
    if c.wrMode = 0 then (if c.radio.change then chan c else c)
    else if c.syn0Runs then (chan c).calibrate (c.time + calLength) else c
  else if c.wrMode = 0 ∧ c.wrState ≤ 2 then
    (({ c with radio := { c.radio with calNext := false } }.setSyn1 false).setWr 0)
  else
    let c1 := if c.wrState ≤ 2 ∧ c.wrState ≠ c.wrHome then c.setWr c.wrHome else c
    if c1.radio.change && c1.radio.commit.isNone && (decide (c1.wrState ≤ 2) || c1.calStuck) then
      let c2 := chan c1
      if c2.syn0Runs then c2.calibrate (c2.time + calLength) else c2
    else if c1.radio.calNext && decide (c1.wrState ≤ 2) && c1.syn0Runs then c1.calibrate (c1.time + calLength)
    else c1

/-- What the radio does of itself at the start of a tick. -/
def Core.radioClock (c : Core) : Core :=
  if c.enabled 0x11 then (((c.takeMode.commitCal).duePins).commitAir).landGain else c

end Sys2Proof.Machine
end

