-- ==== Sys2Proof/Machine/LinkOps.lean ====
section
/-! DEFINITION. The shared operations of the Wamelon link: air slots and runs, the order of submission, records, peers, lane
loading and routes (R332 to R351). -/

namespace Sys2Proof.Machine

/-! ### Settings -/

/-- WL_CFG.EN. -/
def Core.linkOn (c : Core) : Bool := decide (c.fld R.WL_CFG.at 0 1 = 1)

/-- WL_CFG bit `b`. -/
def Core.wlBit (c : Core) (b : Nat) : Bool := decide (c.fld R.WL_CFG.at b 1 = 1)

/-- The link's track (R332). -/
def Core.linkTrack (c : Core) : Track := c.track (c.fld R.WL_SLOT_CFG.at 0 2)

/-- SLOT_EPOCHS. -/
def Core.slotEpochs (c : Core) : Nat := max 1 (c.fld R.WL_SLOT_CFG.at 8 8)

/-- The current air slot, counted from epoch 0 (R332). -/
def Core.slotNow (c : Core) : Nat := c.linkTrack.epoch / c.slotEpochs

/-- GUARD in fine cycles. -/
def Core.guardFine (c : Core) : Nat := c.fld R.WL_SLOT_CFG.at 16 16 * c.linkTrack.length16 / 65536 / 65536

/-- WL_NET.PRE_LEN. -/
def Core.preLen (c : Core) : Nat := c.fld R.WL_NET.at 8 5

/-- The hub's address. -/
def Core.hubAddr (c : Core) : Nat := (c.reg R.WL_HUB_ADDR.at).toNat

/-- The SF of lane `k` in a lane table (R336). -/
def tableSf (w : Word) (k : Nat) : Nat := 6 + fieldOf w (4 * k) 4

/-- The SF of lane `k` in force. -/
def Core.laneSf (c : Core) (k : Nat) : Nat := tableSf (c.reg R.WL_LANE_SF.at) k

/-! ### Runs (R333, R334) -/

/-- The direction of air slot `s` under two masks: 1 DL, 2 HUB, 0 UL. -/
def direction (dl hub : Word) (s : Nat) : Nat := if bitOf dl s then 1 else if bitOf hub s then 2 else 0

/-- The masks that hold in air frame `f`: the pending ones from their frame of effect. -/
def Core.masksIn (c : Core) (f : Nat) : Word × Word :=
  if c.fld R.WL_STATUS.at 2 1 = 1 ∧ (c.reg R.WL_MASK_FRAME.at).toNat ≤ f then
    (c.reg R.WL_DL_MASK_NEXT.at, c.reg R.WL_HUB_MASK_NEXT.at)
  else (c.reg R.WL_DL_MASK_CUR.at, c.reg R.WL_HUB_MASK_CUR.at)

/-- Slots from `s` on, at most `n`, of one direction `d`. -/
def runLength (dl hub : Word) (d : Nat) : Nat → Nat → Nat
  | 0, _ => 0
  | n + 1, s => if s < 32 ∧ direction dl hub s = d then 1 + runLength dl hub d n (s + 1) else 0

/-- Slots before `s` of direction `d`, unbroken. -/
def runBack (dl hub : Word) (d : Nat) : Nat → Nat
  | 0 => 0
  | s + 1 => if direction dl hub s = d then 1 + runBack dl hub d s else 0

/-- The instant of phase 0 of an epoch of the link's track, from the running epoch (R49, R58); fine cycles. -/
def Core.epochStart (c : Core) (e : Nat) : Nat :=
  let t := c.linkTrack
  (((t.start16 : Int) + ((e : Int) - t.epoch) * t.length16 + 65535) / 65536).toNat

/-- The run that holds the current air slot: none where the slot is UL. -/
def Core.runNow (c : Core) : Option Run :=
  let g := c.slotNow
  let m := c.masksIn (g / 32)
  let d := direction m.1 m.2 (g % 32)
  if d = 0 then none
  else
    let back := runBack m.1 m.2 d (g % 32)
    let ahead := runLength m.1 m.2 d 32 (g % 32)
    some { hub := decide (d = 2), start := c.epochStart ((g - back) * c.slotEpochs),
           slotEnd := c.epochStart ((g + ahead) * c.slotEpochs) - c.guardFine, slot := g - back }

/-- The first chip that a request of a run wants: the run's start plus GUARD, and the ramp (R334). -/
def Core.wantedChip (c : Core) (r : Run) : Nat := r.start + c.guardFine + rampLength

/-- A frame of `fd` fine cycles fits a run by itself (R334, R338). -/
def Core.fits (c : Core) (r : Run) (fd : Nat) : Bool := decide (c.wantedChip r + fd + rampLength ≤ r.slotEnd)

/-- A request may start in run `r` (R337, R338, R347). -/
def TxReq.mayUse (x : TxReq) (r : Run) : Bool := decide (x.after ≤ r.start) && decide (x.fromSlot ≤ r.slot)

/-- A run of direction `d` in slots `lo` to 31 of air frame `f` holds a frame of `fd` fine cycles, no earlier than slot `from_`. -/
def Core.frameFits (c : Core) (f d fd from_ : Nat) : Nat → Bool
  | 0 => false
  | n + 1 =>
    let s := 31 - n
    let m := c.masksIn f
    let first := decide (direction m.1 m.2 s = d) && (decide (s = 0) || decide (direction m.1 m.2 (s - 1) ≠ d))
    let g := f * 32 + s
    let r : Run := { hub := decide (d = 2), start := c.epochStart (g * c.slotEpochs),
                     slotEnd := c.epochStart ((g + runLength m.1 m.2 d 32 s) * c.slotEpochs) - c.guardFine, slot := g }
    (first && decide (from_ ≤ g) && c.fits r fd) || c.frameFits f d fd from_ n

/-- A send fits a run of the current air frame or of the next three (R338): the run in progress too where it may start at once. While
the track has no epochs the link holds every request (R332). -/
def Core.sendFits (c : Core) (d fd from_ : Nat) (atOnce : Bool) : Bool :=
  if !c.linkTrack.hasEpochs then true
  else
    let f := c.slotNow / 32
    let here := match c.link.run with
      | some r => atOnce && decide (r.hub = decide (d = 2)) &&
          decide (max (c.wantedChip r) (48 * (c.now + 1) + turnOn) + fd + rampLength ≤ r.slotEnd)
      | none => false
    here || (List.range 4).any (fun i => c.frameFits (f + i) d fd
      (max from_ (if c.link.slot = some c.slotNow then c.slotNow + 1 else c.slotNow)) 32)

/-! ### Records (R345, R346) -/

/-- A record of the link. -/
def Core.linkRecord (c : Core) (typ source sub stamp due : Nat) (more : Bool) (payload : List Byte) : Core :=
  c.emit { stamp := stamp, typ := typ, source := source, stall := false, sub := sub, more := more, payload := payload,
           due := some due }

/-- Fine cycles from a record's stamp to its deadline: 100 ms (R346). -/
def linkDeadline : Nat := 4915200

/-- A WL_PEER record (R345). -/
def Core.peerRecord (c : Core) (sub index : Nat) (p : PeerRec) : Core :=
  c.linkRecord 0x33 p.lane sub c.time (c.time + linkDeadline) false
    (leBytes 4 p.addr.toNat ++ leBytes 2 index ++ leBytes 1 p.lane ++ leBytes 1 p.sf)

/-- A WL_TX record (R345). -/
def Core.txRecord (c : Core) (code : Nat) (m : Commit) : Core :=
  let r := m.req
  let stamp := if m.charged then m.x1 else c.time
  c.linkRecord 0x32 r.lane code stamp (c.time + linkDeadline) false
    (leBytes 1 r.lane ++ leBytes 1 r.sf ++ leBytes 1 r.len ++ leBytes 1 (r.typ % 16 + 16 * r.flags) ++ leBytes 4 r.dst ++
      leBytes 4 r.air ++ leBytes 1 (b2n m.held + 2 * b2n m.shifted + 4 * b2n m.chcal + 8 * b2n r.again) ++
      leBytes 1 r.origin ++ leBytes 2 (if r.origin = 0 then r.seq else 0))

/-! ### Peers (R343) -/

/-- An entry of the peer table. -/
def Core.peer (c : Core) (i : Nat) : PeerRec := Table.get (fun _ => {}) c.peers i

/-- An entry changes; WL_PEER_COUNT follows. -/
def Core.setPeer (c : Core) (i : Nat) (p : PeerRec) : Core :=
  let c1 := { c with peers := Table.set (fun _ => {}) c.peers i p }
  c1.setNat R.WL_PEER_COUNT.at c1.peers.length

/-- The index of an address. -/
def Core.findPeer (c : Core) (a : Word) : Option Nat :=
  (c.peers.find? (fun e => decide (e.2.st ≠ 0) && decide (e.2.addr = a))).map (·.1)

/-- The lowest key that a table does not list, from `k` up. -/
def firstGap {α : Type} : Table α → Nat → Nat
  | [], k => k
  | (k', _) :: r, k => if k' = k then firstGap r (k + 1) else k

/-- The entry that the next peer takes. -/
def Core.freePeer (c : Core) : Option Nat := if firstGap c.peers 0 < 4096 then some (firstGap c.peers 0) else none

/-! ### Submission (R308, R334, R337, R338) -/

/-- The frame number that the hub's next frame carries as TAG. -/
def Core.takeTag (c : Core) : Nat × Core := (c.link.tag, { c with link := { c.link with tag := (c.link.tag + 1) % 256 } })

/-- The bytes of a link header and a body (R324). -/
def linkPayload (src dst port : Nat) (body : List Byte) : List Byte := leBytes 4 src ++ leBytes 4 dst ++ leBytes 1 port ++ body

/-- F_d of a request. -/
def Core.requestFd (c : Core) (r : TxReq) : Nat := frameTime r.sf c.preLen r.len

/-- The SF of a request that follows the lane table. -/
def Core.bySlot (c : Core) (r : TxReq) : TxReq := if r.byTable then { r with sf := c.laneSf r.lane } else r

/-- The beacon of an air frame (R336); its payload is encoded when x1′ is fixed. -/
def Core.beaconReq (c : Core) : TxReq × Core :=
  let t := c.takeTag
  ({ origin := 2, lane := c.fld R.WL_BEACON.at 0 3, sf := 6 + c.fld R.WL_BEACON.at 4 3, len := 28, typ := 3, tag := t.1,
     dst := 0xFFFFFFFF }, t.2)

/-- The bytes of a beacon whose ramp starts at `x` (R336). -/
def Core.beaconBytes (c : Core) (x : Nat) : List Byte :=
  let t := c.linkTrack
  let f := c.slotNow / 32
  let phase := ((x * 65536 - t.start16) % t.length16) * 65536 / t.length16
  let coast := match t.state with | .coast => true | .requal => true | _ => false
  leBytes 4 c.hubAddr ++ leBytes 4 f ++ leBytes 4 (f * 32 * c.slotEpochs) ++ leBytes 2 phase ++ leBytes 1 c.slotEpochs ++
    leBytes 1 (b2n coast + 2 * b2n (c.wlBit 4)) ++ leBytes 4 (c.reg R.WL_DL_MASK_CUR.at).toNat ++
    leBytes 4 (c.reg R.WL_HUB_MASK_CUR.at).toNat ++ leBytes 4 (c.reg R.WL_LANE_SF.at).toNat

/-- Split a list at the first element that satisfies `f`. -/
def takeFirst {α : Type} (f : α → Bool) : List α → Option (α × List α)
  | [] => none
  | a :: r => if f a then some (a, r) else (takeFirst f r).map (fun x => (x.1, a :: x.2))

/-- The next request of a run, in the order of R338: beacon, ACKs, host sends; in a HUB run the forwarded frames. -/
def Core.nextItem (c : Core) (r : Run) : Option (TxReq × Core) :=
  let may := fun x : TxReq => x.mayUse r && c.fits r (c.requestFd (c.bySlot x))
  if r.hub then
    (takeFirst may c.link.relays).map (fun x => (x.1, { c with link := { c.link with relays := x.2 } }))
  else if c.wlBit 3 && decide (c.link.beaconed ≠ some (r.slot / 32)) then
    let b := c.beaconReq
    some (b.1, { b.2 with link := { b.2.link with beaconed := some (r.slot / 32) } })
  else match takeFirst (fun x => x.mayUse r) c.link.acks with
    | some x => some (x.1, { c with link := { c.link with acks := x.2 } })
    | none => (takeFirst may c.link.sends).map (fun x => (x.1, { c with link := { c.link with sends := x.2 } }))

/-- Within a run the link submits one request at a time (R338). -/
def Core.pump (c : Core) : Core :=
  match c.link.run with
  | none => c
  | some r =>
    if c.link.busy || !c.linkOn then c
    else match c.nextItem r with
      | none => c
      | some (x, d) =>
        let y := d.bySlot x
        let z := { y with band := d.channelNow.1, chan := d.channelNow.2, x1 := d.wantedChip r, slotEnd := r.slotEnd,
                          fd := d.requestFd y, pwr := d.fld R.WR_TX_PWR.at 0 6 }
        ({ d with link := { d.link with busy := true } }).submit z

/-- The result bytes of WL_SEND and WL_FORWARD (R347). -/
def sendResult (x1 : Nat) (r : TxReq) (code : Nat) : List Byte :=
  leBytes 4 (x1 / 48) ++ leBytes 1 r.lane ++ leBytes 1 r.sf ++ leBytes 1 code ++ leBytes 1 r.tag

/-- A host send that completes TX_LATE is placed once more, with RETRY (R338). -/
def Core.sendAgain (c : Core) (r : TxReq) : Core :=
  let y := { r with again := true, flags := r.flags ||| 4, queued := false,
                    after := match c.link.run with | some x => x.start + 1 | none => r.after }
  if y.typ = 4 then { c with link := { c.link with relays := y :: c.link.relays } }
  else { c with link := { c.link with sends := y :: c.link.sends } }

/-- A request of the link has completed at the radio (R338, R345, R347). -/
def Core.linkDone (c : Core) (code : Nat) (m : Commit) : Core :=
  let r := m.req
  if r.origin = 4 then c
  else
    let c1 := (c.txRecord code m).event 0x12 2
    let c2 := { c1 with link := { c1.link with busy := false } }
    let c3 :=
      if r.origin = 1 ∧ code = 4 then c2.bump R.WL_ACK_DROP.at
      else if r.origin = 0 ∧ code = 4 ∧ r.again = false ∧ c2.linkOn = true then c2.sendAgain r
      else if r.opcode ≠ 0 then c2.effectDone r.opcode r.id 8 (if code = 0 then 0 else 7) (sendResult m.x1 r code)
      else c2
    c3.pump

/-- A request completes: the radio's registers, then the link (R308, R338). -/
def Core.completeTx (c : Core) (code : Nat) (m : Commit) : Core := (c.radioDone code m).linkDone code m

/-! ### Lane loading and assignment (R339 to R341) -/

/-- N_k in 1/256 dBm. -/
def Core.laneNoise (c : Core) (k : Nat) : Int := signedOf 16 (c.fld (R.WL_NOISE.at k) 0 16)

/-- MARGIN in 1/256 dB. -/
def Core.loadMargin (c : Core) : Int := (c.fld R.WL_LOAD_CFG.at 8 8 : Nat) * 256

/-- The smallest SF from 6 to 12 that satisfies `f`. -/
def smallestSf (f : Nat → Bool) : Option Nat := ((List.range 7).map (· + 6)).find? f

/-- SF_c(k) (R340). -/
def Core.candidateSf (c : Core) (k : Nat) : Nat :=
  (smallestSf (fun sf => decide (c.laneNoise k + snrReq sf + c.loadMargin ≤ signedOf 8 (c.fld R.WL_LOAD_CFG.at 0 8) * 256))).getD 12

/-- The next SF of lane `k` and its count of lower candidates (R340). -/
def Core.nextSf (c : Core) (k : Nat) : Nat × Nat :=
  let sf := c.laneSf k
  let want := c.candidateSf k
  let n := Table.get (fun _ => 0) c.link.lower k + 1
  if sf < want then (want, 0)
  else if want < sf then (if c.fld R.WL_LOAD_CFG.at 16 8 ≤ n then (sf - 1, 0) else (sf, n))
  else (sf, 0)

/-- The lanes at which two tables differ. -/
def lanesChanged (a b : Word) : Nat :=
  ((List.range 8).map (fun k => if fieldOf a (4 * k) 4 = fieldOf b (4 * k) 4 then 0 else 2 ^ k)).sum

/-- The lane table at the start of air frame `f` (R340): LT′ comes into force and the next one is set. -/
def Core.loadTable (c : Core) (f : Nat) : Core :=
  if !c.wlBit 3 then c
  else
    let c1 := c.setReg R.WL_LANE_SF.at (c.reg R.WL_LANE_SF_NEXT.at)
    let next := (List.range 8).map c1.nextSf
    let auto := BitVec.ofNat 32 ((next.zipIdx.map (fun e => (e.1.1 - 6) * 16 ^ e.2)).sum)
    let lower := next.zipIdx.foldl (fun t e => Table.set (fun _ => 0) t e.2 e.1.2) c1.link.lower
    let w := if c1.wlBit 6 then auto else c1.reg R.WL_LANE_SF_MAN.at
    let c2 := if c1.wlBit 6 then { c1 with link := { c1.link with lower := lower } } else c1
    let c3 := c2.setReg R.WL_LANE_SF_NEXT.at w
    if w = c3.reg R.WL_LANE_SF.at then c3
    else
      (c3.linkRecord 0x34 0xFF 0 c3.time (c3.time + linkDeadline) false
        (leBytes 4 w.toNat ++ leBytes 4 (f + 1) ++ leBytes 1 (lanesChanged w (c3.reg R.WL_LANE_SF.at)))).event 0x12 5

/-- Insertion into a rising list. -/
def insertInt (x : Int) : List Int → List Int
  | [] => [x]
  | y :: r => if x ≤ y then x :: y :: r else y :: insertInt x r

/-- A list in rising order. -/
def sortInts (l : List Int) : List Int := l.foldl (fun a x => insertInt x a) []

/-- WL_NOISE: the 90th percentile, by nearest rank, of each lane's last 64 windows (R339). -/
def Core.showNoise (c : Core) : Core :=
  (List.range 8).foldl (fun d k =>
    let l := sortInts (Table.get (fun _ => []) d.link.noise k)
    if l.isEmpty then d
    else d.setNat (R.WL_NOISE.at k) (codeOf 16 ((l[(9 * l.length + 9) / 10 - 1]?).getD 0))) c

/-- SF_need(p, k) of R341; 13 where no SF suffices. -/
def Core.sfNeed (c : Core) (p : PeerRec) (k : Nat) : Nat :=
  (smallestSf (fun sf => decide (snrReq sf + c.loadMargin ≤ p.rssi.toInt - c.laneNoise k))).getD 13

/-- The lane and uplink SF that R341 assigns. -/
def Core.assignment (c : Core) (p : PeerRec) : Nat × Nat :=
  let w := c.reg R.WL_LANE_SF_NEXT.at
  let good := (List.range 8).filter (fun k => decide (c.sfNeed p k ≤ tableSf w k))
  let best := fun (l : List Nat) (f : Nat → Nat → Bool) =>
    l.foldl (fun (b : Option Nat) k => match b with | none => some k | some j => if f (tableSf w k) (tableSf w j) then some k else b) none
  let lane := match best good (fun x y => decide (x < y)) with
    | some k => k
    | none => (best (List.range 8) (fun x y => decide (y < x))).getD 0
  (lane, (smallestSf (fun sf => decide (snrReq sf + c.loadMargin ≤ p.snr.toInt))).getD 12)

/-- The frame that tells a peer its new assignment (R341). -/
def Core.assignReq (c : Core) (p : PeerRec) (lane sf : Nat) : TxReq × Core :=
  let t := c.takeTag
  ({ origin := 0, lane := p.lane, byTable := true, sf := c.laneSf p.lane, len := 10, typ := 1, tag := t.1, dst := p.addr.toNat,
     payload := linkPayload c.hubAddr p.addr.toNat 0 [BitVec.ofNat 8 (lane + 16 * (sf - 6))] }, t.2)

/-- The review of one peer's assignment (R341). -/
def Core.reviewPeer (c : Core) (i : Nat) : Core :=
  let p := c.peer i
  let a := c.assignment p
  if a = (p.lane, p.sf) then c.setPeer i { p with pending := none }
  else if p.pending = some a then c
  else
    let q := c.assignReq p a.1 a.2
    let c1 := q.2.setPeer i { p with pending := some a, tagTx := q.1.tag }
    { c1 with link := { c1.link with sends := c1.link.sends ++ [q.1] } }

/-- The review at an air-frame boundary (R341). -/
def Core.reviewPeers (c : Core) : Core :=
  if c.wlBit 5 then (c.peers.filter (fun e => decide (e.2.st = 2))).foldl (fun d e => d.reviewPeer e.1) c else c

/-! ### Frequency correction (R342) -/

/-- The median of a list: the mean of the two middle values, rounded down, of an even one. -/
def median (l : List Int) : Int :=
  let s := sortInts l
  let n := s.length
  if n % 2 = 1 then (s[n / 2]?).getD 0 else ((s[n / 2 - 1]?).getD 0 + (s[n / 2]?).getD 0) / 2

/-- The AFC at an air-frame boundary (R342): the correction waits for a quiet tick. -/
def Core.afcFrame (c : Core) : Core :=
  let l := c.link.offsets
  let c1 := { c with link := { c.link with offsets := [] } }
  if c.fld R.WL_AFC.at 0 1 = 0 ∨ l = [] then c1
  else
    let m := median l
    let c2 := c1.setFld R.WL_AFC.at 16 16 (codeOf 16 m)
    if l.length < 8 then c2 else { c2 with link := { c2.link with fofs := some ((m + 1) / 2) } }

/-! ### Routes (R344, R351) -/

/-- The next hub toward an address: the lowest valid entry that matches. -/
def Core.route (c : Core) (dst : Word) : Option Word :=
  ((List.range 16).find? (fun i => bitOf (c.reg R.WL_ROUTE_VALID.at) i &&
    decide (dst &&& c.reg (R.WL_ROUTE_MASK.at i) = c.reg (R.WL_ROUTE_PREFIX.at i)))).map (fun i => c.reg (R.WL_ROUTE_NEXT.at i))

end Sys2Proof.Machine
end

