-- ==== Sys2Proof/Machine/Radio.lean ====
section
/-! DEFINITION. The commands of the Wamelon radio and of the Regulatory Lock's soft registers (R291 to R318, R361, R362). -/

namespace Sys2Proof.Machine

/-! ### Mode, channel and offset -/

/-- A write of WR_CTRL (R291, R292, R303, R316): MODE 3, BAND 3 and a channel outside the band are refused; MODE 0 or 1 is refused
in STATES 3 to 6 and while a request is committed; another channel is refused in STATES 3 to 6, but for a radio that a failed
calibration has left in CAL. -/
def wrCtrlWrite (c : Core) (v : Word) : Core × Bool :=
  let old := c.reg R.WR_CTRL.at
  let mode := fieldOf v 0 2
  let chan := fieldOf v 4 5
  let other := decide (fieldOf v 2 8 ≠ fieldOf old 2 8)
  let busy := c.wrBusy
  if mode = 3 ∨ fieldOf v 2 2 = 3 ∨ bandChannels (fieldOf v 2 2) ≤ chan then c.refusePage 0x11
  else if mode ≠ fieldOf old 0 2 ∧ mode < 2 ∧ (busy = true ∨ c.radio.commit.isSome = true) then c.refusePage 0x11
  else if other && busy && !c.calStuck then c.refusePage 0x11
  else
    let c1 := c.setReg R.WR_CTRL.at (v &&& 0x3FF)
    (if other || c.calStuck then { c1 with radio := { c1.radio with change := true } } else c1, true)

/-- WR_MODE_WRITE (R292). -/
def execWrModeWrite (port : Port) (v : Word) (s : State) : Host.Outcome State Fault Refusal :=
  s.write port R.WR_CTRL R.WR_CTRL.at v wrCtrlWrite

/-- WR_CHANNEL_WRITE (R293, R303). -/
def execWrChannelWrite (port : Port) (v : Word) (s : State) : Host.Outcome State Fault Refusal :=
  s.write port R.WR_CTRL R.WR_CTRL.at v wrCtrlWrite

/-- A write of WR_FOFS (R303): −20 000 to +20 000 Hz. -/
def wrFofsWrite (c : Core) (v : Word) : Core × Bool :=
  let x := signedOf 16 (fieldOf v 0 16)
  if x < -20000 ∨ 20000 < x then c.refusePage 0x11 else (c.setReg R.WR_FOFS.at (v &&& 0xFFFF), true)

/-- WR_FOFS_WRITE (R303). -/
def execWrFofsWrite (port : Port) (v : Word) (s : State) : Host.Outcome State Fault Refusal :=
  s.write port R.WR_FOFS R.WR_FOFS.at v wrFofsWrite

/-- A calibration's confirmation completes (R303, R361): the radio enters RX or IDLE, or stays for the t0 that follows at once. -/
def Core.calPassed (c : Core) (e : Nat) : Core :=
  let c1 := c.dropCal
  let rise := !c1.syn1Locked
  let c2 := ((c1.setSyn1 true).bump R.WR_CAL_CNT.at).event 0x11 0
  let c3 := if rise then c2.event 2 8 else c2
  let waits := match c3.radio.commit with | some m => decide (m.x1 - turnOn ≤ e) | none => false
  if waits then c3 else (c3.setWr c3.wrHome).commitCal

/-- A calibration's confirmation fails (R303): it is repeated once; then the radio stays in CAL without lock. -/
def Core.calFailed (c : Core) (e : Nat) : Core :=
  if c.radio.calAgain then c.unplace.dropCal.syn1Lost
  else
    let c1 := c.unplace
    { c1 with radio := { c1.radio with calEnd := some (e + calLength), calAgain := true } }

/-- SYN1_CAL_END (R303, R361). -/
def execSyn1CalEnd (ok : Bool) (s : State) : Host.Outcome State Fault Refusal :=
  s.act 0x11 (fun c =>
    match c.radio.calEnd with
    | some e => if c.wrState = 3 ∧ e / 48 = c.now then (if ok then c.calPassed e else c.calFailed e) else c
    | none => c)

/-! ### Transmission -/

/-- The radio takes request `r` (R308). -/
def Core.takeRequest (c : Core) (r0 : TxReq) : Core :=
  let c1 := { c with radio := { c.radio with requests := c.radio.requests.drop 1 } }
  let r := if r0.origin = 4 then { r0 with band := c.channelNow.1, chan := c.channelNow.2 } else r0
  let m := c1.place r
  match c1.txCheck r with
  | 0 =>
    let m1 := if r.origin = 2 then { m with req := { r with payload := c1.beaconBytes (m.x1 - rampLength) } } else m
    { c1 with radio := { c1.radio with commit := some m1, requests := c1.radio.requests.map (fun x : TxReq => { x with queued := true }) } }
  | 4 => c1.completeTx 4 { m with chcal := false }
  | code => c1.completeTx code { m with chcal := false, held := false, shifted := false }

/-- TX_REQUEST (R293, R308 to R312). -/
def execTxRequest (s : State) : Host.Outcome State Fault Refusal :=
  s.act 0x11 (fun c => match c.nextRequest with | some r => c.takeRequest r | none => c)

/-- TX_TURN_START (R305): t0 of the committed request. -/
def execTxTurnStart (s : State) : Host.Outcome State Fault Refusal :=
  s.act 0x11 (fun c =>
    match c.radio.commit with
    | some m =>
      let t0 := m.x1 - turnOn
      if t0 / 48 = c.now ∧ (c.wrState = 2 ∨ (c.wrState = 3 ∧ c.radio.calEnd.isNone = true)) then
        ((c.setWr 4).drivePin .lnaByp true).pinsAt [(t0 + 384, .trSel, true), (t0 + 768, .paEn, true)]
      else c
    | none => c)

/-- The pins of a ramp-down that begins at `e0` (R306). -/
def downPins (e0 : Nat) : List (Nat × Pin × Bool) :=
  [(e0 + 787, .paEn, false), (e0 + 1171, .trSel, false), (e0 + 1555, .lnaByp, false)]

/-- The ramp-down of R306 begins at `e0`. -/
def Core.rampDown (c : Core) (e0 : Nat) : Core :=
  let c1 := { c with radio := { c.radio with commit := none, ended := some e0, pins := downPins e0 } }
  (c1.setWr 6).ramp false

/-- TX_END (R306, R308): the last chip ends, and the request completes with TX_OK. -/
def execTxEnd (s : State) : Host.Outcome State Fault Refusal :=
  s.act 0x11 (fun c =>
    match c.radio.commit with
    | some m =>
      let e0 := m.x1 + m.req.fd
      if e0 / 48 = c.now ∧ c.wrState = 5 then (c.rampDown e0).completeTx 0 m else c
    | none => c)

/-- TURN_RX_END (R306): the first valid sample. -/
def execTurnRxEnd (s : State) : Host.Outcome State Fault Refusal :=
  s.act 0x11 (fun c =>
    match c.radio.ended with
    | some e =>
      if c.wrState = 6 ∧ (e + turnBack) / 48 = c.now then
        let c1 := { c with radio := { c.radio with ended := none, calNext := !c.syn1Locked,
                                                   requests := c.radio.requests.map (fun x : TxReq => { x with queued := false }) } }
        (c1.setWr 2).commitCal
      else c
    | none => c)

/-- SYN1 loses lock in TURN_TX or TX (R315): the carrier is gated, PA_EN falls at once and TR_SEL 384 fine cycles later; the full
airtime is charged. -/
def Core.cutByLock (c : Core) (m : Commit) (recal : Bool) : Core :=
  let c1 := if m.charged then c else c.chargeDuty m.req.band ((m.x1 - rampLength) / bucketLength + 1) m.req.air
  let c2 := { c1 with radio := { c1.radio with commit := none, calNext := recal,
                                               pins := [(c.time + 384, .trSel, false), (c.time + 768, .lnaByp, false)] } }
  let c3 := ((c2.ramp false).drivePin .paEn false).syn1Lost
  (c3.setWr 2).completeTx 5 { m with charged := true }

/-- SYN1 loses lock in any state (R315, R362, R369). -/
def Core.loseSyn1 (c : Core) (recal : Bool) : Core :=
  match c.radio.commit with
  | some m => if c.wrState = 4 ∨ c.wrState = 5 then c.cutByLock m recal else c.syn1Unlocked recal
  | none => c.syn1Unlocked recal

/-- PWRFAIL_N at the radio (R315): a transmission ramps down from the next fine cycle, a committed request completes unsent, and no
request is taken until reset. -/
def Core.radioPowerFail (c : Core) : Core :=
  let c1 := { c with radio := { c.radio with powerLost := true } }
  match c1.radio.commit with
  | some m =>
    if c1.wrState = 4 ∨ c1.wrState = 5 then (c1.rampDown (c1.time + 1)).completeTx 5 m
    else { c1 with radio := { c1.radio with commit := none } }.completeTx 5 m
  | none => c1

/-- TX_CUT (R315). -/
def execTxCut (power : Bool) (s : State) : Host.Outcome State Fault Refusal :=
  s.act 0x11 (fun c =>
    if power then (if c.radio.powerLost then c else c.radioPowerFail)
    else if c.wrState = 4 ∨ c.wrState = 5 then c.loseSyn1 true else c)

/-- SYN1_UNLOCK (R362): in RX, and in IDLE, the channel in force is calibrated from the next tick. -/
def execSyn1Unlock (s : State) : Host.Outcome State Fault Refusal :=
  s.act 0x11 (fun c => if c.syn1Locked ∧ (c.wrState = 1 ∨ c.wrState = 2 ∨ c.wrState = 6) then c.loseSyn1 true else c)

/-- A write of WR_TEST (R316): GO places an unmodulated carrier of LEN ms, 1 to 1000, from the next tick on. -/
def wrTestWrite (c : Core) (v : Word) : Core × Bool :=
  let len := fieldOf v 0 10
  if bitOf v 16 && (decide (len = 0) || decide (1000 < len)) then c.refusePage 0x11
  else
    let c1 := c.setReg R.WR_TEST.at (v &&& 0x3FF)
    let x := 48 * (c.now + 1)
    (if bitOf v 16 then
        c1.submit { x1 := x, slotEnd := x + 49152000, fd := len * 49152, pwr := c.fld R.WR_TX_PWR.at 0 6, origin := 4, after := c.now + 1 }
      else c1, true)

/-- WR_TEST_GO (R316). -/
def execWrTestGo (port : Port) (v : Word) (s : State) : Host.Outcome State Fault Refusal :=
  s.write port R.WR_TEST R.WR_TEST.at v wrTestWrite

/-- A write of WR_TX_PWR (R304, R311): codes 0 to 48 within the ceiling of the band in force. -/
def wrTxPwrWrite (c : Core) (v : Word) : Core × Bool :=
  let p := fieldOf v 0 6
  if 48 < p ∨ c.powerOk p c.channelNow.1 = false then c.refusePage 0x11 else (c.setReg R.WR_TX_PWR.at (v &&& 0x3F), true)

/-- A write of WR_PA_CFG (R315, R316): refused in STATES 4 to 6; the pins that stand idle follow a new polarity and RAMP_IDLE. -/
def wrPaCfgWrite (c : Core) (v : Word) : Core × Bool :=
  if 4 ≤ c.wrState ∧ c.wrState ≤ 6 then c.refusePage 0x11
  else
    let old := c.reg R.WR_PA_CFG.at
    let c1 := c.setReg R.WR_PA_CFG.at (v &&& 0x3FF3FF7)
    let flip := fun (b : Nat) (p : Pin) (on : Bool) (x : Core) => if bitOf old b = bitOf v b then x else x.drivePin p on
    let c2 := flip 2 .lnaByp (decide (c.fld R.WR_AGC_STATUS.at 6 1 = 1)) (flip 1 .trSel false (flip 0 .paEn false c1))
    (if fieldOf old 16 10 = fieldOf v 16 10 then c2 else c2.ramp false, true)

/-! ### AGC -/

/-- WR_AGC_BLOCK (R300 to R302): a block of 96 samples has ended at the start of this tick. -/
def execWrAgcBlock (clips : Nat) (peak mean : Int) (s : State) : Host.Outcome State Fault Refusal :=
  s.act 0x11 (fun c =>
    if c.now % 8 ≠ 0 ∨ c.wrState ≠ 2 ∨ c.syn1Locked = false then c
    else
      let frozen := decide (c.fld R.WR_AGC_STATUS.at 7 1 = 1)
      let c1 := if 0 < clips then (c.bump R.WR_CLIP_CNT.at).event 0x11 5 else c
      let c2 := if 0 < clips && frozen then (c1.bumpBy R.WR_FRZ_CLIP_CNT.at clips).event 0x11 6 else c1
      let target : Int := c.fld R.WR_AGC_CFG.at 18 6
      let quiet := if mean < -(target + 10) * 256 then c.radio.quiet + 1 else 0
      let c3 := { c2 with radio := { c2.radio with quiet := quiet } }
      if frozen || decide (c.fld R.WR_AGC_CFG.at 0 1 = 0) || c.radio.gain.isSome then c3
      else
        let g := c.fld R.WR_AGC_STATUS.at 0 6
        let next :=
          if 0 < clips ∨ (6 - target) * 256 < peak then some (c.stepDown g)
          else if 8 * c.fld R.WR_AGC_CFG.at 8 4 ≤ quiet then some (c.stepUp g)
          else none
        match next with
        | some x => { c3 with radio := { c3.radio with gain := some (c.now + 16, x.1, x.2) } }
        | none => c3)

/-- A write of WR_AGC_CFG (R300, R316): G_MAN lands on the first block at or after 48 × (t + 2). -/
def wrAgcCfgWrite (c : Core) (v : Word) : Core × Bool :=
  let attack := fieldOf v 2 6
  let target := fieldOf v 18 6
  if attack = 0 ∨ 24 < attack ∨ fieldOf v 8 4 = 0 ∨ 55 < fieldOf v 12 6 ∨ target < 6 ∨ 30 < target then c.refusePage 0x11
  else
    let c1 := c.setReg R.WR_AGC_CFG.at (v &&& 0xFFFFFF)
    (if bitOf v 0 then c1
      else { c1 with radio := { c1.radio with gain := some (c.now + 2, fieldOf v 12 6, c.radio.byp) } }, true)

/-- WR_G_MAN_WRITE (R300). -/
def execWrGManWrite (port : Port) (v : Word) (s : State) : Host.Outcome State Fault Refusal :=
  s.write port R.WR_AGC_CFG R.WR_AGC_CFG.at v wrAgcCfgWrite

/-! ### Background calibration and the duty window -/

/-- BGCAL_APPLY (R314): new values, or waiting ones, are applied in a quiet RX tick; else they wait. -/
def execBgcalApply (values : Option BgVals) (s : State) : Host.Outcome State Fault Refusal :=
  s.act 0x11 (fun c =>
    match values, c.radio.fresh with
    | some v, w =>
      if c.radioQuiet then c.applyBgcal v
      else { c with radio := { c.radio with fresh := some v, freshAt := if w.isSome then c.radio.freshAt else c.now } }
    | none, some v => if c.radioQuiet then c.applyBgcal v else c
    | none, none => c)

/-- BGCAL_WAIT (R314): the values have waited 60 s. -/
def execBgcalWait (s : State) : Host.Outcome State Fault Refusal :=
  s.act 0x11 (fun c =>
    if c.radio.fresh.isSome && !c.radio.warned && decide (c.radio.freshAt + 61440000 ≤ c.now) then
      ({ c with radio := { c.radio with warned := true } }).event 0x11 8
    else c)

/-- DUTY_BUCKET_END (R312, R313). -/
def execDutyBucketEnd (s : State) : Host.Outcome State Fault Refusal :=
  s.act 0x11 (fun c =>
    if c.now % 1024000 = 0 then
      ({ c with radio := { c.radio with duty := c.radio.duty.filter (fun e => c.inWindow e.2.1) } }).showDuty
    else c)

/-- The soft lock's registers (R318). -/
def softRow (k : Nat) : RegRow × Nat :=
  match k with
  | 0 => (R.RL_SOFT_PWR, R.RL_SOFT_PWR.at)
  | 1 => (R.RL_SOFT_DUTY, R.RL_SOFT_DUTY.at 0)
  | 2 => (R.RL_SOFT_DUTY, R.RL_SOFT_DUTY.at 1)
  | 3 => (R.RL_SOFT_DUTY, R.RL_SOFT_DUTY.at 2)
  | _ => (R.RL_SOFT_CHMASK, R.RL_SOFT_CHMASK.at)

/-- A write of a soft lock register (R310): the remaining allowance follows. -/
def rlSoftWrite (k : Nat) (c : Core) (v : Word) : Core × Bool :=
  let d := plainWrite (softRow k).1 (softRow k).2 c v
  (d.1.showDuty, d.2)

/-- RL_SOFT_WRITE (R310). -/
def execRlSoftWrite (port : Port) (k : Fin 5) (v : Word) (s : State) : Host.Outcome State Fault Refusal :=
  s.write port (softRow k).1 (softRow k).2 v (rlSoftWrite k)

/-- A soft reset of WRAD outside STATES 3 to 6 (R20, R315): the radio returns to its reset state; waiting requests are discarded, and
the calibrated values and the duty window stay. -/
def Core.radioReset (c : Core) : Core :=
  let c1 := { c with radio := { eps := c.radio.eps, phi := c.radio.phi, powerLost := c.radio.powerLost, duty := c.radio.duty },
                     detectors := [] }
  ((c1.setSyn1 false).setFld R.SYN1_STATUS.at 1 1 0).setWr 0

end Sys2Proof.Machine
end

