-- ==== Sys2Proof/Machine/Link.lean ====
section
/-! DEFINITION. The commands of the Wamelon link: reception, air slots and frames, peers, and opcodes 0x40 to 0x44 (R329 to
R352). -/

namespace Sys2Proof.Machine

/-! ### Detection (R329, R330) -/

/-- An instance is free to detect: in SEARCH and not retired by self-test (R423, R427). -/
def Core.detectorFree (c : Core) (k : Nat) : Bool := decide ((c.detector k).st = 0) && !c.regionRetired (0x160 + k)

/-- PREAMBLE_DETECT (R329): the lower-numbered free instance of the lane and SF takes it. -/
def execPreambleDetect (lane : Fin 8) (sf : Fin 7) (s : State) : Host.Outcome State Fault Refusal :=
  s.act 0x12 (fun c =>
    if c.wrState ≠ 2 ∨ c.syn1Locked = false then c
    else if c.detectorFree (detectorKey lane sf 0) then c.setDetector (detectorKey lane sf 0) { st := 1 }
    else if c.detectorFree (detectorKey lane sf 1) then c.setDetector (detectorKey lane sf 1) { st := 1 }
    else c.bump R.WL_DET_BUSY.at)

/-- FALSE_START (R329). -/
def execFalseStart (lane : Fin 8) (sf : Fin 7) (inst : Fin 2) (s : State) : Host.Outcome State Fault Refusal :=
  s.act 0x12 (fun c =>
    if (c.detector (detectorKey lane sf inst)).st = 1 then
      (c.setDetector (detectorKey lane sf inst) {}).bump R.WL_FALSE_START.at
    else c)

/-- Fine cycles in which a reception's records become visible: 10 ms (R346). -/
def rxDeadline : Nat := 491520

/-- A WL_RX_FAIL record (R345). -/
def Core.rxFail (c : Core) (cause lane sf len stamp stop : Nat) (m : RxMeas) : Core :=
  (c.linkRecord 0x31 lane cause stamp (stop + rxDeadline) false
    (leBytes 1 sf ++ leBytes 1 len ++ leBytes 6 0 ++ leBytes 2 m.rssi.toNat ++ leBytes 2 m.snr.toNat ++ leBytes 2 m.cfo.toNat)).event
    0x12 1

/-- The stamp of a reception (R298, R331). -/
def Core.rxStamp (c : Core) (sf mark : Nat) : Nat := mark - symbolTime sf (c.preLen + 2) - (c.reg R.WR_RX_DELAY.at).toNat

/-- FRAME_LOCK (R329, R330): the instance locks; against a frame that the other instance holds, the stronger by CAPTURE wins. -/
def execFrameLock (lane : Fin 8) (sf : Fin 7) (inst : Fin 2) (mark : Nat) (new old : Int) (cut : RxMeas) (cutLen : Nat) (s : State) :
    Host.Outcome State Fault Refusal :=
  s.act 0x12 (fun c =>
    let k := detectorKey lane sf inst
    let j := detectorKey lane sf (1 - inst.val)
    let o := c.detector j
    if (c.detector k).st ≠ 1 then c
    else if o.st ≠ 2 then c.setDetector k { st := 2, mark := mark }
    else if old + (c.fld R.WL_DET_CFG.at 8 8 : Nat) * 256 ≤ new then
      let c1 := (c.setDetector k { st := 2, mark := mark, preempting := true }).setDetector j {}
      (c1.bump R.WL_PREEMPT.at).rxFail 3 lane (6 + sf.val) cutLen (c1.rxStamp (6 + sf.val) o.mark) c1.time cut
    else (c.setDetector k {}).bump R.WL_CAPTURE_LOST.at)

/-! ### Frames received (R323, R324, R331, R343 to R345) -/

/-- A frame that has passed its checks. -/
structure RxFrame where
  lane : Nat
  sf : Nat
  len : Nat
  typ : Nat
  flags : Nat
  tag : Nat
  body : List Byte
  m : RxMeas
  iterations : Nat
  stamp : Nat
  stop : Nat
  preempting : Bool
deriving DecidableEq, Repr

/-- SRC and DST of the link header (R324); a beacon's bytes 0 to 3 hold its hub's address. -/
def RxFrame.src (f : RxFrame) : Nat := bytesAt f.body 0 4
def RxFrame.dst (f : RxFrame) : Nat := bytesAt f.body 4 4

/-- The frame carries a link header. -/
def RxFrame.linked (f : RxFrame) : Bool := decide (f.typ = 0 ∨ f.typ = 1 ∨ f.typ = 4)

/-- A LEN that its TYPE allows (R323); a FWD body holds 10 bytes at least (R344). -/
def lenValid (typ len : Nat) : Bool :=
  match typ with
  | 2 => decide (len = 0)
  | 3 => decide (len = 28)
  | 4 => decide (19 ≤ len) && decide (len ≤ 254)
  | _ => decide (9 ≤ len) && decide (len ≤ 254)

/-- The known peer `i` is heard (R341, R343): its measurements, and what follows for its state and assignment. -/
def Core.peerHeard (c : Core) (i : Nat) (f : RxFrame) : Core :=
  let p := c.peer i
  let g := c.link.slot.getD 0
  let confirmed := decide (p.pending = some (f.lane, f.sf))
  let q := { p with st := 2, rssi := f.m.rssi, snr := f.m.snr, cfo := f.m.cfo, tagRx := f.tag, heard := c.now,
                    heardFrame := g / 32, heardSlot := g, rx := satAdd 16 p.rx 1,
                    lane := if confirmed then f.lane else p.lane, sf := if confirmed then f.sf else p.sf,
                    pending := if confirmed then none else p.pending }
  let c1 := c.setPeer i q
  let c2 := if p.st = 2 then c1 else c1.peerRecord 2 i q
  if confirmed then c2.peerRecord 5 i q else c2

/-- A frame repeats the TAG of the peer's last frame within 64 air slots (R343). -/
def Core.isDup (c : Core) (p : PeerRec) (tag : Nat) : Bool :=
  decide (0 < p.rx) && decide (p.tagRx = tag) && decide (c.link.slot.getD 0 ≤ p.heardSlot + 64)

/-- A new peer (R343). -/
def Core.newPeer (c : Core) (i : Nat) (p : PeerRec) : Core := ((c.setPeer i p).peerRecord 1 i p).event 0x12 3

/-- The peer that a good frame comes from: the device, its index and DUP (R343). -/
def Core.learn (c : Core) (f : RxFrame) : Core × Nat × Bool :=
  if !f.linked then (c, 0xFFFF, false)
  else
    let a := BitVec.ofNat 32 f.src
    match c.findPeer a with
    | some i => (c.peerHeard i f, i, c.isDup (c.peer i) f.tag)
    | none =>
      match c.freePeer with
      | none => ((c.bump R.WL_PEER_FULL.at).event 0x12 7, 0xFFFF, false)
      | some i =>
        if c.wlBit 2 then ((c.newPeer i { addr := a, st := 1, lane := f.lane, sf := f.sf }).peerHeard i f, i, false)
        else (c, 0xFFFF, false)

/-- Frequency correction counts the frame (R342). -/
def Core.afcCount (c : Core) (i : Nat) (f : RxFrame) : Core :=
  let p := c.peer i
  let takes := if c.fld R.WL_AFC.at 1 1 = 1 then p.ref && decide (p.st ≠ 0) else decide (p.st = 2)
  if i < 4096 ∧ takes = true then { c with link := { c.link with offsets := c.link.offsets ++ [f.m.cfo.toInt] } } else c

/-- The acknowledgement of a frame (R337). -/
def Core.ackFrame (c : Core) (f : RxFrame) : Core :=
  if c.wlBit 1 && f.linked && decide (f.flags % 2 = 1) && decide (f.dst = c.hubAddr) then
    { c with link := { c.link with acks := c.link.acks ++
      [{ origin := 1, lane := f.lane, sf := f.sf, len := 0, typ := 2, tag := f.tag, dst := f.src, init := f.src % 256,
         after := f.stop + 48 * 4096 }] } }
  else c

/-- The parts 1, 2, … of a WL_RX record set (R345): `left` parts from number `n` on. -/
def Core.rxParts (c : Core) (f : RxFrame) : Nat → Nat → Core
  | 0, _ => c
  | left + 1, n => Core.rxParts (c.linkRecord 0x30 f.lane n f.stamp (f.stop + rxDeadline) (decide (0 < left))
      ((f.body.drop (18 * (n - 1))).take 18)) f left (n + 1)

/-- A WL_RX record set (R345). -/
def Core.rxDeliver (c : Core) (f : RxFrame) (index : Nat) (dup forwarded : Bool) : Core :=
  let c1 := c.linkRecord 0x30 f.lane 0 f.stamp (f.stop + rxDeadline) (decide (0 < f.len))
    (leBytes 1 f.sf ++ leBytes 1 f.len ++ leBytes 1 (f.typ % 16 + 16 * f.flags) ++ leBytes 1 f.tag ++ leBytes 4 f.src ++
      leBytes 2 f.m.rssi.toNat ++ leBytes 2 f.m.snr.toNat ++ leBytes 2 f.m.cfo.toNat ++ leBytes 1 f.iterations ++
      leBytes 1 (b2n f.preempting + 2 * b2n dup + 4 * b2n forwarded) ++ leBytes 2 index)
  (c1.rxParts f ((f.len + 17) / 18) 1).event 0x12 0

/-- A forwarded frame is dropped (R344). -/
def Core.fwdDrop (c : Core) : Core := (c.bump R.WL_FWD_DROP.at).event 0x12 8

/-- A FWD frame to the next hub: SRC, DST, PORT and the FWD body (R344). -/
def Core.fwdReq (c : Core) (next : Word) (body : List Byte) : TxReq × Core :=
  let t := c.takeTag
  let w := R.WL_FWD_CFG.at
  ({ origin := 3, lane := c.fld w 0 3, sf := 6 + c.fld w 4 3, len := 9 + body.length, typ := 4, tag := t.1, dst := next.toNat,
     payload := linkPayload c.hubAddr next.toNat 0 body }, t.2)

/-- A received FWD frame (R344): duplicates are discarded; it is delivered, relayed, or dropped. -/
def Core.forward (c : Core) (f : RxFrame) (index : Nat) (dup : Bool) : Core :=
  let hop := bytesAt f.body 9 1
  let tag := bytesAt f.body 10 1
  let orig := bytesAt f.body 11 4
  let final := bytesAt f.body 15 4
  if c.link.cache.any (fun e => decide (e.1 = orig ∧ e.2.1 = tag ∧ c.now < e.2.2 + 61440000)) then c
  else
    let c1 := { c with link := { c.link with cache := ((orig, tag, c.now) :: c.link.cache).take 256 } }
    if final = c1.hubAddr then c1.rxDeliver f index dup true
    else match c1.route (BitVec.ofNat 32 final) with
      | none => c1.fwdDrop
      | some next =>
        if hop = 0 then c1.fwdDrop
        else
          let q := c1.fwdReq next (leBytes 1 (hop - 1) ++ f.body.drop 10)
          ({ q.2 with link := { q.2.link with relays := q.2.link.relays ++ [q.1] } }).pump

/-- A frame has passed its checks. -/
def Core.rxGood (c : Core) (f : RxFrame) : Core :=
  let l := ((c.bump R.WL_RX_OK.at).tally 39).learn f
  let c1 := (l.1.afcCount l.2.1 f).ackFrame f
  if f.typ = 4 ∧ c1.wlBit 4 = true then c1.forward f l.2.1 l.2.2 else c1.rxDeliver f l.2.1 l.2.2 false

/-- A payload that failed its CRC counts against the peer that it names (R351). -/
def Core.peerFailed (c : Core) (f : RxFrame) : Core :=
  match (if f.linked then c.findPeer (BitVec.ofNat 32 f.src) else none) with
  | some i => c.setPeer i { c.peer i with fail := satAdd 16 (c.peer i).fail 1 }
  | none => c

/-- A locked frame ends (R323 to R331, R345). -/
def Core.frameEnd (c : Core) (k lane sf : Nat) (header payload : List Byte) (m : RxMeas) (iterations stop : Nat) : Core :=
  let d := c.detector k
  let stamp := c.rxStamp sf d.mark
  let c1 := c.setDetector k {}
  let len := bytesAt header 0 1
  let typ := bytesAt header 1 1 % 16
  let init := if typ = 2 then c.hubAddr % 256 else 0
  let headed := decide (header.length = 4) && decide (bytesAt header 3 1 = headerCrc init (header.take 3))
  let body := bytesOfBits (len + 2) (whiten (bitsOf (payload.take (len + 2))))
  let f : RxFrame := { lane := lane, sf := sf, len := len, typ := typ, flags := bytesAt header 1 1 / 16, tag := bytesAt header 2 1,
                       body := if len = 0 then [] else body.take len, m := m, iterations := iterations, stamp := stamp, stop := stop,
                       preempting := d.preempting }
  if d.blanked then (c1.bump R.WL_BLANKED.at).rxFail 4 lane sf (if headed then len else 0) stamp stop m
  else if !headed then (c1.bump R.WL_HDR_FAIL.at).rxFail 1 lane sf 0 stamp stop m
  else if decide (4 < typ) || !lenValid typ len then c1.rxFail 5 lane sf len stamp stop m
  else if len ≠ 0 ∧ crc16 (body.take len) ≠ bytesAt body len 2 then
    ((c1.bump R.WL_CRC_FAIL.at).rxFail 2 lane sf len stamp stop m).peerFailed f
  else c1.rxGood f

/-- FRAME_RX_END (R331, R337, R343, R344). -/
def execFrameRxEnd (lane : Fin 8) (sf : Fin 7) (inst : Fin 2) (header payload : List Byte) (m : RxMeas) (iterations stop : Nat)
    (s : State) : Host.Outcome State Fault Refusal :=
  s.act 0x12 (fun c =>
    let k := detectorKey lane sf inst
    if (c.detector k).st = 2 then c.frameEnd k lane (6 + sf.val) header payload m iterations stop else c)

/-! ### Air slots and frames (R332 to R341) -/

/-- The link's air slots run: it is on, and its track has epochs (R332). -/
def Core.linkRuns (c : Core) : Bool := c.linkOn && c.linkTrack.hasEpochs

/-- AIR_SLOT_BOUNDARY (R332, R334): a run that does not go on ends. -/
def execAirSlotBoundary (s : State) : Host.Outcome State Fault Refusal :=
  s.act 0x12 (fun c =>
    let g := c.slotNow
    if c.linkRuns && decide (c.link.slot ≠ some g) then
      let same := match c.link.run, c.runNow with | some a, some b => decide (a.slot = b.slot) | _, _ => false
      let frame := match c.link.frame with | some f => some f | none => some (g / 32)
      let c1 := { c with link := { c.link with slot := some g, run := if same then c.link.run else none, frame := frame } }
      let c2 := if c.link.frame.isNone then c1.setNat R.WL_AFRAME.at (g / 32) else c1
      (c2.setFld R.WL_STATUS.at 0 1 1).setFld R.WL_STATUS.at 16 5 (g % 32)
    else c)

/-- Pending masks at the boundary of air frame `f` (R333): a write of the final tick waits one air frame more. -/
def Core.applyMasks (c : Core) (f : Nat) : Core :=
  if c.fld R.WL_STATUS.at 2 1 = 0 then c
  else if c.now < c.link.maskFrom then c.setNat R.WL_MASK_FRAME.at (f + 1)
  else
    let c1 := (c.setReg R.WL_DL_MASK_CUR.at (c.reg R.WL_DL_MASK_NEXT.at)).setReg R.WL_HUB_MASK_CUR.at (c.reg R.WL_HUB_MASK_NEXT.at)
    ((c1.setNat R.WL_MASK_FRAME.at f).setFld R.WL_STATUS.at 2 1 0).event 0x12 6

/-- AIR_FRAME_BOUNDARY (R333, R339 to R342). -/
def execAirFrameBoundary (s : State) : Host.Outcome State Fault Refusal :=
  s.act 0x12 (fun c =>
    let f := c.slotNow / 32
    match c.link.frame with
    | some old =>
      if c.linkRuns && decide (old ≠ f) then
        let c1 := { c with link := { c.link with frame := some f } }
        let c2 := (c1.applyMasks f).setNat R.WL_AFRAME.at f
        ((c2.showNoise.loadTable f).afcFrame).reviewPeers
      else c
    | none => c)

/-- DL_RUN_START (R336 to R338). -/
def execDlRunStart (s : State) : Host.Outcome State Fault Refusal :=
  s.act 0x12 (fun c =>
    if c.linkRuns && decide (c.link.slot = some c.slotNow) && c.link.run.isNone then
      match c.runNow with
      | some r => ({ c with link := { c.link with run := some r } }).pump
      | none => c
    else c)

/-- AFC_WRITE (R342): WR_FOFS moves in a tick of RX without a frame, within ±20 000 Hz. -/
def execAfcWrite (s : State) : Host.Outcome State Fault Refusal :=
  s.act 0x12 (fun c =>
    match c.link.fofs with
    | some d =>
      if c.wrState = 2 ∧ c.packetLanes = 0 then
        let x := max (-20000) (min 20000 (signedOf 16 (c.fld R.WR_FOFS.at 0 16) + d))
        ({ c with link := { c.link with fofs := none } }).setNat R.WR_FOFS.at (codeOf 16 x)
      else c
    | none => c)

/-- PEER_LOST (R343). -/
def execPeerLost (i : Fin 4096) (s : State) : Host.Outcome State Fault Refusal :=
  s.act 0x12 (fun c =>
    let p := c.peer i
    if c.linkRuns && decide (p.st = 2) && decide (p.heardFrame + c.fld R.WL_CFG.at 8 8 ≤ c.link.frame.getD 0) then
      let q := { p with st := 3 }
      ((c.setPeer i q).peerRecord 3 i q).event 0x12 4
    else c)

/-! ### Configuration (R332, R333, R349) -/

/-- EN is written 0 (R349): sends that have not started complete with STATE; a committed request goes on. -/
def Core.linkOff (c : Core) : Core :=
  let mine := c.radio.requests.filter (fun r => decide (r.origin ≠ 4))
  let all := c.link.sends ++ c.link.relays ++ mine
  let c1 := (all.filter (fun r => decide (r.opcode ≠ 0))).foldl (fun d r => d.effectDone r.opcode r.id 8 1 []) c
  let held := match c1.radio.commit with | some m => decide (m.req.origin ≠ 4) | none => false
  let c2 := { c1 with radio := { c1.radio with requests := c1.radio.requests.filter (fun r => decide (r.origin = 4)) },
                      link := { c1.link with sends := [], relays := [], acks := [], run := none, slot := none, frame := none,
                                             beaconed := none, busy := held, offsets := [], fofs := none } }
  c2.setFld R.WL_STATUS.at 0 1 0

/-- A write of WL_CFG (R332): EN = 1 is refused while the named track is OFF; LOST_AF is 1 to 255. -/
def wlCfgWrite (c : Core) (v : Word) : Core × Bool :=
  let on := decide (fieldOf v 0 1 = 1)
  if (on && !c.linkOn && decide (c.trkSrc (c.fld R.WL_SLOT_CFG.at 0 2) = 0)) || decide (fieldOf v 8 8 = 0) then c.refusePage 0x12
  else
    let c1 := c.setReg R.WL_CFG.at (v &&& 0xFF7F)
    (if c.linkOn && !on then c1.linkOff else c1, true)

/-- WL_CFG_WRITE (R332, R349). -/
def execWlCfgWrite (port : Port) (v : Word) (s : State) : Host.Outcome State Fault Refusal :=
  s.write port R.WL_CFG R.WL_CFG.at v wlCfgWrite

/-- The air frame from which a mask written in this tick holds (R333): that of the first boundary at or after 48 × (t + 2). -/
def Core.maskEffect (c : Core) : Nat :=
  if c.linkTrack.hasEpochs then
    let f := c.slotNow / 32
    if 48 * (c.now + 2) ≤ c.epochStart ((f + 1) * 32 * c.slotEpochs) then f + 1 else f + 2
  else 0

/-- A write of WL_DL_MASK_NEXT or WL_HUB_MASK_NEXT (R333): no air slot may stand in both. -/
def wlMaskWrite (hub : Bool) (c : Core) (v : Word) : Core × Bool :=
  let mine := if hub then R.WL_HUB_MASK_NEXT.at else R.WL_DL_MASK_NEXT.at
  let other := if hub then R.WL_DL_MASK_NEXT.at else R.WL_HUB_MASK_NEXT.at
  if v &&& c.reg other ≠ 0 then c.refusePage 0x12
  else
    let c1 := { c with link := { c.link with maskFrom := c.now + 2 } }
    (((c1.setReg mine v).setNat R.WL_MASK_FRAME.at c.maskEffect).setFld R.WL_STATUS.at 2 1 1, true)

/-- WL_MASK_WRITE (R333). -/
def execWlMaskWrite (port : Port) (hub : Bool) (v : Word) (s : State) : Host.Outcome State Fault Refusal :=
  s.write port (if hub then R.WL_HUB_MASK_NEXT else R.WL_DL_MASK_NEXT)
    (if hub then R.WL_HUB_MASK_NEXT.at else R.WL_DL_MASK_NEXT.at) v (wlMaskWrite hub)

/-! ### Commands (R347, R348, R351) -/

/-- The link serves commands (R348): it is on and the radio's MODE is RX. -/
def Core.linkServes (c : Core) : Bool := c.linkOn && decide (c.wrMode = 2)

/-- A body of `n` bytes at Shed address `a` lies in the host region (R258, R347). -/
def inHostRegion (a n : Nat) : Bool := decide (0x300000000 ≤ a) && decide (a + n ≤ 0x340000000)

/-- The first air slot whose run may carry a command's frame: the header instant on the link's track; a fine-cycle bound on another
track (R347). -/
def Core.sendFrom (c : Core) (h : CmdHead) : Nat × Nat :=
  if h.now then (0, 0)
  else
    let t := c.track h.track
    let ahead := signedOf 32 (h.epoch + 2 ^ 32 - t.epoch % 2 ^ 32)
    let e := ((t.epoch : Int) + ahead).toNat
    if h.track.val = c.fld R.WL_SLOT_CFG.at 0 2 then (((e + (if h.phase = 0 then 0 else 1)) + c.slotEpochs - 1) / c.slotEpochs, 0)
    else (0, (((t.start16 : Int) + ahead * t.length16 + (h.phase * t.length16 + 65535) / 65536 + 65535) / 65536).toNat)

/-- A send is accepted: it waits for its run, or starts at once where NOW allows. -/
def Core.acceptSend (c : Core) (h : CmdHead) (opcode : Nat) (r : TxReq) : Core :=
  let f := c.sendFrom h
  let x := { r with opcode := opcode, seq := h.seq, id := c.link.ids, fromSlot := f.1, after := f.2 }
  let c1 := { c with link := { c.link with ids := c.link.ids + 1 } }
  let c2 := c1.finish h opcode 0 8 x.id (leBytes 4 0 ++ leBytes 1 x.lane ++ leBytes 1 x.sf ++ leBytes 1 0 ++ leBytes 1 x.tag)
  (if x.typ = 4 then { c2 with link := { c2.link with relays := c2.link.relays ++ [x] } }
    else { c2 with link := { c2.link with sends := c2.link.sends ++ [x] } }).pump

/-- WL_SEND (R338, R347, R348). -/
def Core.wlSend (c : Core) (h : CmdHead) (dst : Word) (portNo flags len place addr : Nat) : Core :=
  let fail := fun n : Nat => c.complete 0x40 h.seq n 8 c.now []
  let byTable := decide (place / 8 % 2 = 1)
  let who := c.findPeer dst
  let lane := if byTable then (match who with | some i => (c.peer i).lane | none => 0) else place % 8
  let sf := if byTable then c.laneSf lane else 6 + place / 16 % 8
  if !c.linkServes then fail 1
  else if decide (3 < flags) || decide (245 < len) || decide (127 < place) || decide (12 < sf) ||
      !inHostRegion addr len then fail 2
  else if byTable && who.isNone then fail 3
  else if !c.sendFits 1 (frameTime sf c.preLen (9 + len)) (c.sendFrom h).1 h.now then fail 5
  else
    let b := c.shedHostRead addr len
    let t := b.2.2.takeTag
    let c1 := match who with | some i => t.2.setPeer i { t.2.peer i with tagTx := t.1 } | none => t.2
    c1.acceptSend h 0x40 { origin := 0, lane := lane, sf := sf, byTable := byTable, len := 9 + len, typ := 1, flags := flags,
                           tag := t.1, dst := dst.toNat, payload := linkPayload c.hubAddr dst.toNat portNo b.1 }

/-- WL_SEND (R347, opcode 0x40). -/
def execWlSend (h : CmdHead) (dst : Word) (portNo flags len place addr : Nat) (s : State) : Host.Outcome State Fault Refusal :=
  s.run (fun c => c.command h 0x40 (fun c => c.wlSend h dst (portNo % 256) flags len place addr))

/-- WL_PEER_ADD (R343, R347, R348): an address that stands in the table keeps its entry and takes the new assignment. -/
def execWlPeerAdd (h : CmdHead) (addr : Word) (lane sf : Nat) (ref : Bool) (s : State) : Host.Outcome State Fault Refusal :=
  s.run (fun c => c.command h 0x41 (fun c =>
    let done := fun (d : Core) (n : Nat) (i : Nat) => d.complete 0x41 h.seq n 8 d.now (if n = 0 then leBytes 2 i else [])
    if !c.linkServes then done c 1 0
    else if 7 < lane ∨ 6 < sf then done c 2 0
    else match c.findPeer addr with
      | some i => done (c.setPeer i { c.peer i with lane := lane, sf := 6 + sf, ref := ref, pending := none }) 0 i
      | none => match c.freePeer with
        | none => done c 4 0
        | some i => done (c.newPeer i { addr := addr, st := 1, lane := lane, sf := 6 + sf, ref := ref }) 0 i))

/-- WL_PEER_DEL (R343, R347, R348). -/
def execWlPeerDel (h : CmdHead) (addr : Word) (s : State) : Host.Outcome State Fault Refusal :=
  s.run (fun c => c.command h 0x42 (fun c =>
    let done := fun (d : Core) (n : Nat) => d.complete 0x42 h.seq n 8 d.now []
    if !c.linkServes then done c 1
    else match c.findPeer addr with
      | none => done c 3
      | some i => done ((c.peerRecord 4 i (c.peer i)).setPeer i {}) 0))

/-- WL_ROUTE (R347, R351): three words and the VALID bit, in one tick. -/
def execWlRoute (h : CmdHead) (entry : Nat) (valid : Bool) (pre mask next : Word) (s : State) : Host.Outcome State Fault Refusal :=
  s.run (fun c => c.command h 0x43 (fun c =>
    if !c.linkServes then c.complete 0x43 h.seq 1 8 c.now []
    else if 15 < entry then c.complete 0x43 h.seq 2 8 c.now []
    else c.writes h 0x43 [R.WL_ROUTE_PREFIX.at entry, R.WL_ROUTE_MASK.at entry, R.WL_ROUTE_NEXT.at entry] (fun c =>
      let c1 := ((c.setReg (R.WL_ROUTE_PREFIX.at entry) pre).setReg (R.WL_ROUTE_MASK.at entry) mask).setReg (R.WL_ROUTE_NEXT.at entry) next
      (c1.setFld R.WL_ROUTE_VALID.at entry 1 (b2n valid)).complete 0x43 h.seq 0 8 c.now [])))

/-- WL_FORWARD (R344, R347, R348). -/
def Core.wlForward (c : Core) (h : CmdHead) (dst : Word) (hop len addr : Nat) : Core :=
  let fail := fun n : Nat => c.complete 0x44 h.seq n 8 c.now []
  let sf := 6 + c.fld R.WL_FWD_CFG.at 4 3
  if !c.linkServes || !c.wlBit 4 then fail 1
  else if decide (hop = 0) || decide (7 < hop) || decide (235 < len) || !inHostRegion addr len then fail 2
  else match c.route dst with
    | none => fail 6
    | some next =>
      if !c.sendFits 2 (frameTime sf c.preLen (19 + len)) (c.sendFrom h).1 h.now then fail 5
      else
        let b := c.shedHostRead addr len
        let tag := b.2.2.link.tag
        let q := b.2.2.fwdReq next (leBytes 1 hop ++ leBytes 1 tag ++ leBytes 4 c.hubAddr ++ leBytes 4 dst.toNat ++ b.1)
        q.2.acceptSend h 0x44 { q.1 with origin := 0 }

/-- WL_FORWARD (R347, opcode 0x44). -/
def execWlForward (h : CmdHead) (dst : Word) (hop len addr : Nat) (s : State) : Host.Outcome State Fault Refusal :=
  s.run (fun c => c.command h 0x44 (fun c => c.wlForward h dst hop len addr))

/-- A soft reset of WLINK outside STATES 3 to 6 (R19, R253, R349): the link returns to its reset state, and commands that await the
radio complete with ABORTED. -/
def Core.linkReset (c : Core) : Core :=
  let gone := c.awaits.filter (fun w => decide (w.opcode = 0x40 ∨ w.opcode = 0x44))
  let c1 := gone.foldl (fun d w => d.complete w.opcode w.seq 8 0 w.te [])
    { c with awaits := c.awaits.filter (fun w => !decide (w.opcode = 0x40 ∨ w.opcode = 0x44)) }
  let keep := match c1.radio.commit with | some m => if m.req.origin = 4 then some m else none | none => none
  ({ c1 with radio := { c1.radio with requests := c1.radio.requests.filter (fun r => decide (r.origin = 4)), commit := keep },
             link := {}, peers := [], detectors := [] }).freezeCheck

end Sys2Proof.Machine
end

