-- ==== Sys2Proof/Machine/Synth.lean ====
section
/-! DEFINITION. Clock synthesis: references, lock and relock of SYN0, its disciplining, SYN2 and the clock outputs (R353 to R371). -/

namespace Sys2Proof.Machine

/-! ### References (R355, R357) -/

/-- SYN0_STATUS.STATE: 0 ACQUIRE, 1 LOCKED, 2 HOLD, 3 RELOCK. -/
def Core.syn0State (c : Core) : Nat := c.fld R.SYN0_STATUS.at 0 3

/-- A change of that state; PG_STATUS.READY is 1 in LOCKED and HOLD (R370). -/
def Core.setSyn0 (c : Core) (st : Nat) : Core :=
  (c.setFld R.SYN0_STATUS.at 0 3 st).setFld (R.PG_STATUS.at 2) 0 1 (b2n (decide (st = 1 ∨ st = 2)))

/-- XIN (bit 4) or REFIN (bit 5) is good. -/
def Core.refOk (c : Core) (xin : Bool) : Bool := decide (c.fld R.SYN0_STATUS.at (if xin then 4 else 5) 1 = 1)

/-- SYN0 runs on REFIN. -/
def Core.onRefin (c : Core) : Bool := decide (c.fld R.SYN0_STATUS.at 3 1 = 1)

/-- The reference that SYN0 may run on (R355, R357): REFIN while it is preferred and good; else XIN, to which a lost REFIN falls back
only where AUTO_FALLBACK or REF_SEL allows it. `some true` is REFIN. -/
def Core.reference (c : Core) : Option Bool :=
  let sel := decide (c.fld R.SYN_CFG.at 0 1 = 1)
  if sel && c.refOk false then some true
  else if c.refOk true && (!c.onRefin || !sel || decide (c.fld R.SYN_CFG.at 1 1 = 1)) then some false
  else none

/-- No epoch that holds this tick disciplines SYN0 (R364). -/
def Core.spoilEpochs (c : Core) : Core :=
  (List.range 4).foldl (fun d k => d.setTrack k { d.track k with clean := false }) c

/-- HOLD ends in this tick (R357, R464). -/
def Core.leaveHold (c : Core) : Core :=
  let d := (c.setSyn0 1).spoilEpochs
  match c.syn.holdAt with
  | some t => { d with syn := { d.syn with holdAt := none } }.tallyBin 4 (doublingBin 1024000 16 (c.now - t))
  | none => d

/-- SYN0 takes the reference it may run on (R355, R357): a change is a build-out switch; with none it holds. -/
def Core.takeReference (c : Core) : Core :=
  let st := c.syn0State
  match c.reference with
  | some r =>
    let c1 := c.setFld R.SYN0_STATUS.at 3 1 (b2n r)
    if st = 1 ∨ st = 2 then
      let c2 := if r = c.onRefin then c1 else (c1.event 2 3).bump R.REF_SWITCH_CNT.at
      if st = 2 then c2.leaveHold else c2
    else c1
  | none =>
    if st = 1 then { ((c.setSyn0 2).event 2 4).spoilEpochs with syn := { c.syn with holdAt := some c.now } } else c

/-- REF_LOSS (R355, R369). -/
def execRefLoss (xin : Bool) (s : State) : Host.Outcome State Fault Refusal :=
  s.run (fun c =>
    ((c.setFld R.SYN0_STATUS.at (if xin then 4 else 5) 1 0).event 2 (if xin then 12 else 2)).takeReference)

/-- REF_GOOD (R355). -/
def execRefGood (xin : Bool) (s : State) : Host.Outcome State Fault Refusal :=
  s.run (fun c => (c.setFld R.SYN0_STATUS.at (if xin then 4 else 5) 1 1).takeReference)

/-- A write of SYN_CFG (R355): SYN0 moves to the preferred reference. -/
def synCfgWrite (c : Core) (v : Word) : Core × Bool :=
  ((c.setReg R.SYN_CFG.at ((c.reg R.SYN_CFG.at &&& 0xFFFFFFFC) ||| (v &&& 3))).takeReference, true)

/-- A write of SYN0_LOOP (R356, R370): LOCK_THR 4 to 100 ps, UNLOCK_THR above it and at most 250 ps. -/
def synLoopWrite (c : Core) (v : Word) : Core × Bool :=
  let l := fieldOf v 8 8
  let u := fieldOf v 16 8
  if l < 4 ∨ 100 < l ∨ u ≤ l ∨ 250 < u then c.refusePage 2 else (c.setReg R.SYN0_LOOP.at (v &&& 0xFFFF03), true)

/-! ### Lock, unlock and return of SYN0 (R357, R359, R360) -/

/-- SYN0_LOCK (R48, R357, R396): outputs run, Yard time starts at 0, and start-up enters ROM. -/
def execSyn0Lock (xin : Fin 4) (phase : BitVec 16) (s : State) : Host.Outcome State Fault Refusal :=
  s.run (fun c =>
    if c.stage = 1 ∧ c.syn0State = 0 then
      let c1 := ((c.setSyn0 1).setFld R.SYN0_STATUS.at 4 1 1).setFld R.SYN0_STATUS.at 16 16 phase.toNat
      let c2 := (c1.setFld R.SYN_CFG.at 4 2 xin).setFld R.BOOT_STATUS.at 0 4 2
      (({ c2 with yardRuns := true }).stampTick R.SYN0_LAST_LOCK.at).event 2 0
    else c)

/-- CAL_STATUS.PEND and CAL_PEND_BLOCKS when no correction waits any more (R405, R410). -/
def Core.showPend (c : Core) : Core :=
  if c.calPend.isEmpty then (c.setFld R.CAL_STATUS.at 8 1 0).setNat R.CAL_PEND_BLOCKS.at 0 else c

/-- Every pending correction is cancelled, and its inputs are calibrated again (R408); a CAL_RUN or CAL_RESTORE that awaits its tick
completes ABORTED. -/
def Core.cancelCal (c : Core) : Core :=
  let mask := c.calPend.foldl (fun m p => m ||| p.mask) 0
  let d := c.calPend.foldl (fun x p => (x.effectDone 0x5C p.tick 0 8 []).effectDone 0x5E p.tick 0 8 []) c
  { d with calPend := [], cal := { d.cal with again := d.cal.again ||| mask } }.showPend

/-- SYN0_UNLOCK (R359): the loss decided in tick d. A pending correction is cancelled (R408). -/
def execSyn0Unlock (phase : BitVec 16) (s : State) : Host.Outcome State Fault Refusal :=
  s.run (fun c =>
    if c.syn0State = 1 then
      let c1 := (((c.setSyn0 3).event 2 1).bump R.SYN0_UNLOCK_CNT.at).stampTick R.SYN0_LAST_UNLOCK.at
      let c2 := (c1.setFld R.SYN0_STATUS.at 16 16 phase.toNat).spoilEpochs
      let c3 := c2.cancelCal.tally 14
      { c3 with syn := { c3.syn with follow := some (c3.now + 1), lostAt := c3.now } }
    else c)

/-- The outputs of stall `n` that its class numbers and its settings enable (R71 to R74). -/
def Core.stallOutputs (c : Core) (n : Nat) : List Nat :=
  (List.range 5).filter (fun o => (engineDelay (c.cls n) o).isSome && (decide (c.cls n ≠ clsFm ∨ o ≠ 1) || c.mpxOut n))

/-- One DEADLINE with CAUSE 0x6 (R78, R359). -/
def Core.clockMiss (c : Core) (n : Nat) (stall : Bool) (output : Nat) : Core :=
  c.deadlineMiss n stall output 6 0 0 c.time true 0

/-- The loss of the samples between d and n: one DEADLINE per output of every live stall and per team member (R359). -/
def Core.reportLoss (c : Core) : Core :=
  let live := c.openStalls.filter c.live
  let c1 := live.foldl (fun d n => (d.stallOutputs n).foldl (fun x o => x.clockMiss n true o) d) c
  ((List.range 256).filter c.memberValid).foldl (fun d m =>
    let src := d.fld (R.MEMBER.at m) 8 8
    let decode := decide (d.fld (R.MEMBER.at m) 6 2 = 1)
    let n := if decode then d.fld (R.LS_CTL.at src) 0 8 else src
    if live.contains n then d.clockMiss n true (if decode then 4 else 0) else d) c1

/-! ### SYN2 (R366, R367) -/

/-- SYN2_STATUS.LOCK. -/
def Core.syn2Locked (c : Core) : Bool := decide (c.fld R.SYN2_STATUS.at 0 1 = 1)

/-- The master ports that run. -/
def Core.masterPorts (c : Core) : List Nat := (List.range 8).filter (fun p => c.sapRunning p c.time && !c.sapSlave p)

/-- One DEADLINE per running master port (R366). -/
def Core.audioMiss (c : Core) : Core := c.masterPorts.foldl (fun d p => d.clockMiss p false 0) c

/-- SYN2 gates its outputs and relocks (R366); while it relocks nothing more happens. -/
def Core.gateSyn2 (c : Core) : Core :=
  if c.syn2Locked then
    (((c.setFld R.SYN2_STATUS.at 0 1 0).setFld R.SYN2_STATUS.at 1 1 1).bump R.SYN2_UNLOCK_CNT.at).event 2 11
  else c

/-- A write of SYN2_CFG (R366, R370): BW 3 is refused. -/
def syn2CfgWrite (c : Core) (v : Word) : Core × Bool :=
  if fieldOf v 1 2 = 3 then c.refusePage 2
  else
    let c1 := c.setReg R.SYN2_CFG.at (v &&& 6)
    (if bitOf v 0 && c1.syn2Locked then c1.gateSyn2.audioMiss else c1, true)

/-- SYN2_RELOCK (R366). -/
def execSyn2Relock (w : Option (Port × Word)) (s : State) : Host.Outcome State Fault Refusal :=
  match w with
  | some x => s.write x.1 R.SYN2_CFG R.SYN2_CFG.at x.2 syn2CfgWrite
  | none => s.run (fun c => if c.syn2Locked then c.gateSyn2.audioMiss else c)

/-- A written MCLK_CFG takes effect. -/
def Core.takeMclk (c : Core) : Core := { c with syn := { c.syn with mclkAt := none, mclk := c.reg R.MCLK_CFG.at } }

/-- SYN2_RESUME (R366, R369): the outputs resume at a grid instant; MCLK_CFG written meanwhile holds from there. -/
def execSyn2Resume (phase : BitVec 16) (s : State) : Host.Outcome State Fault Refusal :=
  s.run (fun c =>
    if !c.syn2Locked && c.samplesFlow && decide (gridAt c.time < c.time + 48) then
      (((c.setFld R.SYN2_STATUS.at 0 2 1).setFld R.SYN2_STATUS.at 16 16 phase.toNat).event 2 10).takeMclk
    else c)

/-- A write of MCLK_CFG (R367): DIV 5 to 7 are refused; it holds from the first grid instant at or after 48 × (t + 2). -/
def mclkWrite (c : Core) (v : Word) : Core × Bool :=
  if 4 < fieldOf v 0 3 ∨ 4 < fieldOf v 4 3 then c.refusePage 2
  else
    let c1 := c.setReg R.MCLK_CFG.at (v &&& 0xFF)
    ({ c1 with syn := { c1.syn with mclkAt := some (gridAt (48 * (c.now + 2))) } }, true)

/-- MCLK_CFG_WRITE (R367). -/
def execMclkCfgWrite (port : Port) (v : Word) (s : State) : Host.Outcome State Fault Refusal :=
  s.write port R.MCLK_CFG R.MCLK_CFG.at v mclkWrite

/-- A write of CLKOUT_CFG (R368): SEL 7 to 15 are refused. -/
def clkoutWrite (c : Core) (v : Word) : Core × Bool :=
  if 6 < fieldOf v 0 4 then c.refusePage 2 else (c.setReg R.CLKOUT_CFG.at (v &&& 0xDF), true)

/-- CLKOUT_CFG_WRITE (R368). -/
def execClkoutCfgWrite (port : Port) (v : Word) (s : State) : Host.Outcome State Fault Refusal :=
  s.write port R.CLKOUT_CFG R.CLKOUT_CFG.at v clkoutWrite

/-! ### Return of SYN0 -/

/-- SYN0_RESUME (R359): tick n. Banks and running stalls restart with T_r = n + 1, SYN1 calibrates from n + 1, SYN2 relocks from n,
and the samples lost are reported. -/
def execSyn0Resume (phase : BitVec 16) (s : State) : Host.Outcome State Fault Refusal :=
  s.run (fun c =>
    if c.syn0State = 3 then
      let c1 := ((c.setSyn0 1).event 2 0).stampTick R.SYN0_LAST_LOCK.at
      let c2 := (c1.setFld R.SYN0_STATUS.at 16 16 phase.toNat).spoilEpochs
      let c3 := ((List.range 3).filter c2.inputOn).foldl (fun d i => d.setFld (R.PG_STATUS.at (3 + i)) 0 1 1) c2
      let c4 := c3.reportLoss
      let c5 := (c4.openStalls.filter c4.live).foldl (fun d n => d.startReset n (d.now + 1) true) c4
      let c6 := { c5.tallyBin 5 (doublingBin 1024 16 (c5.now - c5.syn.lostAt)) with radio := { c5.radio with calNext := decide (c5.wrState = 1 ∨ c5.wrState = 2) }, syn := { c5.syn with follow := none } }
      c6.gateSyn2.audioMiss
    else c)

/-- What the synthesizers do of themselves at the start of a tick: SYN1, SYN2 and the RF pages follow an unlock of SYN0 in d + 1 (R80,
R359), and a written MCLK_CFG takes effect (R367). -/
def Core.synthClock (c : Core) : Core :=
  let c1 := if c.syn.follow = some c.now then
      let d := (List.range 3).foldl (fun x i => x.setFld (R.PG_STATUS.at (3 + i)) 0 1 0) (c.loseSyn1 false)
      ({ d with syn := { d.syn with follow := none } }).gateSyn2
    else c
  match c1.syn.mclkAt with
  | some x => if x < c1.time + 48 ∧ c1.syn2Locked = true then c1.takeMclk else c1
  | none => c1

/-- A write of SYN0_DISC (R57, R363, R365, R370): K above 12 and SLEW outside 1 to 10 000 are refused, and so are EN = 1 and TRACK for
a track whose source cannot discipline; y is held when EN falls or TRACK moves. -/
def syn0DiscWrite (c : Core) (v : Word) : Core × Bool :=
  let old := c.reg R.SYN0_DISC.at
  let src := c.trkSrc (fieldOf v 1 2)
  let on := decide (fieldOf v 0 1 = 1)
  let was := decide (fieldOf old 0 1 = 1)
  let moved := decide (fieldOf v 1 2 ≠ fieldOf old 1 2)
  if 12 < fieldOf v 4 4 ∨ fieldOf v 16 16 = 0 ∨ 10000 < fieldOf v 16 16 then c.refusePage 2
  else if (on || moved) && decide (src = 0 ∨ src = 1 ∨ src = 6) then c.refusePage 2
  else
    let c1 := c.setReg R.SYN0_DISC.at (v &&& 0xFFFF00F7)
    (if was && (!on || moved) then c1.discHold else c1, true)

/-- SYN0_DISC_WRITE (R363, R365). -/
def execSyn0DiscWrite (port : Port) (v : Word) (s : State) : Host.Outcome State Fault Refusal :=
  s.write port R.SYN0_DISC R.SYN0_DISC.at v syn0DiscWrite

end Sys2Proof.Machine
end

