-- ==== Sys2Proof/Machine/Logbook.lean ====
section
/-! DEFINITION. Device resets (R394, R395) and the Logbook: its records, the final commit and the commands (R463 to R473). -/

namespace Sys2Proof.Machine

/-! ### Device resets (R394, R395) -/

/-- The Shed's host region (R258). -/
def inKeptRegion (a : Nat) : Bool := decide (0x300000000 ≤ a) && decide (a < 0x340000000)

/-- Something holds the device in reset: RESET_N, the junction, or a rail (R392 to R394). -/
def StartRec.held (x : StartRec) : Bool := x.pinLow || x.hot || !x.rails

/-- The device after a reset from a source of R394 (0 POR, 1 BROWNOUT, 2 PIN, 3 CLOCK_FAULT, 4 WATCHDOG, 5 THERMAL, 6 HOST), `x` telling
what still holds it: registers at their reset values, everything volatile empty, Yard time stopped at 0, the NOR, the fuses and (warm) the
Shed's host region kept (R395). -/
def Core.deviceReset (c : Core) (cause : Nat) (x : StartRec) : Core :=
  let cold := decide (cause ≤ 1)
  let keep := fun (e : Nat) => !cold && inKeptRegion e
  let d : Core :=
    { nv := c.nv, drawn := c.drawn, regions := c.regions,
      out := c.out ++ [.pin .thermAlert true, .pin .paEn false, .pin (.gpio 0) false],
      shed := c.shed.filter (fun e => keep e.1), shedBad := c.shedBad.filter (fun e => keep (8 * e.1)),
      shedCe := c.shedCe.filter (fun e => keep (8 * e.1)),
      start := { cause := cause, seqErr := x.seqErr, pinLow := x.pinLow, hot := x.hot, rails := x.rails } }
  let old := if cold then 1 else c.fld R.RESET_CAUSE.at 0 9
  (d.setNat R.RESET_CAUSE.at (old ||| 2 ^ cause ||| 256 * b2n x.seqErr)).setFld R.BOOT_STATUS.at 0 4 (if x.held then 0 else 1)

/-- A reset command: host reads of the same tick are answered from the device after the reset. -/
def State.reboot (s : State) (c : Core) : Host.Outcome State Fault Refusal :=
  .next { s with core := c, image := c, phase := .events }

/-! ### Records (R465) -/

/-- Bins of each histogram (R464). -/
def histBins : List Nat := [35, 22, 25, 21, 17, 17, 20]

/-- PAD of band `b`, in µs (R465): what its effective ceiling allows in one interval. -/
def Core.recordPad (c : Core) (b : Nat) : Nat := c.dutyCeiling b * 100 * c.fld R.LB_CFG.at 0 12

/-- The sequence number of the newest record. -/
def Core.newestSeq (c : Core) : Nat := match c.nv.records.head? with | some r => r.seq | none => 0

/-- A record of the present values (R465). -/
def Core.liveRecord (c : Core) (kind seq : Nat) : LogRec :=
  { seq := seq % 2 ^ 32, kind := kind, time := c.time, boots := Table.get (fun _ => 0) c.counts 2,
    sums := (List.range 3).map (fun b => microseconds (c.dutySum b)),
    pads := (List.range 3).map (fun b => if kind = 2 then 0 else c.recordPad b), counts := c.counts, bins := c.bins }

/-- The 4 KiB of a record (R465). -/
def LogRec.bytes (r : LogRec) : List Byte :=
  let zeros := fun n => List.replicate n (0 : Byte)
  let body := leBytes 4 0x25601B0C ++ leBytes 4 r.seq ++ leBytes 1 r.kind ++ zeros 7 ++ leBytes 8 r.time ++ leBytes 4 r.boots ++
    zeros 36 ++ (List.range 3).flatMap (fun b => leBytes 4 (r.sums.getD b 0) ++ leBytes 4 (r.pads.getD b 0)) ++ zeros 40 ++
    (List.range 128).flatMap (fun i => leBytes 8 (Table.get (fun _ => 0) r.counts i)) ++
    (List.range 7).flatMap (fun h => (List.range (histBins.getD h 0)).flatMap (fun b =>
      leBytes 4 (Table.get (fun _ => 0) r.bins (64 * h + b)))) ++ zeros 2312
  body ++ leBytes 4 (crc32c body)

/-! ### The ring (R466, R468) -/

/-- LB_STATUS.AHEAD. -/
def Core.ahead (c : Core) : Nat := c.fld R.LB_STATUS.at 4 2

/-- A record can be written: a block is erased and 64 or more blocks are good. -/
def Core.canRecord (c : Core) : Bool := decide (0 < c.ahead) && decide (c.nv.badBlocks + 64 ≤ 1024)

/-- The records that the ring holds. -/
def Core.trimRing (c : Core) : Core :=
  { c with nv := { c.nv with records := c.nv.records.take (1024 - c.nv.badBlocks - c.ahead) } }

/-- Ticks that writing a record takes: the longest that R466 and R468 allow (log entry 25). -/
def recordTicks (kind : Nat) : Nat := if kind = 2 then 1536 else 1228

/-- The sequence number of the next record to be started. -/
def Core.nextSeq (c : Core) : Nat := (c.newestSeq + c.logJobs.length + 1) % 2 ^ 32

/-- A record of a kind is started in the first erased block, after those already being written; `reset` waits for it. -/
def Core.startRecord (c : Core) (kind : Nat) (nor : Bool) (reset : Option Nat) : Core :=
  let from_ := match c.logJobs.getLast? with | some j => j.due | none => c.now
  let job : LogJob := { kind := kind, due := from_ + recordTicks kind, nor := nor, entry := c.liveRecord kind c.nextSeq, reset := reset }
  ({ c with logJobs := c.logJobs ++ [job] }.setFld R.LB_STATUS.at 4 2 (c.ahead - 1)).setFld R.LB_STATUS.at 3 1 1

/-- A block that failed its program or erase check is bad (R466). -/
def Core.blockBad (c : Core) : Core :=
  let n := c.nv.badBlocks + 1
  ({ c with nv := { c.nv with badBlocks := n } }.setFld R.LB_STATUS.at 16 10 n).event 0x19 3

/-- A record is complete, or its write has failed. -/
def Core.endRecord (c : Core) (j : LogJob) : Core :=
  let c1 := { c with logJobs := c.logJobs.drop 1 }
  let c2 := c1.setFld R.LB_STATUS.at 3 1 (b2n (decide (c1.logJobs ≠ [])))
  let c3 :=
    if j.nor then
      let e := { j.entry with seq := (c2.newestSeq + 1) % 2 ^ 32 }
      let d := { c2 with nv := { c2.nv with records := e :: c2.nv.records } }.trimRing
      let d1 := ((d.setFld R.LB_STATUS.at 0 2 j.kind).setNat R.LB_SEQ.at e.seq).setNat R.LB_REC_TICK.at (e.time / 48)
      if j.kind = 2 then (d1.event 0x19 1).tally 12 else d1.event 0x19 0
    else c2.blockBad
  if j.kind = 0 then c3
  else c3.effectDone 0x58 0 10 (if j.nor then 0 else 3) (leBytes 4 c3.newestSeq)

/-- What the Logbook does at the start of a tick: a record that is complete stands, and the reset that waited for it happens. -/
def Core.logClock (c : Core) : Core :=
  match c.logJobs.head? with
  | some j =>
    if j.due ≤ c.now then
      let d := c.endRecord j
      match j.reset with
      | some cause => if d.logJobs.isEmpty then d.deviceReset cause d.start else d
      | none => d
    else c
  | none => c

/-- The Logbook runs: its newest record has been loaded (R467). -/
def Core.logRuns (c : Core) : Bool := decide (3 ≤ c.stage)

/-- A final commit (R468): what is being written is abandoned, and a FINAL record goes to the next erased block. -/
def Core.finalCommit (c : Core) (reset : Option Nat) : Core :=
  let c1 := { c with logJobs := [] }
  if c1.canRecord then c1.startRecord 2 true reset
  else (((c1.setFld R.LB_STATUS.at 3 1 0).tally 13).event 0x19 2).effectDone 0x58 0 10 3 []

/-- A commit runs. -/
def Core.commitRuns (c : Core) : Bool := c.logJobs.any (fun j => decide (j.kind = 2))

/-- A warm reset whose source commits the Logbook first (R394): delayed until the FINAL record is complete; at once where nothing can be
committed. `x` is what holds the device afterwards. -/
def Core.resetAfterCommit (c : Core) (cause : Nat) (x : StartRec) : Core :=
  let c0 := { c with start := x }
  if c.commitRuns then { c0 with logJobs := c0.logJobs.map (fun j => { j with reset := some (j.reset.getD cause) }) }
  else if c.logRuns && c.yardRuns then
    let d := c0.finalCommit (some cause)
    if d.commitRuns then d else d.deviceReset cause x
  else c0.deviceReset cause x

/-- The same as a command: a reset that happens at once restarts the tick. -/
def State.resetAfterCommit (s : State) (cause : Nat) (x : StartRec) : Host.Outcome State Fault Refusal :=
  let d := s.core.resetAfterCommit cause x
  if d.commitRuns then .next { s with core := d } else s.reboot d

/-- PWRFAIL (R408, R468, R481): in the tick in which PWRFAIL_N is sampled low after high the radio stops taking requests, calibration is
abandoned and a FINAL record is written; a snapshot in flight completes with it (R470). -/
def execPwrfail (low : Bool) (s : State) : Host.Outcome State Fault Refusal :=
  s.run (fun c =>
    let was := decide (c.fld R.PT_STATUS.at 1 1 = 1)
    if low && !was then
      let c1 := (((c.setFld R.PT_STATUS.at 1 1 1).event 0x1B 2).tally 11).radioPowerFail
      let c2 := c1.setFld R.CAL_STATUS.at 4 4 0
      if c2.logRuns && !c2.commitRuns then c2.finalCommit none else c2
    else if !low && was then c.setFld R.PT_STATUS.at 1 1 0
    else c)

/-- LB_PERIODIC_RECORD (R466): at a Yard time that is a multiple of the interval. -/
def execLbPeriodicRecord (nor : Bool) (s : State) : Host.Outcome State Fault Refusal :=
  s.act 0x19 (fun c =>
    if c.logRuns && decide (c.now % (c.fld R.LB_CFG.at 0 12 * 1024000) = 0) && !c.commitRuns && c.canRecord then
      c.startRecord 0 nor none
    else c)

/-- LB_ERASE_DONE (R466, R470): the background erase waits while PWRFAIL_N is low. -/
def execLbEraseDone (good : Bool) (s : State) : Host.Outcome State Fault Refusal :=
  s.act 0x19 (fun c =>
    if c.ahead < 3 ∧ c.fld R.PT_STATUS.at 1 1 = 0 then
      (if good then (c.setFld R.LB_STATUS.at 4 2 (c.ahead + 1)).trimRing else c.blockBad.trimRing)
    else c)

/-! ### Loading at boot (R313, R467) -/

/-- Fine cycles of an airtime in µs, rounded up. -/
def fineOfMicro (us : Nat) : Nat := (us * 49152 + 999) / 1000

/-- The newest record that reads without an uncorrectable error is loaded, and the duty windows are charged with its sums and PADs, or in
full where there is none (R313, R467, R470). -/
def Core.loadLog (c : Core) (bad : Nat) : Core :=
  let marked := (c.nv.records.take bad).map (fun r => { r with ue := true }) ++ c.nv.records.drop bad
  let c1 := { c with nv := { c.nv with records := marked } }
  let c2 := c1.setFld R.LB_STATUS.at 16 10 c1.nv.badBlocks
  let charge := fun (d : Core) (f : Nat → Nat) =>
    ({ d with radio := { d.radio with duty := d.radio.duty ++ (List.range 3).map (fun b => (b, 0, f b)) } }).showDuty
  match marked.find? (fun r => !r.ue) with
  | none => charge c2 c2.dutyAllowance
  | some r =>
    let live := c2.counts
    let older := r.counts
    let c3 := live.foldl (fun d e => d.tally e.1 e.2) { c2 with counts := older, bins := r.bins }
    let c4 := ((c3.setFld R.LB_STATUS.at 0 2 r.kind).setNat R.LB_SEQ.at r.seq).setNat R.LB_REC_TICK.at (r.time / 48)
    let c5 := if marked.head?.any (·.ue) then ((c4.setFld R.LB_STATUS.at 2 1 1).event 0x19 4).tally 40 else c4
    charge c5 (fun b => fineOfMicro (r.sums.getD b 0 + r.pads.getD b 0))

/-! ### Samples and reads (R464, R471) -/

/-- HIST_SAMPLE (R463, R464): the seconds counters and the per-second histograms; 0 to 2 once a window has ended (R479). -/
def execHistSample (s : State) : Host.Outcome State Fault Refusal :=
  s.run (fun c =>
    if c.logRuns && decide (c.now % 1024000 = 0) then
      let c1 := c.tally 0
      let c2 := if c1.ready then c1.tally 1 else c1
      let t := signedOf 16 (c2.fld R.PT_TEMP.at 0 16)
      let mv := c2.fld R.PT_VCORE.at 0 16
      let c3 := if c2.fld R.PT_TEMP.at 0 16 = 0x8000 then c2 else
        let b0 := if t < -40 * 256 then 0 else if 125 * 256 ≤ t then 34 else ((t + 45 * 256) / (5 * 256)).toNat
        let b1 := if mv < 700 then 0 else if 800 ≤ mv then 21 else (mv - 695) / 5
        ((c2.tallyBin 0 b0).tallyBin 1 b1).tallyBin 2 (min 24 (c2.fld R.PT_POWER.at 0 16 / 100))
      c3.tallyBin 3 (min 20 (c3.unitsUsed / 32))
    else c)

/-- The value that a selection of LB_SEL names (R471). -/
def Core.logValue (c : Core) (v : Word) : Nat :=
  let i := fieldOf v 0 8
  let b := fieldOf v 16 6
  let stored := bitOf v 24
  let counts := if stored then (match c.nv.records.find? (fun r => !r.ue) with | some r => r.counts | none => []) else c.counts
  let bins := if stored then (match c.nv.records.find? (fun r => !r.ue) with | some r => r.bins | none => []) else c.bins
  if bitOf v 8 then (if b < histBins.getD i 0 then Table.get (fun _ => 0) bins (64 * i + b) else 0)
  else if i < 41 then Table.get (fun _ => 0) counts i else 0

/-- A write of LB_SEL (R471). -/
def lbSelWrite (c : Core) (v : Word) : Core × Bool :=
  let w := v &&& 0x13F01FF
  ((c.setReg R.LB_SEL.at w).setPair R.LB_DATA_LO.at R.LB_DATA_HI.at (c.logValue w % 2 ^ 64), true)

/-- LB_SEL_WRITE (R471). -/
def execLbSelWrite (port : Port) (v : Word) (s : State) : Host.Outcome State Fault Refusal :=
  s.write port R.LB_SEL R.LB_SEL.at v lbSelWrite

/-- A write of LB_CFG (R472): INTERVAL outside 60 to 3600 is refused. -/
def lbCfgWrite (c : Core) (v : Word) : Core × Bool :=
  if fieldOf v 0 12 < 60 ∨ 3600 < fieldOf v 0 12 then c.refusePage 0x19 else (c.setReg R.LB_CFG.at (v &&& 0xFFF), true)

/-! ### Commands (R473) -/

/-- A Shed address for 4 KiB in the host region (R459, R473). -/
def pageAddress (a : Nat) : Bool := decide (a % 4096 = 0) && inKeptRegion a

/-- LB_SNAPSHOT (R473). -/
def execLbSnapshot (h : CmdHead) (nor : Bool) (s : State) : Host.Outcome State Fault Refusal :=
  s.run (fun c => c.command h 0x58 (fun c =>
    if c.commitRuns || !c.canRecord then c.complete 0x58 h.seq 1 10 c.now []
    else (c.startRecord 1 nor none).finish h 0x58 0 10 0 (leBytes 4 c.nextSeq)))

/-- LB_DUMP (R473): the live image, with the newest record's sequence number. -/
def execLbDump (h : CmdHead) (addr : Nat) (s : State) : Host.Outcome State Fault Refusal :=
  s.run (fun c => c.command h 0x59 (fun c =>
    if !pageAddress addr then c.complete 0x59 h.seq 2 10 c.now []
    else (c.shedWrite addr (c.liveRecord 1 c.newestSeq).bytes).complete 0x59 h.seq 0 10 c.now []))

/-- LB_RECORD (R473). -/
def execLbRecord (h : CmdHead) (age addr : Nat) (s : State) : Host.Outcome State Fault Refusal :=
  s.run (fun c => c.command h 0x5A (fun c =>
    if !pageAddress addr || decide (1023 < age) then c.complete 0x5A h.seq 2 10 c.now []
    else match c.nv.records[age]? with
      | some r =>
        if r.ue then c.complete 0x5A h.seq 4 10 c.now []
        else (c.shedWrite addr r.bytes).complete 0x5A h.seq 0 10 c.now (leBytes 4 r.seq)
      | none => c.complete 0x5A h.seq 4 10 c.now []))

end Sys2Proof.Machine
end

