-- ==== Sys2Proof/Machine/Guard.lean ====
section
/-! DEFINITION. The Guard: presence, the guarded window and the seal (R454 to R458, R462). -/

namespace Sys2Proof.Machine

/-- GRD_STATUS.LC: 0 BLANK, 1 PROVISIONED, 2 DEPLOYED, 3 RETURNED, 4 RETIRED. -/
def Core.lc (c : Core) : Nat := c.fld R.GRD_STATUS.at 4 3

/-- The guarded window is open (GRD_STATUS.WINDOW). -/
def Core.windowOpen (c : Core) : Bool := decide (c.fld R.GRD_STATUS.at 0 1 = 1)

/-- A guarded action is accepted (R454, R458): judged against the window as it stood at the start of the tick; in BLANK and PROVISIONED
the window counts as open. -/
def Core.guardAccepts (c : Core) : Bool := decide (c.lc < 2) || (decide (c.lc ≠ 4) && c.guard.openAtStart)

/-- A refused guarded action (R458). -/
def Core.guardRefused (c : Core) : Core := c.event 0x18 5

/-- The Guard samples PRESENCE_N and the seal from STAGE ROM on (R456). -/
def Core.guardRuns (c : Core) : Bool := (decide (2 ≤ c.stage) && decide (c.stage ≠ 15)) && c.enabled 0x18

/-- Open the guarded window for 120 s, or restart it, which counts as an opening (R455, R462; log entry 26). -/
def Core.openWindow (c : Core) : Core :=
  let c1 := { c with guard := { c.guard with closeAt := some (c.now + 122880000) } }
  (((c1.setFld R.GRD_STATUS.at 0 1 1).stampTick R.GRD_OPEN_TICK.at).bump R.GRD_WINDOW_CNT.at).event 0x18 0

/-- Close the guarded window (R455). -/
def Core.closeWindow (c : Core) : Core :=
  if c.windowOpen then
    ({ c with guard := { c.guard with closeAt := none } }.setFld R.GRD_STATUS.at 0 1 0).event 0x18 1
  else c

/-- A long press (R455, R456). -/
def Core.longPress (c : Core) : Core := ((c.bump R.GRD_LONG_CNT.at).tally 31).event 0x18 2

/-- PRESENCE_PRESS (R455, R456). -/
def execPresencePress (e : PresenceEdge) (s : State) : Host.Outcome State Fault Refusal :=
  s.run (fun c =>
    if !c.guardRuns then c
    else
      let g := c.guard
      match e with
      | .initialLow =>
        if g.seen then c
        else { c with guard := { g with seen := true, initial := some c.now } }.setFld R.GRD_STATUS.at 2 1 1
      | .fall =>
        if c.fld R.GRD_STATUS.at 2 1 = 1 then c
        else { c with guard := { g with seen := true, fell := some c.now } }.setFld R.GRD_STATUS.at 2 1 1
      | .rise =>
        let c1 := { c with guard := { g with seen := true, initial := none, fell := none } }.setFld R.GRD_STATUS.at 2 1 0
        match g.fell with
        | some t =>
          let held := c.now - t
          if held < 2048000 then c1 else if held ≤ 10240000 then c1.openWindow else c1.longPress
        | none => c1)

/-- INITIAL_LOW_TIMEOUT (R456): once. -/
def execInitialLowTimeout (s : State) : Host.Outcome State Fault Refusal :=
  s.run (fun c =>
    match c.guard.initial with
    | some t => if t + 10240000 ≤ c.now then { c with guard := { c.guard with initial := none } }.longPress else c
    | none => c)

/-- GUARD_WINDOW_EXPIRE (R455). -/
def execGuardWindowExpire (s : State) : Host.Outcome State Fault Refusal :=
  s.run (fun c =>
    match c.guard.closeAt with
    | some t => if t ≤ c.now then c.closeWindow else c
    | none => c)

/-- A write of GRD_CTRL (R455). -/
def grdCtrlWrite (c : Core) (v : Word) : Core × Bool := (if bitOf v 0 then c.closeWindow else c, true)

/-- GUARD_CLOSE (R455). -/
def execGuardClose (port : Port) (v : Word) (s : State) : Host.Outcome State Fault Refusal :=
  s.write port R.GRD_CTRL R.GRD_CTRL.at v grdCtrlWrite

/-- One step of x^31 + x^28 + 1 (R457): the bit and the register after. -/
def sealStep (x : BitVec 31) : Bool × BitVec 31 :=
  let b := x.getLsbD 30 ^^ x.getLsbD 27
  (b, (x <<< 1) ||| BitVec.ofNat 31 (b2n b))

/-- The next 32 bits, the first in bit 0. -/
def sealWord (x : BitVec 31) : Word × BitVec 31 :=
  (List.range 32).foldl (fun r i => let t := sealStep r.2; (r.1 ||| BitVec.ofNat 32 (b2n t.1 * 2 ^ i), t.2)) (0, x)

/-- SEAL_CHECK (R457): every 10 ms, the first check of a boot drawing the seed. -/
def execSealCheck (errors : Word) (s : State) : Host.Outcome State Fault Refusal :=
  s.run (fun c =>
    let due := match c.guard.sealTick with | some t => decide (t + 10240 ≤ c.now) | none => true
    if c.guardRuns && due then
      let seed : BitVec 31 × Core := if c.guard.sealTick.isNone then (let d := c.draw; (BitVec.ofNat 31 (d.1.toNat % 2 ^ 31), d.2)) else (c.guard.prbs, c)
      let w := sealWord seed.1
      let good := decide (errors = 0)
      let fails := if good then 0 else c.guard.fails + 1
      let passes := if good then c.guard.passes + 1 else 0
      let c1 : Core := { seed.2 with guard := { seed.2.guard with prbs := w.2, fails := fails, passes := passes, sealTick := some c.now } }
      let c2 : Core := (if good then c1 else c1.bump R.GRD_SEAL_FAIL_CNT.at).put (.sealBits w.1)
      let closed := decide (c2.fld R.GRD_STATUS.at 1 1 = 1)
      if closed && decide (2 ≤ fails) then
        (((c2.setFld R.GRD_STATUS.at 1 1 0).bump R.GRD_SEAL_OPEN_CNT.at).event 0x18 3).tally 32
      else if !closed && decide (10 ≤ passes) then (c2.setFld R.GRD_STATUS.at 1 1 1).event 0x18 4
      else c2
    else c)

/-- What the Guard does at the start of a tick: guarded actions of the tick are judged against this window (R458). -/
def Core.guardClock (c : Core) : Core := { c with guard := { c.guard with openAtStart := c.windowOpen } }

end Sys2Proof.Machine
end

