-- ==== Sys2Proof/Machine/Integrity.lean ====
section
/-! DEFINITION. Memory errors, the checking stall, the self-test engine and test access (R413 to R436). -/

namespace Sys2Proof.Machine

/-! ### Errors in memories (R413, R415, R416) -/

/-- A SRAM error (R413, R432): word address, region, bit. -/
def Core.sramError (c : Core) (region addr bit : Nat) (ue scrub : Bool) : Core :=
  let c1 := (c.bump (if ue then R.SRAM_UE_CNT.at else R.SRAM_CE_CNT.at)).setNat R.SRAM_LAST_ADDR.at addr
  let c2 := c1.setNat R.SRAM_LAST.at (region + bit * 2 ^ 16 + b2n ue * 2 ^ 24 + b2n scrub * 2 ^ 25 + 2 ^ 31)
  (c2.event 0x15 (if ue then 7 else 6)).tally (if ue then 20 else 19)

/-- A NOR sector with corrected bits, or an uncorrectable error (R413, R416, R432). -/
def Core.norError (c : Core) (sector bits : Nat) (ue : Bool) : Core :=
  let c1 := (c.bump (if ue then R.NOR_UE_CNT.at else R.NOR_CORR_CNT.at)).setNat R.NOR_LAST.at
    (sector + bits * 2 ^ 20 + b2n ue * 2 ^ 24 + 2 ^ 31)
  (c1.event 0x15 (if ue then 9 else 8)).tally (if ue then 22 else 21)

/-- The single-bit error of a Shed word is corrected and written back (R413). -/
def Core.shedCorrect (c : Core) (w : Nat) (scrub : Bool) : Core :=
  { c with shedCe := Table.set (fun _ => false) c.shedCe w false }.shedError w false scrub

/-- ECC_CORRECTED (R413). -/
def execEccCorrected (p : MemPlace) (s : State) : Host.Outcome State Fault Refusal :=
  s.run (fun c =>
    match p with
    | .shed w => c.shedCorrect w.val false
    | .sram r a b => c.sramError r.val a.toNat b.toNat false false
    | .nor x n => c.norError x.val n.val false)

/-- SCRUB_READ (R415): the words of one MiB that hold an error, the ones named and the ones known, are read; a word with an uncorrectable
error is left as it is. -/
def execScrubRead (words : List Nat) (mib : Fin 16384) (s : State) : Host.Outcome State Fault Refusal :=
  s.run (fun c =>
    if bitOf (c.reg R.SHED_ECC_CFG.at) 0 then
      let here := fun w => decide (w / 131072 = mib.val)
      let found := words.filter (fun w => here w && !Table.get (fun _ => false) c.shedCe w && !c.wordBad w)
      let known := ((c.shedCe.filter (fun e => here e.1)).map (·.1))
      let bad := ((c.shedBad.filter (fun e => here e.1)).map (·.1))
      let c1 := (found ++ known).foldl (fun d w => d.shedCorrect w true) c
      let c2 := bad.foldl (fun d w => d.shedError w true true) c1
      if mib.val = 16383 then (c2.setNat R.SHED_SCRUB_POS.at 0).bump R.SHED_SCRUB_PASS.at
      else c2.setNat R.SHED_SCRUB_POS.at (mib.val + 1)
    else c)

/-- What an uncorrectable error of the NOR takes away (R416). -/
def Core.norLost (c : Core) (o : NorObject) : Core :=
  match o with
  | .slot i => { c with nv := { c.nv with slots := c.nv.slots.modify i.val (fun x => { x with ue := true }) } }
  | .profile k => { c with nv := { c.nv with
      profiles := Table.set (fun _ => none) c.nv.profiles k.val
        ((Table.get (fun _ => none) c.nv.profiles k.val).map (fun x => { x with good := false })) } }
  | .record a => { c with nv := { c.nv with records := c.nv.records.modify a (fun x => { x with ue := true }) } }
  | .field => { c with nv := { c.nv with field := none } }.setFld R.CAL_STATUS.at 9 1 0
  | .other => c

/-- NOR_REFRESH (R416): a sector with 5 or more corrected bits is refreshed. -/
def execNorRefresh (l : List NorSector) (s : State) : Host.Outcome State Fault Refusal :=
  s.run (fun c =>
    l.foldl (fun d x =>
      if x.ue then (d.norError x.sector.val x.bits.val true).norLost x.object
      else if x.bits.val = 0 then d
      else
        let e := d.norError x.sector.val x.bits.val false
        if 5 ≤ x.bits.val then e.bump R.NOR_REFRESH_CNT.at else e) c)

/-- A write of SHED_ECC_CFG (R435): SCRUB_H 0 is refused; INJ_CE and INJ_UE are set. -/
def eccCfgWrite (c : Core) (v : Word) : Core × Bool :=
  if fieldOf v 8 8 = 0 then c.refusePage 0x1A else plainWrite R.SHED_ECC_CFG R.SHED_ECC_CFG.at c v

/-- ECC_INJECT (R435). -/
def execEccInject (port : Port) (v : Word) (s : State) : Host.Outcome State Fault Refusal :=
  s.write port R.SHED_ECC_CFG R.SHED_ECC_CFG.at v eccCfgWrite

/-! ### The checking stall (R417 to R422) -/

/-- CHECK_STATUS.ACTIVE. -/
def Core.checkActive (c : Core) : Bool := bitOf (c.reg R.CHECK_STATUS.at) 8

/-- Stall `n` can be checked: SETTLING or RUNNING, and no hoist of it in SWITCH. -/
def Core.checkable (c : Core) (n : Nat) : Bool :=
  (decide (c.stState n = 2) || decide (c.stState n = 3)) && decide (c.hsState n ≠ 4)

/-- The bin that a bin check takes from bin `b` on (0 to 383): one whose input is ON (R421). -/
def Core.nextBin (c : Core) (b : Nat) : Option Nat :=
  ((List.range 384).map (fun i => (b + i) % 384)).find? (fun x => c.inputOn (x / 192 + 1))

/-- What the check of a second takes (R417, R420, R421, R430): a bin or a stall. A bin to be repeated and a stall to be checked again go
first (log entry 28). -/
def Core.checkTarget (c : Core) : Option (Nat ⊕ Nat) :=
  let k := c.now / 1024000
  let every := c.fld R.CHECK_CFG.at 16 8
  if c.check.twice ∧ (c.inputOn (c.check.bin / 192 + 1)) = true then some (.inl c.check.bin)
  else match c.check.again.find? c.checkable with
    | some n => some (.inr n)
    | none =>
      if every ≠ 0 ∧ k % every = every - 1 then (c.nextBin c.check.bin).map .inl
      else if c.fld R.CHECK_CFG.at 2 1 = 1 then
        (if c.checkable (c.fld R.CHECK_CFG.at 8 8) then some (.inr (c.fld R.CHECK_CFG.at 8 8)) else none)
      else (((List.range 256).map (fun i => (c.check.after + 1 + i) % 256)).find? c.checkable).map .inr

/-- CHECK_START (R417): the first tick of a Yard second; a second in which no check can start is counted. -/
def execCheckStart (s : State) : Host.Outcome State Fault Refusal :=
  s.act 0x16 (fun c =>
    if c.now % 1024000 = 0 ∧ bitOf (c.reg R.CHECK_CFG.at) 0 = true ∧ c.ready = true then
      if c.checkActive then c.bump R.CHECK_SKIP_CNT.at
      else if (c.unitInUse 2).isNone then c.bump R.CHECK_SKIP_CNT.at
      else match c.checkTarget with
        | none => c.bump R.CHECK_SKIP_CNT.at
        | some t =>
          let bank := t.isLeft
          let x := match t with | .inl b => b % 192 | .inr n => n
          let c1 := ((c.setFld R.CHECK_STATUS.at 0 8 x).setFld R.CHECK_STATUS.at 8 1 1).setFld R.CHECK_STATUS.at 9 1 (b2n bank)
          let k := { c1.check with p := c1.now, copied := false }
          match t with
          | .inl b => { c1 with check := { k with bin := b, input := b / 192 } }
          | .inr n => { c1 with check := { k with after := n, again := k.again.filter (fun m => decide (m ≠ n)) } }
    else c)

/-- CHECK_COPY (R418): at the boundary into p + 33, from which tick on ST_STATUS.UNDER_CHECK reads 1. -/
def execCheckCopy (s : State) : Host.Outcome State Fault Refusal :=
  s.act 0x16 (fun c =>
    if c.checkActive && !c.check.copied && decide (c.check.p + 32 ≤ c.now) then
      let d := { c with check := { c.check with copied := true } }
      if bitOf (c.reg R.CHECK_STATUS.at) 9 then d else d.setFld (R.ST_STATUS.at (c.fld R.CHECK_STATUS.at 0 8)) 5 1 1
    else c)

/-- The result of a check into CHECK_LAST (R422). -/
def Core.checkResult (c : Core) (x : Nat) (bank : Bool) (mark : Nat) : Core :=
  let c1 := (c.setFld R.CHECK_STATUS.at 8 1 0).setNat R.CHECK_LAST.at
    (x + 512 * b2n bank + 2048 * (if bank then c.check.input else 0) + mark)
  c1.stampTick R.CHECK_LAST_TICK.at

/-- A bin check ends (R421): a mismatch repeats it, a second one in a row is a BANK_FAULT; else the next bin follows. -/
def Core.binChecked (c : Core) (bad : Bool) : Core :=
  let next := { c.check with bin := (c.check.bin + 1) % 384, twice := false }
  if !bad then { c with check := next }
  else if c.check.twice then ({ c with check := next }.event 0x16 3).tally 24
  else { c with check := { c.check with twice := true } }.event 0x16 2

/-- A stall check met an unequal word (R420): the stall moves with CAUSE 0, and both units go to test. -/
def Core.stallMismatch (c : Core) (n : Nat) : Core :=
  let c1 := ((c.setFld (R.ST_STATUS.at n) 5 1 0).stEvent n 6).event 0x16 0
  let u := (c1.unitInUse 2).getD 0
  let c2 := if (c1.unitInUse 2).isSome then c1.setUnit u 3 0 else c1
  let t : Trial := { former := c2.unitOf n, checker := u, stall := n }
  let k := c2.check
  let again := if c2.freeUnits.isEmpty then k.again ++ [n] else k.again
  let resync := if bitOf (c2.reg R.CHECK_CFG.at) 1 then k.resync ++ [n] else k.resync
  let c3 := { c2 with check := { k with trials := k.trials ++ [t], again := again, resync := resync } }
  c3.setStallRec n { c3.stallRec n with retry := some 0, retryAt := c3.now + 1 }

/-- CHECK_END (R419 to R421). -/
def execCheckEnd (m : Option (Fin 3 × Fin 4096)) (s : State) : Host.Outcome State Fault Refusal :=
  s.act 0x16 (fun c =>
    let bank := bitOf (c.reg R.CHECK_STATUS.at) 9
    let x := c.fld R.CHECK_STATUS.at 0 8
    if c.checkActive && c.check.copied then
      match m with
      | none =>
        let c1 := (c.checkResult x bank 256).bump R.CHECK_CNT.at
        if bank then c1.binChecked false else (c1.setFld (R.ST_STATUS.at x) 5 1 0).effectDone 0x62 x 12 0 []
      | some e =>
        let c1 := ((c.checkResult x bank (2 ^ 16 * e.2.val + 2 ^ 28 * e.1.val)).bump R.CHECK_MM_CNT.at).tally 23
        if bank then c1.binChecked true else (c1.stallMismatch x).effectDone 0x62 x 12 0 []
    else c)

/-- What the checking stall does at the start of a tick: RESYNC in M + 1 of a mismatch's move (R420). -/
def Core.checkClock (c : Core) : Core :=
  c.check.resync.foldl (fun d n =>
    let r := d.stallRec n
    if d.stState n = 0 ∨ d.stState n = 6 then { d with check := { d.check with resync := d.check.resync.erase n } }
    else if r.move.isNone ∧ r.retry.isNone then
      let e := { d with check := { d.check with resync := d.check.resync.erase n } }
      if e.live n then e.startReset n (e.now + 1) false else e
    else d) c

/-- CHECK_NOW (R430). -/
def execCheckNow (h : CmdHead) (n : Fin 256) (s : State) : Host.Outcome State Fault Refusal :=
  s.run (fun c => c.command h 0x62 (fun c =>
    if ¬(c.stState n = 2 ∨ c.stState n = 3) ∨ bitOf (c.reg R.CHECK_CFG.at) 0 = false then c.complete 0x62 h.seq 1 12 c.now []
    else
      let at_ := (c.now / 1024000 + 1) * 1024000
      { c with check := { c.check with again := n.val :: c.check.again.filter (fun m => decide (m ≠ n.val)) } }.finish h 0x62 0 12 n.val
        (leBytes 4 at_)))

/-! ### The self-test engine (R423 to R434) -/

/-- A region of R423. -/
def regionKnown (r : Nat) : Bool := decide (r < 0x1D2) || (decide (0x200 ≤ r) && decide (r < 0x280)) || decide (r = 0x2F0)

/-- The kinds offered for a region (R423): 0 MEM, 1 LOGIC, 2 both. -/
def kindOffered (r k : Nat) : Bool :=
  if 0x160 ≤ r ∧ r < 0x1D0 then decide (k = 1)
  else if 0x200 ≤ r ∧ r < 0x280 then decide (k = 0)
  else decide (k ≤ 2)

/-- A region that cannot be retired (R427). -/
def regionStays (r : Nat) : Bool := decide (0x200 ≤ r)

/-- Slices of a region at the present budget (R424): a stall unit takes 24 576 ticks of test. -/
def Core.regionSlices (c : Core) (r : Nat) : Nat :=
  let ticks := if r < 272 then 24576 else Config.regionTicks r
  let budget := c.fld R.STE_CFG.at 0 12
  if budget = 0 then 0 else (ticks + budget - 1) / budget

/-- The self-test of a region is barred by the life cycle (R436). -/
def Core.regionBarred (c : Core) (r : Nat) : Bool := decide (r = 0x2F0) && decide (c.lc = 4)

/-- STE_STATUS while a run stands (R432). -/
def Core.showSte (c : Core) (active : Bool) : Core :=
  match c.ste.run with
  | some r => c.setNat R.STE_STATUS.at (r.region + 4096 * b2n active + 8192 * b2n r.host + 2 ^ 16 * r.slice)
  | none => c.setNat R.STE_STATUS.at 0

/-- A slice holds a region (STE_STATUS.SLICE_ACTIVE). -/
def Core.sliceActive (c : Core) : Bool := bitOf (c.reg R.STE_STATUS.at) 12

/-- The active slice gives its region back (R424, R425): a unit that it took free is free again. -/
def Core.sliceRelease (c : Core) (r : SteRun) : Core :=
  let c1 := if r.took ∧ (c.unit r.region).use = 3 then c.releaseUnit r.region else c
  ({ c1 with ste := { c1.ste with run := some { r with took := false } } }).showSte false

/-- A region can be taken for a slice (R423): a unit waits for its test, or is free with FREE ≥ 2 (R143). -/
def Core.regionReady (c : Core) (r : Nat) : Bool :=
  if r < 272 then decide ((c.unit r).use = 3) || (decide ((c.unit r).use = 0) && decide (2 ≤ c.freeUnits.length))
  else if r < 0x150 then decide ((c.scout (r - 0x110)).use = 0)
  else if r < 0x158 then true
  else if r < 0x160 then !c.sapSlave (r - 0x158)
  else if r < 0x1D0 then decide ((c.detector (r - 0x160)).st = 0) && decide ((c.detector ((r - 0x160) ^^^ 1)).st = 0)
  else if r < 0x1D2 then decide (c.fld R.UPD_STATUS.at 8 1 ≠ r - 0x1D0) && decide (c.fld R.UPD_STATUS.at 9 1 = 1)
  else true

/-- The next slice of the run takes its region. -/
def Core.sliceStart (c : Core) (r : SteRun) : Core :=
  if c.regionReady r.region then
    let free := decide (r.region < 272) && decide ((c.unit r.region).use = 0)
    let c1 := if free then c.setUnit r.region 3 0 else c
    ({ c1 with ste := { c1.ste with run := some { r with took := free } } }).showSte true
  else if r.region < 272 ∧ (c.unit r.region).use = 1 ∧ (c.stallRec (c.unit r.region).stall).retry.isNone = true ∧
      (c.stallRec (c.unit r.region).stall).move.isNone = true then
    let n := (c.unit r.region).stall
    c.setStallRec n { c.stallRec n with retry := some 0, retryAt := c.now + 1 }
  else c

/-- The rotation's order (R429): units, scouts, cores, ASRC instances, detectors, the standby processor, shared SRAM. -/
def Core.rotationRegion (c : Core) (i : Nat) : Nat :=
  if i < 0x1D0 then i else if i = 0x1D0 then (if c.fld R.UPD_STATUS.at 8 1 = 0 then 0x1D1 else 0x1D0) else 0x200 + (i - 0x1D1)

/-- Regions in one rotation. -/
def rotationLength : Nat := 0x1D1 + 128

/-- A unit that waits for its test (R420, R429): of the oldest mismatch the former unit first, then the checking unit, then any other. -/
def Core.waitingUnit (c : Core) : Option Nat :=
  let asked := c.check.trials.flatMap (fun t =>
    (if t.formerOk.isNone then [t.former] else []) ++ (if t.checkerOk.isNone then [t.checker] else []))
  (asked ++ (List.range 272)).find? (fun u => decide ((c.unit u).use = 3))

/-- The run that is to begin when none stands (R429): a waiting test, else the rotation's next region. -/
def Core.nextRun (c : Core) : Core :=
  match c.waitingUnit with
  | some u => { c with ste := { c.ste with run := some { region := u, kind := 2, count := 65536, host := false, began := c.now } } }
  | none =>
    if bitOf (c.reg R.STE_CFG.at) 12 && decide (c.ste.nextAt ≤ c.now) then
      let r := c.rotationRegion c.ste.place
      let last := decide (rotationLength ≤ c.ste.place + 1)
      let held := decide (r < 272) && decide ((c.unit r).use = 2)
      let c1 := { c with ste := { c.ste with place := if last then 0 else c.ste.place + 1 } }
      let c2 := if last then c1.event 0x15 5 else c1
      if c2.regionRetired r || held then c2
      else
        let kind := if kindOffered r 2 then 2 else if kindOffered r 1 then 1 else 0
        { c2 with ste := { c2.ste with run := some { region := r, kind := kind, count := 65536, host := false, began := c2.now } } }
    else c

/-- STE_SLICE (R424, R429): the active slice ends, or the next one begins; without a run the next run begins. -/
def execSteSlice (s : State) : Host.Outcome State Fault Refusal :=
  s.act 0x15 (fun c =>
    let c0 := if c.ste.run.isNone then c.nextRun else c
    match c0.ste.run with
    | none => c0
    | some r =>
      if c0.sliceActive then
        let d := c0.sliceRelease { r with slice := r.slice + 1, yields := 0 }
        { d with ste := { d.ste with nextAt := if r.host || (c.waitingUnit).isSome then d.now
                                               else d.now + 1024 * d.fld R.STE_CFG.at 16 8 } }
      else if r.slice < c0.regionSlices r.region ∧ r.cut = false ∧ c0.ste.nextAt ≤ c0.now then c0.sliceStart r
      else c0)

/-- The result of a unit's test goes to the mismatch that asked for it (R420): two PASSes are INCONCLUSIVE, and a unit's third such result
within 86 400 s retires it. -/
def Core.trialResult (c : Core) (u : Nat) (ok : Bool) : Core :=
  match c.check.trials.findIdx? (fun t => (decide (t.former = u) && t.formerOk.isNone) || (decide (t.checker = u) && t.checkerOk.isNone)) with
  | none => c
  | some i =>
    match c.check.trials[i]? with
    | none => c
    | some t =>
      let t1 := if t.former = u ∧ t.formerOk.isNone = true then { t with formerOk := some ok } else { t with checkerOk := some ok }
      match t1.formerOk, t1.checkerOk with
      | some a, some b =>
        let c1 := { c with check := { c.check with trials := c.check.trials.eraseIdx i } }
        if a && b then
          let c2 := (c1.bump R.CHECK_INCONCL_CNT.at).event 0x16 1
          let again := if c2.live t1.stall then c2.check.again ++ [t1.stall] else c2.check.again
          let c3 := { c2 with check := { c2.check with again := again } }
          [t1.former, t1.checker].foldl (fun d x =>
            let ticks := d.now :: (Table.get (fun _ => []) d.check.inconcl x).filter (fun y => decide (d.now < y + 88473600000))
            let e := { d with check := { d.check with inconcl := Table.set (fun _ => []) d.check.inconcl x ticks } }
            if 3 ≤ ticks.length then e.retire x else e) c3
        else c1
      | _, _ => { c with check := { c.check with trials := c.check.trials.set i t1 } }

/-- A failing region is retired (R427): its use is withdrawn. -/
def Core.retireRegion (c : Core) (r : Nat) : Core :=
  let c1 := (c.bump R.STE_RETIRED_CNT.at).event 0x15 4
  if r < 272 then c1.retire r
  else
    let c2 := { c1 with regions := Table.set (fun _ => 0) c1.regions r 3 }.tally 25
    if 0x150 ≤ r ∧ r < 0x158 then
      (c2.decodes.filter (fun d => decide (c2.fld (R.LS_CTL.at d) 24 3 = r - 0x150))).foldl (fun d k => d.setDecodeState k 3) c2
    else if 0x1D0 ≤ r ∧ r < 0x1D2 then c2.setFld R.UPD_STATUS.at 9 1 0
    else c2

/-- A run ends (R426, R427, R433): OUTCOME 2 PASS, 3 FAIL, 4 ABORTED. -/
def Core.endRun (c : Core) (r : SteRun) (x : SteResult) : Core :=
  let c0 := if c.sliceActive then c.sliceRelease r else c
  let complete := !r.cut && !c.sliceActive && decide (c.regionSlices r.region ≤ r.slice)
  let whole := complete && decide (x.count = r.count) && !x.waited && decide (r.yields < 64)
  let mem := decide (r.kind ≠ 1)
  let memBad := mem && decide (0 < x.words)
  let repaired := whole && memBad && x.fits && x.rerun
  let sigBad := decide (x.sig ≠ x.reference)
  let bad := (memBad && !(x.fits && x.rerun)) || sigBad
  let outcome := if !whole then 4 else if bad then 3 else 2
  let retired := decide (outcome = 3) && !regionStays r.region
  let failKind := if outcome ≠ 3 then 0 else if memBad && !(x.fits && x.rerun) then 1 else if r.kind = 0 then 1 else 2
  let last := r.region + 2 ^ 12 * r.kind + 2 ^ 16 * outcome + 2 ^ 20 * b2n complete + 2 ^ 21 * b2n repaired + 2 ^ 22 * b2n retired +
    2 ^ 23 * b2n r.host + 2 ^ 24 * failKind
  let c1 := { c0 with ste := { c0.ste with run := none } }.showSte false
  let c2 := ((c1.setNat R.STE_LAST.at last).setNat R.STE_LAST_COUNT.at x.count).setNat R.STE_LAST_EXPECT.at r.count
  let c3 := ((c2.setReg R.STE_LAST_SIG.at x.sig).setReg R.STE_LAST_REF.at x.reference).stampTick R.STE_LAST_TICK.at
  let c4 := if memBad then
      (c3.setNat R.STE_FAIL_ADDR.at (x.addr.toNat + 2 ^ 24 * x.macro_.toNat)).setNat R.STE_FAIL_BIT.at
        (x.bit.toNat + 2 ^ 8 * min 0xFFFF x.words) else c3
  let c5 : Core := if repaired then
      let d := (c4.bump R.STE_REPAIR_CNT.at).event 0x15 3
      { d with regions := Table.set (fun _ => 0) d.regions r.region 2 } else c4
  let c6 : Core := match outcome with
    | 2 => { (c5.bump R.STE_PASS_CNT.at).event 0x15 0 with ste := { c5.ste with passAt := Table.set (fun _ => none) c5.ste.passAt r.region (some c5.now) } }
    | 3 => (c5.bump R.STE_FAIL_CNT.at).event 0x15 1
    | _ => (c5.bump R.STE_ABORT_CNT.at).event 0x15 2
  let c7 := if r.region < 272 ∧ outcome ≠ 4 then
      (let d := if (c6.unit r.region).use = 3 ∧ outcome = 2 then c6.releaseUnit r.region else c6
       d.trialResult r.region (decide (outcome = 2))) else c6
  let c8 := if retired then c7.retireRegion r.region else if outcome = 3 then c7.tally 26 else c7
  let c9 := if decide (outcome = 2) && decide (0x1D0 ≤ r.region) && decide (r.region < 0x1D2) && bitOf (c8.reg R.STE_CFG.at) 13 && !r.host then
      { c8 with upd := { c8.upd with swap := true } } else c8
  if r.host then c9.effectDone 0x60 0 12 0 (leBytes 4 (c9.reg R.STE_LAST.at).toNat ++ leBytes 4 x.sig.toNat) else c9

/-- STE_YIELD (R425): the slice is discarded and run again; after 64 in a row the run ends ABORTED. -/
def execSteYield (s : State) : Host.Outcome State Fault Refusal :=
  s.act 0x15 (fun c =>
    match c.ste.run with
    | some r =>
      if c.sliceActive then
        let r1 := { r with yields := r.yields + 1 }
        let d := (c.sliceRelease r1).bump R.STE_YIELD_CNT.at
        if 64 ≤ r1.yields then d.endRun { r1 with took := false, cut := true } { count := 0 } else d
      else c
    | none => c)

/-- STE_RUN_END (R426). -/
def execSteRunEnd (x : SteResult) (s : State) : Host.Outcome State Fault Refusal :=
  s.act 0x15 (fun c => match c.ste.run with | some r => c.endRun r x | none => c)

/-- A host run is in progress. -/
def Core.hostRun (c : Core) : Bool := c.ste.run.any (·.host)

/-- The checks of R430 for a host run: the code. -/
def Core.steCheck (c : Core) (region kind count : Nat) : Nat :=
  let n := if count = 0 then 65536 else count
  if c.hostRun || c.regionRetired region || c.regionBarred region then 1
  else if !regionKnown region || !kindOffered region kind || decide (n % 4096 ≠ 0) || decide (1048576 < n) then 2
  else 0

/-- A host run begins (R429, R430): it goes ahead of a run of the engine's own, which is cut short. -/
def Core.steStart (c : Core) (region kind count : Nat) : Core :=
  let c1 := match c.ste.run with | some r => c.endRun { r with cut := true } { count := 0 } | none => c
  let n := if count = 0 then 65536 else count
  let r : SteRun := { region := region, kind := kind, count := n, host := true, began := c1.now }
  ({ c1 with ste := { c1.ste with run := some r, nextAt := c1.now } }.showSte false).setNat R.STE_LAST.at
    (region + 2 ^ 12 * kind + 2 ^ 16 + 2 ^ 23)

/-- A host run is cut short (R426): it ends ABORTED. -/
def Core.steCut (c : Core) : Core :=
  match c.ste.run with
  | some r => if r.host then c.endRun { r with cut := true } { count := 0 } else c
  | none => c

/-- STE_RESULT after a GO. -/
def Core.steGoDone (c : Core) (code : Nat) : Core := (c.setFld R.STE_RESULT.at 0 4 code).wrapFld R.STE_RESULT.at 16 8

/-- STE_GO_RUN (R430). -/
def execSteGoRun (s : State) : Host.Outcome State Fault Refusal :=
  s.act 0x15 (fun c =>
    let region := c.fld R.STE_STAGE.at 0 10
    let kind := c.fld R.STE_STAGE.at 12 2
    let count := (c.reg R.STE_STAGE_COUNT.at).toNat
    let code := c.steCheck region kind count
    (if code = 0 then c.steStart region kind count else c).steGoDone code)

/-- STE_GO_STOP (R426, R430). -/
def execSteGoStop (s : State) : Host.Outcome State Fault Refusal := s.act 0x15 (fun c => c.steCut.steGoDone 0)

/-- STE_RUN (R430). -/
def execSteRun (h : CmdHead) (region : Nat) (kind : BitVec 8) (count : Nat) (s : State) : Host.Outcome State Fault Refusal :=
  s.run (fun c => c.command h 0x60 (fun c =>
    let code := c.steCheck region kind.toNat count
    if code ≠ 0 then c.complete 0x60 h.seq code 12 c.now []
    else
      let d := c.steStart region kind.toNat count
      d.finish h 0x60 0 12 0 (leBytes 4 (d.reg R.STE_LAST.at).toNat ++ leBytes 4 0)))

/-- STE_STOP (R430). -/
def execSteStop (h : CmdHead) (s : State) : Host.Outcome State Fault Refusal :=
  s.run (fun c => c.command h 0x61 (fun c => c.steCut.complete 0x61 h.seq 0 12 c.now []))

/-- A soft reset of the STE page ends the run with ABORTED (R426, R431); the page's registers are at reset already. -/
def Core.steReset (old c : Core) : Core :=
  match old.ste.run with
  | some r =>
    let c1 := if r.took ∧ (c.unit r.region).use = 3 then c.releaseUnit r.region else c
    let c2 := ({ c1 with ste := { c1.ste with run := none } }.bump R.STE_ABORT_CNT.at).event 0x15 2
    let c3 := c2.setNat R.STE_LAST.at (r.region + 2 ^ 12 * r.kind + 2 ^ 18 + 2 ^ 23 * b2n r.host)
    if r.host then c3.effectDone 0x60 0 12 0 (leBytes 4 (c3.reg R.STE_LAST.at).toNat ++ leBytes 4 0) else c3
  | none => { c with ste := { c.ste with run := none } }

/-! ### Test access (R436) -/

/-- SCAN_ENABLE (R436): the datapath stops, secrets are cleared and read back, and scan is enabled; what the life cycle or the window does
not allow has no effect. -/
def execScanEnable (keys clean : Bool) (s : State) : Host.Outcome State Fault Refusal :=
  s.run (fun c =>
    let lc := c.lc
    let allowed := if keys then decide (lc = 0) || decide (lc = 3) else decide (lc ≠ 4)
    if !allowed then c
    else if lc = 2 ∧ c.guardAccepts = false then c.guardRefused
    else
      let c1 := (c.openStalls.filter c.live).foldl (fun d n => d.stopStall n) c
      let c2 := (List.range 3).foldl (fun d i => d.setFld (R.PG_STATUS.at (3 + i)) 0 1 0) c1
      let c3 := { c2 with guard := { c2.guard with secrets := false } }
      if clean then { c3 with ste := { c3.ste with scan := true } }.tally 27
      else { c3 with ste := { c3.ste with keyFault := true } })

end Sys2Proof.Machine
end

