-- ==== Sys2Proof/Machine/Update.lean ====
section
/-! DEFINITION. Firmware update, profiles, fuses and the life cycle (R437 to R461). -/

namespace Sys2Proof.Machine

/-! ### Images (R437, R438) -/

/-- A number at byte `a` of a header. -/
def hdrAt (h : List Byte) (a n : Nat) : Nat := bytesAt h a n

/-- SEC_VER, IMAGE_VER, NBLOCKS and IMAGE_DIGEST of a header. -/
def hdrSecVer (h : List Byte) : Nat := hdrAt h 7 1
def hdrImageVer (h : List Byte) : Nat := hdrAt h 8 4
def hdrBlocks (h : List Byte) : Nat := hdrAt h 12 4
def hdrDigest (h : List Byte) : List Byte := (h.drop 24).take 48

/-- A header with bytes `a` to `a + n - 1` taken as 0. -/
def zeroed (h : List Byte) (a n : Nat) : List Byte := h.take a ++ List.replicate n 0 ++ h.drop (a + n)

/-- The first check of R438 that a header fails; 0: it is valid. -/
def Core.headerReason (c : Core) (h : List Byte) : Nat :=
  let key := hdrAt h 6 1
  let pub := (h.drop 72).take 96
  if hdrAt h 0 4 ≠ 0x25601A6E ∨ hdrAt h 4 2 ≠ 1 ∨ hdrAt h 20 4 ≠ 0 ∨ ((h.drop 264).take 248).any (fun b => decide (b ≠ 0)) = true then 1
  else if crc32c (zeroed (zeroed h 16 4) 168 96) ≠ hdrAt h 16 4 then 2
  else if 3 < key ∨ bitOf (c.reg R.GRD_KEYS.at) key = false ∨ bitOf (c.reg R.GRD_KEYS.at) (4 + key) = true ∨
      Config.sha384 pub ≠ Table.get (fun _ => []) c.nv.fuses.keys key then 3
  else if Config.ecdsaP384 pub (Config.sha384 (zeroed h 168 96)) ((h.drop 168).take 96) = false then 4
  else if hdrSecVer h < c.nv.fuses.sv ∨ 128 < hdrSecVer h then 5
  else if hdrBlocks h = 0 ∨ 6136 < hdrBlocks h then 6
  else 0

/-- BLOCK_CRC of payload block `i`. -/
def hdrBlockCrc (h : List Byte) (i : Nat) : Nat := hdrAt h (512 + 4 * i) 4

/-- Slot `k` of the NOR. -/
def Core.slot (c : Core) (k : Nat) : Slot := c.nv.slots.getD k {}

/-- `c` with it replaced. -/
def Core.setSlot (c : Core) (k : Nat) (x : Slot) : Core := { c with nv := { c.nv with slots := c.nv.slots.set k x } }

/-- The REASON that verification of a slot finds (R398, R445): the checks of R438, the CRC of every block, IMAGE_DIGEST. -/
def Core.slotReason (c : Core) (x : Slot) : Nat :=
  if x.ue then 8
  else if x.factory then 0
  else
    let r := c.headerReason x.header
    let n := hdrBlocks x.header
    let block := fun i => Table.get (fun _ => []) x.blocks i
    if r ≠ 0 then r
    else if (List.range n).any (fun i => decide (crc32c (block i) ≠ hdrBlockCrc x.header i)) then 8
    else if Config.sha384 ((List.range n).flatMap block) ≠ hdrDigest x.header then 7
    else 0

/-- The slot that the valid boot record names (R398): of the good copies the one with the higher sequence number, modulo 2^32. -/
def Core.bestCopy (c : Core) : Option Nat :=
  let a := c.nv.copies.getD 0 {}
  let b := c.nv.copies.getD 1 {}
  match a.good, b.good with
  | true, true => some (if a.seq ≠ b.seq ∧ epochPast a.seq b.seq = true then 1 else 0)
  | true, false => some 0
  | false, true => some 1
  | false, false => none

/-- The valid copy. -/
def Core.bootCopy (c : Core) : BootCopy := match c.bestCopy with | some k => c.nv.copies.getD k {} | none => {}

/-- UPD_STATUS.INACT_SLOT and ATTEMPTS, and the words of the running image (R461). -/
def Core.showUpd (c : Core) : Core :=
  let run := (c.slot c.upd.run).header
  let c1 := (c.setFld R.UPD_STATUS.at 7 1 (1 - c.bootCopy.slot)).setFld R.UPD_STATUS.at 11 3 c.bootCopy.attempts
  ((c1.setFld R.UPD_SV.at 8 8 (hdrSecVer run)).setFld R.UPD_SV.at 16 8 c1.nv.fuses.sv).setNat R.UPD_RUN_VER.at (hdrImageVer run)

/-- A boot record is written over the copy with the lower sequence number (R398, R446). -/
def Core.writeBoot (c : Core) (slot : Nat) (trial : Bool) (attempts : Nat) : Core :=
  let k := match c.bestCopy with | some k => 1 - k | none => 0
  let x : BootCopy := { seq := (c.bootCopy.seq + 1) % 2 ^ 32, slot := slot, trial := trial, attempts := attempts }
  { c with nv := { c.nv with copies := c.nv.copies.set k x } }.showUpd

/-! ### The claim (R439 to R442) -/

/-- UPD_STATUS.PHASE. -/
def Core.phase (c : Core) : Nat := c.fld R.UPD_STATUS.at 0 4

/-- Registers of the claim (R461). -/
def Core.showClaim (c : Core) : Core :=
  match c.upd.claim with
  | none => c
  | some k =>
    let c1 := (c.setFld R.UPD_SV.at 0 8 (hdrSecVer k.header)).setNat R.UPD_OFFER_VER.at (hdrImageVer k.header)
    let c2 := c1.setNat R.UPD_BLOCKS.at (k.written.length + 2 ^ 16 * hdrBlocks k.header)
    (c2.setNat R.UPD_DIGEST_LO.at (bytesAt k.digest 0 4)).setNat R.UPD_DIGEST_HI.at (bytesAt k.digest 4 4)

/-- A journal record is written (R440). -/
def Core.journalWrite (c : Core) : Core :=
  match c.upd.claim with
  | none => c
  | some k =>
    let n := c.nv.journals + 1
    let j : Journal := { seq := n, digest := k.digest, sources := c.fld R.UPD_STATUS.at 4 2, written := k.written }
    { c with nv := { c.nv with journal := some j, journals := n } }.setNat R.UPD_JOURNAL_SEQ.at n

/-- Where the claim's image is published (R443). -/
def chainArea : Nat := 0x3F0000000

/-- The status line (R443). -/
def statusLine (digest : List Byte) (st held : Nat) : List Byte :=
  let body := leBytes 4 0x25601A6F ++ leBytes 1 st ++ leBytes 3 0 ++ digest.take 48 ++ leBytes 4 held
  body ++ leBytes 4 (crc32c body)

/-- The bitmap of blocks held. -/
def heldBitmap (written : List Nat) (n : Nat) : List Byte :=
  (List.range ((n + 7) / 8)).map (fun k =>
    BitVec.ofNat 8 ((List.range 8).foldl (fun x i => x + b2n (written.contains (8 * k + i)) * 2 ^ i) 0))

/-- UPD_CFG.CHAIN_FWD. -/
def Core.chainFwd (c : Core) : Bool := bitOf (c.reg R.UPD_CFG.at) 2

/-- The claim is published (R443): each block and its bitmap bit before the status line. -/
def Core.publish (c : Core) (blocks : List Nat) : Core :=
  match c.upd.claim with
  | none => c
  | some k =>
    if !c.chainFwd then c
    else
      let n := hdrBlocks k.header
      let c1 := if c.upd.published then c
        else ({ c with upd := { c.upd with published := true } }.shedWrite (chainArea + 0x1000) k.header)
      let c2 := blocks.foldl (fun d i =>
        d.shedWrite (chainArea + 0xA000 + 0x1000 * i) (Table.get (fun _ => []) (d.slot k.slot).blocks i)) c1
      let c3 := c2.shedWrite (chainArea + 0x9000) (heldBitmap k.written n)
      c3.shedWrite chainArea (statusLine k.digest (if k.written.length = n then 2 else 1) k.written.length)

/-- An offer claims the inactive slot (R439); in RECOVERY slot A. -/
def Core.claimSlot (c : Core) (h : List Byte) (src : Nat) : Core :=
  let k := if c.stage = 14 then 0 else 1 - c.bootCopy.slot
  let c1 := c.setSlot k { header := h }
  let c2 := { c1 with upd := { c1.upd with claim := some { digest := hdrDigest h, header := h, slot := k }, lastBlock := c.now,
                                            rereads := [], failing := none, published := false } }
  let c3 := (c2.setFld R.UPD_STATUS.at 0 4 1).setFld R.UPD_STATUS.at 4 2 src
  ((c3.showClaim.journalWrite).publish []).event 0x17 0

/-- The pending offer is gone. -/
def Core.dropOffer (c : Core) : Core :=
  ({ c with upd := { c.upd with offer := none } }.setFld R.UPD_STATUS.at 6 1 0).setFld R.UPD_SV.at 24 8 0

/-- The claimed offer has failed (R441): its slot belongs to nobody, and a pending offer claims it afresh (R442). -/
def Core.claimFails (c : Core) (phase : Nat) : Core :=
  let c1 := { c with upd := { c.upd with claim := none }, nv := { c.nv with journal := none } }
  let c2 := (c1.setFld R.UPD_STATUS.at 0 4 phase).setFld R.UPD_STATUS.at 4 2 0
  match c2.upd.offer with
  | some o => c2.dropOffer.claimSlot o.1 o.2
  | none => c2

/-- The lowest block not written, NBLOCKS when every one is. -/
def Claim.firstMissing (k : Claim) : Nat :=
  ((List.range (hdrBlocks k.header)).find? (fun i => !k.written.contains i)).getD (hdrBlocks k.header)

/-- An offer (R439, R442, R460): the code and REASON. -/
def Core.offer (c : Core) (h : List Byte) (src : Nat) (nor : Bool) : Core × Nat × Nat :=
  let reason := c.headerReason h
  let sv := hdrSecVer h
  let conflict := ((c.bump R.UPD_CONFLICT_CNT.at).event 0x17 3).tally 28
  if c.lc = 4 then (c, 12, 0)
  else if src = 1 ∧ bitOf (c.reg R.UPD_CFG.at) 0 = false then (c, 1, 0)
  else if reason ≠ 0 then (c, 3, reason)
  else if c.stage ≠ 14 ∧ (c.slot c.upd.run).factory = false ∧ hdrDigest h = hdrDigest (c.slot c.upd.run).header then (c, 1, 0)
  else match c.upd.claim with
    | none => if nor then (c.claimSlot h src, 0, 0) else (c, 11, 0)
    | some k =>
      if k.digest = hdrDigest h then
        let c1 := c.setFld R.UPD_STATUS.at 4 2 (c.fld R.UPD_STATUS.at 4 2 ||| src)
        ({ c1 with upd := { c1.upd with lastBlock := c1.now } }.event 0x17 1, 4, 0)
      else if sv ≤ hdrSecVer k.header ∨ (match c.upd.offer with | some o => decide (sv ≤ hdrSecVer o.1) | none => false) = true then
        (conflict, 6, 0)
      else
        let c1 := ({ c with upd := { c.upd with offer := some (h, src) } }.setFld R.UPD_STATUS.at 6 1 1).setFld R.UPD_SV.at 24 8 sv
        (c1.event 0x17 2, 5, 0)

/-- The result bytes of an offer (R459). -/
def Core.offerResult (c : Core) (reason : Nat) : List Byte :=
  match c.upd.claim with
  | some k => leBytes 2 k.written.length ++ leBytes 2 k.firstMissing ++ leBytes 1 reason ++ leBytes 1 k.slot
  | none => leBytes 4 0 ++ leBytes 1 reason ++ leBytes 1 0

/-- Verification begins (R445). -/
def Core.startVerify (c : Core) (register : Bool) : Core :=
  { c with upd := { c.upd with verify := register } }.setFld R.UPD_STATUS.at 0 4 3

/-- A payload block from a source (R440): the code, and ALREADY. -/
def Core.takeBlock (c : Core) (src i : Nat) (data : List Byte) (nor : Bool) : Core × Nat × Bool :=
  match c.upd.claim with
  | none => (c, 1, false)
  | some k =>
    if c.phase ≠ 1 ∨ c.fld R.UPD_STATUS.at 4 2 &&& src = 0 then (c, 1, false)
    else if hdrBlocks k.header ≤ i then (c, 2, false)
    else if k.written.contains i then ({ c with upd := { c.upd with lastBlock := c.now } }, 0, true)
    else if crc32c data ≠ hdrBlockCrc k.header i then (c, 7, false)
    else if !nor then (c, 11, false)
    else
      let x := c.slot k.slot
      let c1 := c.setSlot k.slot { x with blocks := Table.set (fun _ => []) x.blocks i data }
      let k1 := { k with written := k.written ++ [i] }
      let c2 := { c1 with upd := { c1.upd with claim := some k1, lastBlock := c1.now } }.showClaim.publish [i]
      let c3 := if k1.written.length % 64 = 0 ∨ k1.written.length = hdrBlocks k.header then c2.journalWrite else c2
      if k1.written.length = hdrBlocks k.header then ((c3.event 0x17 4).startVerify false, 0, false) else (c3, 0, false)

/-- An image is rejected (R445): slot block 0 is erased and the rejection logged. -/
def Core.rejectImage (c : Core) (slot : Nat) : Core :=
  ((c.setSlot slot { c.slot slot with header := [], factory := false }).event 0x17 6).tally 29

/-- VERIFY (R445, R460): the code. -/
def Core.verifyCheck (c : Core) : Nat := if c.phase = 2 ∨ c.phase = 4 then 0 else 1

/-! ### The register path (R461) -/

/-- UPD_RESULT after a GO. -/
def Core.updGoDone (c : Core) (code reason : Nat) : Core :=
  ((c.setFld R.UPD_RESULT.at 0 4 code).setFld R.UPD_RESULT.at 4 4 reason).wrapFld R.UPD_RESULT.at 16 8

/-- UPD_STAGE_ADDR. -/
def Core.stageAddr (c : Core) : Nat := (c.reg R.UPD_STAGE_ADDR_LO.at).toNat + 2 ^ 32 * c.fld R.UPD_STAGE_ADDR_HI.at 0 2

/-- `n` bytes of the host region from an aligned address (R459). -/
def Core.updBytes (c : Core) (a n : Nat) : Option (List Byte) :=
  if a % 4096 = 0 ∧ 0x300000000 ≤ a ∧ a + n ≤ 0x340000000 then some (c.shedRead a n) else none

/-- OFFER from your host (R459): the code and REASON. -/
def Core.hostOffer (c : Core) (a : Nat) (nor : Bool) : Core × Nat × Nat :=
  match c.updBytes a 32768 with
  | none => (c, 2, 0)
  | some h => c.offer h 1 nor

/-- BLOCK from your host (R459): the code, and ALREADY. -/
def Core.hostBlock (c : Core) (i a : Nat) (nor : Bool) : Core × Nat × Bool :=
  match c.updBytes a 4096 with
  | none => (c, 2, false)
  | some d => c.takeBlock 1 i d nor

/-- UPD_GO_OFFER (R439, R461). -/
def execUpdGoOffer (nor : Bool) (s : State) : Host.Outcome State Fault Refusal :=
  s.act 0x17 (fun c => let x := c.hostOffer c.stageAddr nor; x.1.updGoDone x.2.1 x.2.2)

/-- UPD_GO_BLOCK (R440, R461). -/
def execUpdGoBlock (nor : Bool) (s : State) : Host.Outcome State Fault Refusal :=
  s.act 0x17 (fun c => let x := c.hostBlock (c.fld R.UPD_STAGE.at 16 13) c.stageAddr nor; x.1.updGoDone x.2.1 0)

/-- UPD_GO_VERIFY (R445, R461). -/
def execUpdGoVerify (s : State) : Host.Outcome State Fault Refusal :=
  s.act 0x17 (fun c => let code := c.verifyCheck; (if code = 0 then c.startVerify true else c).updGoDone code 0)

/-- UPD_OFFER (R459). -/
def execUpdOffer (h : CmdHead) (addr : Nat) (nor : Bool) (s : State) : Host.Outcome State Fault Refusal :=
  s.run (fun c => c.command h 0x50 (fun c =>
    let x := c.hostOffer addr nor
    x.1.complete 0x50 h.seq x.2.1 9 c.now (x.1.offerResult x.2.2)))

/-- UPD_BLOCK (R459). -/
def execUpdBlock (h : CmdHead) (index addr : Nat) (nor : Bool) (s : State) : Host.Outcome State Fault Refusal :=
  s.run (fun c => c.command h 0x51 (fun c =>
    let x := c.hostBlock index addr nor
    x.1.complete 0x51 h.seq x.2.1 9 c.now (leBytes 1 (b2n x.2.2))))

/-- UPD_VERIFY (R459). -/
def execUpdVerify (h : CmdHead) (s : State) : Host.Outcome State Fault Refusal :=
  s.run (fun c => c.command h 0x52 (fun c =>
    let code := c.verifyCheck
    (if code = 0 then c.startVerify false else c).finish h 0x52 code 9 0 (leBytes 4 0)))

/-- In RECOVERY a verified image is named and the device resets with source HOST (R399). -/
def Core.recovered (c : Core) : Core :=
  { c.writeBoot 0 false 0 with nv := { (c.writeBoot 0 false 0).nv with journal := none } }

/-- VERIFY_END (R445, R441, R399). -/
def execVerifyEnd (ue : Bool) (s : State) : Host.Outcome State Fault Refusal :=
  let c := s.core
  if c.phase ≠ 3 ∨ c.enabled 0x17 = false then .next s
  else
    match c.upd.claim with
    | none => .next s
    | some k =>
      let x := c.slot k.slot
      let reason := c.slotReason { x with ue := x.ue || ue }
      let told := fun (d : Core) (code : Nat) =>
        let d1 := if c.upd.verify then (d.setFld R.UPD_RESULT.at 0 4 code).setFld R.UPD_RESULT.at 4 4 reason else d
        d1.effectDone 0x52 0 9 code (leBytes 4 0 ++ leBytes 1 reason)
      if reason = 0 then
        let d := told ((c.setFld R.UPD_STATUS.at 0 4 4).event 0x17 5) 0
        if c.stage = 14 then { s with core := d.recovered }.resetAfterCommit 6 d.start else .next { s with core := d }
      else .next { s with core := told ((c.rejectImage k.slot).claimFails 7) 8 }

/-- ABORT (R441, R460): the code. -/
def Core.abortOffer (c : Core) : Core × Nat :=
  if c.upd.claim.isNone ∨ c.phase = 5 ∨ c.phase = 6 then (c, 1) else (c.claimFails 0, 0)

/-- UPD_GO_ABORT (R441). -/
def execUpdGoAbort (s : State) : Host.Outcome State Fault Refusal :=
  s.act 0x17 (fun c => let x := c.abortOffer; x.1.updGoDone x.2 0)

/-- UPD_ABORT (R459). -/
def execUpdAbort (h : CmdHead) (s : State) : Host.Outcome State Fault Refusal :=
  s.run (fun c => c.command h 0x55 (fun c => let x := c.abortOffer; x.1.complete 0x55 h.seq x.2 9 c.now []))

/-- OFFER_TIMEOUT (R441): 600 s without a block of a bound source. -/
def execOfferTimeout (s : State) : Host.Outcome State Fault Refusal :=
  s.act 0x17 (fun c =>
    if c.phase = 1 ∧ c.fld R.UPD_STATUS.at 4 2 ≠ 0 ∧ c.upd.lastBlock + 614400000 ≤ c.now then c.claimFails 0 else c)

/-! ### Chain forwarding (R443, R444) -/

/-- The CHAIN source is FAILED (R441, R444). -/
def Core.chainFailed (c : Core) : Core :=
  let c1 := (c.setFld R.UPD_CHAIN_STATUS.at 8 1 0).setFld R.UPD_CHAIN_STATUS.at 9 1 1
  let src := c1.fld R.UPD_STATUS.at 4 2
  if src = 2 then c1.claimFails 0 else c1.setFld R.UPD_STATUS.at 4 2 (src &&& 1)

/-- An upstream read is answered (R444): the run of failures ends. -/
def Core.chainHeard (c : Core) : Core := { c with upd := { c.upd with failing := none } }

/-- An upstream read fails or times out (R444): FAILED after 10 s of nothing else. -/
def Core.chainMissed (c : Core) : Core :=
  let since := c.upd.failing.getD c.now
  let c1 := { c with upd := { c.upd with failing := some since } }
  if since + 10240000 ≤ c.now then c1.chainHeard.chainFailed else c1

/-- CHAIN_POLL (R444): a new digest leads to a CHAIN offer. A claim that no CHAIN source is bound to counts as new to it (log entry
29). -/
def execChainPoll (line : Option (List Byte × List Byte)) (s : State) : Host.Outcome State Fault Refusal :=
  s.act 0x17 (fun c =>
    if bitOf (c.reg R.UPD_CFG.at) 1 && decide (2 ≤ c.stage) && decide (c.stage ≤ 6) then
      match line with
      | none => c.chainMissed
      | some x =>
        let c1 := c.chainHeard.setFld R.UPD_CHAIN_STATUS.at 8 2 1
        let digest := (x.1.drop 8).take 48
        let good := decide (bytesAt x.1 0 4 = 0x25601A6F) && decide (crc32c (x.1.take 60) = bytesAt x.1 60 4) &&
          decide (bytesAt x.1 4 1 ≠ 0)
        let bound := decide (c1.fld R.UPD_STATUS.at 5 1 = 1) && (c1.upd.claim.any (fun k => decide (k.digest = digest)))
        let running := !(c1.slot c1.upd.run).factory && decide (hdrDigest (c1.slot c1.upd.run).header = digest)
        if good && !bound && !running then (c1.offer x.2 2 true).1 else c1
    else c)

/-- CHAIN_BLOCK (R444): a block that fails its CRC is read again up to three times. -/
def execChainBlock (i : Nat) (data : Option (List Byte)) (s : State) : Host.Outcome State Fault Refusal :=
  s.act 0x17 (fun c =>
    if c.phase = 1 ∧ c.fld R.UPD_STATUS.at 5 1 = 1 ∧ bitOf (c.reg R.UPD_CFG.at) 1 = true then
      match data with
      | none => c.chainMissed
      | some d =>
        let c1 := c.chainHeard
        let x := c1.takeBlock 2 i d true
        if x.2.1 = 7 then
          let n := Table.get (fun _ => 0) c1.upd.rereads i + 1
          let c2 := { c1 with upd := { c1.upd with rereads := Table.set (fun _ => 0) c1.upd.rereads i n } }
          if 4 ≤ n then c2.chainFailed else c2.bumpFld R.UPD_CHAIN_STATUS.at 16 16
        else x.1
    else c)

/-! ### Activation and handover (R446 to R451) -/

/-- The first epoch of track `k` whose start is due at tick `t` or later (R446). -/
def Core.epochAfter (c : Core) (k t : Nat) : Option Nat :=
  let e := (c.track k).epoch
  match c.predictTick k (e + 1) 0, c.predictTick k (e + 2) 0 with
  | some a, some b =>
    let j := if b ≤ a ∨ t ≤ a then 0 else (t - a) / (b - a)
    ((List.range 4).map (fun i => e + 1 + (j - 1) + i)).find? (fun x =>
      match c.predictTick k x 0 with | some d => decide (t ≤ d) | none => false)
  | _, _ => none

/-- The processor in standby is usable (R450). -/
def Core.standbyUsable (c : Core) : Bool := !c.regionRetired (if c.fld R.UPD_STATUS.at 8 1 = 0 then 0x1D1 else 0x1D0)

/-- ACTIVATE (R446, R450): the code and B. -/
def Core.activateImage (c : Core) (track epoch phase : Nat) (soon : Bool) (register : Bool) : Core × Nat × Nat :=
  let k := if soon then c.fld R.UPD_CFG.at 4 2 else track
  let e := if soon then c.epochAfter k (c.now + 512000) else some epoch
  match e with
  | none => if c.phase ≠ 4 then (c, 1, 0) else (c, 2, 0)
  | some e =>
    if c.phase ≠ 4 then (c, 1, 0)
    else if (c.track k).state = .off ∨ (phase ≠ 0 ∧ soon = false) then (c, 2, 0)
    else match c.predictTick k (e % 2 ^ 32) 0 with
      | none => (c, 2, 0)
      | some b =>
        if b < c.now + 512000 then (c, 2, 0)
        else
          let r := !c.standbyUsable
          let c1 := { c with upd := { c.upd with track := k, epoch := e % 2 ^ 32, activate := register, loaded := r, resets := r,
                                                  b := none, hb := none, hbAt := none } }
          let c2 := match c1.ownEntry true with | some i => c1.placeOwn i 10 0 b k (e % 2 ^ 32) | none => c1
          let c3 := (c2.setFld R.UPD_STATUS.at 0 4 5).setNat R.UPD_HO_TICK.at b
          let c4 := if r then (match c3.upd.claim with | some x => c3.writeBoot x.slot true 0 | none => c3)
            else c3.setFld R.UPD_STATUS.at 9 1 0
          (c4, 0, b)

/-- The end of an activation: CODE for whoever asked for it. -/
def Core.activateDone (c : Core) (code b : Nat) : Core :=
  let c1 := if c.upd.activate ∧ code ≠ 0 then c.setFld R.UPD_RESULT.at 0 4 code else c
  ({ c1 with upd := { c1.upd with activate := false } }.freeOwn 10 0).effectDone 0x53 0 9 code (leBytes 4 b)

/-- UPD_GO_ACTIVATE (R446). -/
def execUpdGoActivate (s : State) : Host.Outcome State Fault Refusal :=
  s.act 0x17 (fun c =>
    let w := c.reg R.UPD_STAGE.at
    let x := c.activateImage (fieldOf w 4 2) (c.reg R.UPD_STAGE_EPOCH.at).toNat 0 (bitOf w 6) true
    x.1.updGoDone x.2.1 0)

/-- UPD_ACTIVATE (R459). -/
def execUpdActivate (h : CmdHead) (s : State) : Host.Outcome State Fault Refusal :=
  s.run (fun c => c.command h 0x53 (fun c =>
    let x := c.activateImage h.track.val h.epoch h.phase h.now false
    x.1.finish h 0x53 x.2.1 9 0 (leBytes 4 x.2.2)))

/-- STANDBY_READY (R446, R448): the standby has loaded its image; in ACTIVATING the TRIAL record is written. -/
def execStandbyReady (nor : Bool) (hb : Option Nat) (s : State) : Host.Outcome State Fault Refusal :=
  s.act 0x17 (fun c =>
    if c.phase = 5 ∧ c.upd.resets = false ∧ c.upd.loaded = false then
      match c.upd.claim with
      | none => c
      | some k =>
        let c1 := c.setFld R.UPD_STATUS.at 9 1 1
        if nor then { c1 with upd := { c1.upd with loaded := true, hb := hb } }.writeBoot k.slot true 0
        else { c1 with upd := { c1.upd with hb := hb } }
    else if c.upd.reload then
      { c with upd := { c.upd with reload := false } }.setFld R.UPD_STATUS.at 9 1 1
    else c)

/-- B of the activation in progress, as it is predicted now. -/
def Core.handoverTick (c : Core) : Option Nat := c.predictTick c.upd.track c.upd.epoch 0

/-- The standby is to load the running image again. -/
def Core.reloadStandby (c : Core) : Core :=
  if c.standbyUsable then { c with upd := { c.upd with reload := true } }.setFld R.UPD_STATUS.at 9 1 0
  else c.setFld R.UPD_STATUS.at 9 1 0

/-- NOT_READY (R446): at B − 1024. -/
def execNotReady (s : State) : Host.Outcome State Fault Refusal :=
  s.act 0x17 (fun c =>
    match c.handoverTick with
    | some b =>
      if c.phase = 5 ∧ c.upd.loaded = false ∧ b ≤ c.now + 1024 then
        let c1 := if c.bootCopy.slot ≠ c.upd.run then c.writeBoot c.upd.run false 0 else c
        ((c1.setFld R.UPD_STATUS.at 0 4 4).reloadStandby).activateDone 9 b
      else c
    | none => c)

/-- The other processor becomes active (R446, R451). -/
def Core.swapProcessors (c : Core) : Core :=
  (c.setFld R.UPD_STATUS.at 8 1 (1 - c.fld R.UPD_STATUS.at 8 1)).tally 30

/-- The epoch that names B begins in this tick, or has begun (R446). -/
def Core.handoverDue (c : Core) : Bool :=
  decide (c.phase = 5) && c.upd.loaded &&
    (match c.handoverTick with | some b => decide (b ≤ c.now) | none => false)

/-- HANDOVER (R446, R450): tick B. -/
def execHandover (s : State) : Host.Outcome State Fault Refusal :=
  let c := s.core
  if c.handoverDue ∧ c.enabled 0x17 = true then
    match c.upd.claim with
    | none => .next s
    | some k =>
      if c.upd.resets then s.resetAfterCommit 6 c.start
      else
        let c1 := c.swapProcessors
        let c2 := ((c1.setFld R.UPD_STATUS.at 0 4 6).setFld R.UPD_STATUS.at 10 1 1).setFld R.UPD_STATUS.at 14 1 0
        let c3 := { c2 with upd := { c2.upd with run := k.slot, b := some c2.now, hbAt := c2.upd.hb.map (fun d => c2.now + d) } }
        .next { s with core := (((c3.freeOwn 10 0).showUpd).stampTick R.UPD_HO_TICK.at).event 0x17 7 }
  else .next s

/-- What the update does at the start of a tick: the new image sets HB_OK (R447), which completes ACTIVATE. -/
def Core.updClock (c : Core) : Core :=
  match c.upd.hbAt with
  | some t =>
    if t ≤ c.now ∧ c.phase = 6 ∧ c.fld R.UPD_STATUS.at 14 1 = 0 then
      ({ c with upd := { c.upd with hbAt := none, hbTick := c.now } }.setFld R.UPD_STATUS.at 14 1 1).activateDone 0 (c.upd.b.getD 0)
    else c
  | none => c

/-- The old image takes control back (R447). -/
def Core.handBack (c : Core) : Core :=
  let new := c.upd.run
  let old := 1 - new
  let c1 := { c.swapProcessors with upd := { c.upd with run := old, b := none, hbAt := none } }
  let c2 := ((c1.writeBoot old false 0).setFld R.UPD_STATUS.at 10 1 0).setFld R.UPD_STATUS.at 14 1 0
  let c3 := ((c2.rejectImage new).stampTick R.UPD_HO_TICK.at).event 0x17 8
  ((c3.reloadStandby).claimFails 7).showUpd.activateDone 10 (c.upd.b.getD 0)

/-- HANDBACK (R447): 5 s after B without HB_OK, or a fault of the new active processor before CONFIRM. -/
def execHandback (fault : Bool) (s : State) : Host.Outcome State Fault Refusal :=
  s.act 0x17 (fun c =>
    match c.upd.b with
    | some b =>
      if c.phase = 6 ∧ (fault = true ∨ (c.fld R.UPD_STATUS.at 14 1 = 0 ∧ b + 5120000 ≤ c.now)) then c.handBack else c
    | none => c)

/-- The thermometer is burned up to `sv` (R448, R449). -/
def Core.burnVersion (c : Core) (sv : Nat) : Core :=
  if c.nv.fuses.sv < sv then
    ({ c with nv := { c.nv with fuses := { c.nv.fuses with sv := min 128 sv } } }.setFld R.UPD_SV.at 16 8 (min 128 sv)).event 0x17 10
  else c

/-- CONFIRM (R448): the code. -/
def Core.confirm (c : Core) (nor : Bool) : Core × Nat :=
  if c.phase ≠ 6 ∨ c.fld R.UPD_STATUS.at 14 1 = 0 then (c, 1)
  else if !nor then (c, 11)
  else
    let c1 := (c.writeBoot c.upd.run false 0).burnVersion (hdrSecVer (c.slot c.upd.run).header)
    let c2 := { c1 with upd := { c1.upd with claim := none, b := none, hbAt := none }, nv := { c1.nv with journal := none } }
    let c3 := ((c2.setFld R.UPD_STATUS.at 0 4 0).setFld R.UPD_STATUS.at 4 2 0).setFld R.UPD_STATUS.at 10 1 0
    ((c3.dropOffer).reloadStandby.event 0x17 9, 0)

/-- UPD_GO_CONFIRM (R448). -/
def execUpdGoConfirm (nor : Bool) (s : State) : Host.Outcome State Fault Refusal :=
  s.act 0x17 (fun c => let x := c.confirm nor; x.1.updGoDone x.2 0)

/-- UPD_CONFIRM (R459). -/
def execUpdConfirm (h : CmdHead) (nor : Bool) (s : State) : Host.Outcome State Fault Refusal :=
  s.run (fun c => c.command h 0x54 (fun c =>
    let x := c.confirm nor
    x.1.complete 0x54 h.seq x.2 9 c.now (leBytes 4 x.1.nv.fuses.sv)))

/-- AUTO_CONFIRM (R448). -/
def execAutoConfirm (nor : Bool) (s : State) : Host.Outcome State Fault Refusal :=
  s.act 0x17 (fun c =>
    if bitOf (c.reg R.UPD_CFG.at) 3 && decide (c.phase = 6) && decide (c.fld R.UPD_STATUS.at 14 1 = 1) &&
        decide (c.upd.hbTick + 1024000 * c.fld R.UPD_CFG.at 8 8 ≤ c.now) then
      (c.confirm nor).1
    else c)

/-- An epoch of track `k` starts in this tick. -/
def Core.epochStarts (c : Core) (k : Nat) : Bool :=
  let t := c.track k
  t.hasEpochs && decide (c.time * 65536 ≤ t.start16) && decide (t.start16 < (c.time + 48) * 65536)

/-- A swap for self-test is due (R429, R451). -/
def Core.swapDue (c : Core) : Bool :=
  c.upd.swap && decide (c.fld R.UPD_STATUS.at 9 1 = 1) && decide (c.phase ≠ 5) && decide (c.phase ≠ 6) &&
    c.epochStarts (c.fld R.UPD_CFG.at 4 2)

/-- CP_SWAP (R451): no image load and no change of boot record. -/
def execCpSwap (s : State) : Host.Outcome State Fault Refusal :=
  s.act 0x17 (fun c =>
    if c.swapDue then
      (({ c with upd := { c.upd with swap := false } }.swapProcessors).stampTick R.UPD_HO_TICK.at).event 0x17 7
    else c)

/-- An uncorrectable error in the active processor's memory (R414, R451): the standby takes over; in TRIAL that is a handback. -/
def Core.faultHandover (c : Core) : Core :=
  let c1 := c.event 0x17 11
  if c1.phase = 6 ∧ c1.upd.b.isSome = true then c1.handBack
  else if c1.fld R.UPD_STATUS.at 9 1 = 1 then
    ((c1.swapProcessors).stampTick R.UPD_HO_TICK.at).reloadStandby
  else c

/-! ### UPD_CFG and the profiles (R453, R458) -/

/-- A write of UPD_CFG (R458, R461): guarded; CONFIRM_S below 10 is refused; an accepted write is stored in NOR. -/
def updCfgWrite (c : Core) (v : Word) : Core × Bool :=
  if !c.guardAccepts then
    ((((c.event 0x17 31).bump R.GRD_REFUSE_CNT.at).guardRefused), false)
  else if fieldOf v 8 8 < 10 then c.refusePage 0x17
  else
    let w := v &&& 0xFF3F
    let c1 := { c with nv := { c.nv with updCfg := w } }.setReg R.UPD_CFG.at w
    (match c1.upd.claim with
     | some k => if c1.chainFwd && !c.chainFwd then c1.publish k.written else c1
     | none => c1, true)

/-- Copy `j` of profile `p`. -/
def Core.profileCopy (c : Core) (p j : Nat) : Option Profile :=
  match Table.get (fun _ => none) c.nv.profiles (2 * p + j) with
  | some x => if x.good then some x else none
  | none => none

/-- `c` with it replaced. -/
def Core.setProfile (c : Core) (p j : Nat) (x : Option Profile) : Core :=
  { c with nv := { c.nv with profiles := Table.set (fun _ => none) c.nv.profiles (2 * p + j) x } }

/-- The standing copy of profile `p`: valid, with the higher sequence number (R453). -/
def Core.standing (c : Core) (p : Nat) : Option Profile :=
  match c.profileCopy p 0, c.profileCopy p 1 with
  | some a, some b => some (if a.seq < b.seq then b else a)
  | some a, none => some a
  | none, b => b

/-- The copy that a write of profile `p` goes to: an invalid one, else the one with the lower sequence number. -/
def Core.spareCopy (c : Core) (p : Nat) : Nat :=
  match c.profileCopy p 0, c.profileCopy p 1 with
  | none, _ => 0
  | some _, none => 1
  | some a, some b => if a.seq < b.seq then 0 else 1

/-- The next sequence number of the profile area. -/
def Core.nextProfileSeq (c : Core) : Nat :=
  c.nv.profiles.foldl (fun m e => match e.2 with | some x => max m x.seq | none => m) 0 + 1

/-- The boot profile (R401, R453): the standing copy with BOOT set and the highest sequence number. -/
def Core.bootProfile (c : Core) : Option Nat :=
  ((List.range 16).foldl (fun (b : Option (Nat × Nat)) p =>
    match c.standing p with
    | some x => if x.boot && (match b with | some y => decide (y.2 < x.seq) | none => true) then some (p, x.seq) else b
    | none => b) none).map (·.1)

/-- The records of a profile in the Shed (R453): none when byte 3 of one is not 0 or its address has bits above 19. -/
def profileRecords (l : List Byte) (n : Nat) : Option (List (Nat × Word)) :=
  (List.range n).foldr (fun i acc =>
    match acc with
    | none => none
    | some r =>
      if bytesAt l (8 * i) 4 < 2 ^ 20 then some ((bytesAt l (8 * i) 4, BitVec.ofNat 32 (bytesAt l (8 * i + 4) 4)) :: r) else none)
    (some [])

/-- PROFILE_SAVE (R453, R459). -/
def execProfileSave (h : CmdHead) (p n addr : Nat) (nor : Bool) (s : State) : Host.Outcome State Fault Refusal :=
  s.run (fun c => c.command h 0x56 (fun c =>
    match (if 15 < p ∨ 16382 < n then none else (c.updBytes addr (8 * n)).bind (fun l => profileRecords l n)) with
    | none => c.complete 0x56 h.seq 2 9 c.now []
    | some writes =>
      if !nor then c.complete 0x56 h.seq 11 9 c.now []
      else
        let seq := c.nextProfileSeq
        let boot := (c.standing p).any (·.boot)
        (c.setProfile p (c.spareCopy p) (some { seq := seq, boot := boot, writes := writes })).complete 0x56 h.seq 0 9 c.now (leBytes 4 seq)))

/-- PROFILE_ERASE (R453, R459). -/
def execProfileErase (h : CmdHead) (p : Nat) (nor : Bool) (s : State) : Host.Outcome State Fault Refusal :=
  s.run (fun c => c.command h 0x56 (fun c =>
    if 15 < p then c.complete 0x56 h.seq 2 9 c.now []
    else if !nor then c.complete 0x56 h.seq 11 9 c.now []
    else ((c.setProfile p 0 none).setProfile p 1 none).complete 0x56 h.seq 0 9 c.now (leBytes 4 (c.nextProfileSeq - 1))))

/-- A profile's standing copy is written again with another BOOT. -/
def Core.markBoot (c : Core) (p : Nat) (boot : Bool) : Core :=
  match c.standing p with
  | some x => c.setProfile p (c.spareCopy p) (some { x with seq := c.nextProfileSeq, boot := boot })
  | none => c

/-- PROFILE_SET_BOOT (R453, R459): the new boot profile is written before the flag of the old one is cleared. -/
def execProfileSetBoot (h : CmdHead) (p : Nat) (nor : Bool) (s : State) : Host.Outcome State Fault Refusal :=
  s.run (fun c => c.command h 0x56 (fun c =>
    if 15 < p ∧ p ≠ 0xFF then c.complete 0x56 h.seq 2 9 c.now []
    else if p ≠ 0xFF ∧ (c.standing p).isNone = true then c.complete 0x56 h.seq 1 9 c.now []
    else if !nor then c.complete 0x56 h.seq 11 9 c.now []
    else
      let olds := (List.range 16).filter (fun q => decide (q ≠ p) && (c.standing q).any (·.boot))
      let c1 := if p = 0xFF then c else c.markBoot p true
      let c2 := olds.foldl (fun d q => d.markBoot q false) c1
      c2.complete 0x56 h.seq 0 9 c.now (leBytes 4 (c2.nextProfileSeq - 1))))

/-! ### Fuses and the life cycle (R454, R459) -/

/-- A FUSE command behind the Guard (R454, R458): RETIRED ends with LC, no open window with STATUS GUARDED. -/
def Core.fuse (c : Core) (h : CmdHead) (f : Core → Core) : Core :=
  c.command h 0x57 (fun c =>
    if c.lc = 4 then c.complete 0x57 h.seq 12 9 c.now []
    else if !c.guardAccepts then c.guardRefused.complete 0x57 h.seq 7 0 c.now []
    else f c)

/-- The fuse shadow in the registers (R309, R397, R462). -/
def Core.showFuses (c : Core) : Core :=
  let f := c.nv.fuses
  let w := fun i => f.lock.getD i 0
  let prog := (List.range 4).foldl (fun m k => m + b2n (decide (Table.get (fun _ => []) f.keys k ≠ [])) * 2 ^ k) 0
  let c1 := ((c.setFld R.GRD_STATUS.at 4 3 f.lc).setNat R.GRD_KEYS.at (prog + 16 * f.revoked)).setFld R.UPD_SV.at 16 8 f.sv
  let c2 := (c1.setReg R.RL_ID.at (w 0)).setReg R.RL_CHMASK.at (w 4)
  (List.range 3).foldl (fun d b => d.setReg (R.RL_BAND.at b) (w (b + 1))) c2

/-- A transition's precondition (R454). -/
def Core.lcMay (c : Core) (target : Nat) : Bool :=
  decide (target = c.lc + 1) &&
    (match c.lc with
     | 0 => bitOf (c.reg R.GRD_KEYS.at) 0
     | 2 => decide (c.fld R.GRD_STATUS.at 1 1 = 0)
     | _ => true)

/-- The device after LC_ADVANCE: the state fuses burned, the window closed, secrets cleared from RETURNED on. -/
def Core.lcAdvanced (c : Core) (h : CmdHead) (target : Nat) : Core :=
  let f := { c.nv.fuses with lc := target }
  let c1 := (({ c with nv := { c.nv with fuses := f } }.setFld R.GRD_STATUS.at 4 3 target).event 0x18 6).tally 33
  let c2 := match c1.ste.run with | some r => c1.endRun { r with cut := true } { count := 0 } | none => c1
  let c3 := if 3 ≤ target then { c2 with guard := { c2.guard with secrets := false } } else c2
  c3.closeWindow.complete 0x57 h.seq 0 9 c.now []

/-- LC_ADVANCE (R454): the Logbook delta is committed and the device resets with source HOST. -/
def execLcAdvance (h : CmdHead) (target : Nat) (s : State) : Host.Outcome State Fault Refusal :=
  let c := s.core
  if c.ready ∧ c.lc ≠ 4 ∧ c.guardAccepts = true ∧ c.lcMay target = true then
    { s with core := c.lcAdvanced h target }.resetAfterCommit 6 c.start
  else s.run (fun c => c.fuse h (fun c => c.complete 0x57 h.seq (if 4 < target then 2 else 12) 9 c.now []))

/-- FUSE_REGLOCK (R309, R459): refused with STATE once REGION is not 0. -/
def execFuseReglock (h : CmdHead) (id b0 b1 b2 mask : Word) (s : State) : Host.Outcome State Fault Refusal :=
  s.run (fun c => c.fuse h (fun c =>
    if c.fld R.RL_ID.at 0 8 ≠ 0 then c.complete 0x57 h.seq 1 9 c.now []
    else if [b0, b1, b2].any (fun b => decide (10000 < fieldOf b 16 16)) then c.complete 0x57 h.seq 2 9 c.now []
    else
      let lock := [id &&& 0x1FFF, b0 &&& 0xFFFF00FF, b1 &&& 0xFFFF00FF, b2 &&& 0xFFFF00FF, mask &&& 0x1FFFFFF]
      ({ c with nv := { c.nv with fuses := { c.nv.fuses with lock := lock } } }.showFuses.showDuty).complete 0x57 h.seq 0 9 c.now []))

/-- KEY_PROGRAM (R459). -/
def execKeyProgram (h : CmdHead) (slot addr : Nat) (s : State) : Host.Outcome State Fault Refusal :=
  s.run (fun c => c.fuse h (fun c =>
    match (if 3 < slot then none else c.updBytes addr 48) with
    | none => c.complete 0x57 h.seq 2 9 c.now []
    | some d =>
      if bitOf (c.reg R.GRD_KEYS.at) slot then c.complete 0x57 h.seq 1 9 c.now []
      else
        let keys := Table.set (fun _ => []) c.nv.fuses.keys slot d
        ({ c with nv := { c.nv with fuses := { c.nv.fuses with keys := keys } } }.showFuses).complete 0x57 h.seq 0 9 c.now []))

/-- KEY_REVOKE (R459): refused with STATE when no slot programmed and unrevoked would be left. -/
def execKeyRevoke (h : CmdHead) (slot : Nat) (s : State) : Host.Outcome State Fault Refusal :=
  s.run (fun c => c.fuse h (fun c =>
    let w := c.reg R.GRD_KEYS.at
    let left := (List.range 4).any (fun k => decide (k ≠ slot) && bitOf w k && !bitOf w (4 + k))
    if 3 < slot then c.complete 0x57 h.seq 2 9 c.now []
    else if !left then c.complete 0x57 h.seq 1 9 c.now []
    else
      let rev := c.nv.fuses.revoked ||| 2 ^ slot
      ({ c with nv := { c.nv with fuses := { c.nv.fuses with revoked := rev } } }.showFuses).complete 0x57 h.seq 0 9 c.now []))

/-! ### Uncorrectable errors (R414) -/

/-- A bay word of a member's stream is lost (R269, R414): the member underruns, a miss with CAUSE 0x3. -/
def Core.memberLost (c : Core) (m : Nat) : Core :=
  if !c.memberValid m then c
  else
    let src := c.fld (R.MEMBER.at m) 8 8
    let decode := decide (c.fld (R.MEMBER.at m) 6 2 = 1)
    let n := if decode then c.fld (R.LS_CTL.at src) 0 8 else src
    let c1 := if c.fld (R.MEMBER.at m) 16 1 = 1 then c
      else ((c.setMember m { c.member m with under := satAdd 32 (c.member m).under 1, since := c.time }).setFld
        (R.MEMBER.at m) 16 1 1).event 0xB 0
    c1.deadlineMiss n true (if decode then 4 else 0) 3 0 0 c.time true 0

/-- An entry of queue `q`'s ring or hold is dropped (R246, R414): the oldest of the hold, else one of the ring. -/
def Core.entryLost (c : Core) (q : Nat) : Core :=
  let c1 := (if q = 1 then c else c.bump (R.Q_DROP_CNT.at q)).qEvent q 2
  match (c1.queue q).hold with
  | h :: rest =>
    let p := h.entry
    (c1.setQueue q { c1.queue q with hold := rest }).deadlineMiss p.source p.stall p.output 3 p.typ q p.stamp true 0
  | [] => c1.deadlineMiss 0xA false 0 3 0 q c1.time true 0

/-- A record in other SRAM is discarded and counted as a drop (R414). -/
def Core.recordLost (c : Core) (q : Nat) : Core :=
  match (c.queue q).hold with
  | h :: rest => (c.setQueue q { c.queue q with hold := rest }).dropRecord q h
  | [] => if q = 1 then c.qEvent q 2 else (c.bump (R.Q_DROP_CNT.at q)).qEvent q 2

/-- A fetched command is discarded (R414): it completes with BAD_CRC, as a command whose bytes fail their check. -/
def Core.commandLost (c : Core) : Core :=
  match c.fetched with
  | f :: rest => ({ c with fetched := rest } : Core).rejectCommand f.bytes 5
  | [] => c

/-- A frame read for decode `d` is concealed (R198, R414). -/
def Core.frameLost (c : Core) (d : Nat) : Core :=
  if c.decodeState d = 0 then c
  else (c.setDec d { c.dec d with bad := (c.dec d).bad + 1, concealed := true }).bumpFld (R.LS_STAT.at d) 0 16

/-- MEMORY_UE (R414). -/
def execMemoryUe (p : UePlace) (s : State) : Host.Outcome State Fault Refusal :=
  s.run (fun c =>
    let mark := fun (d : Core) (w : Nat) =>
      { d with shedBad := Table.set (fun _ => false) d.shedBad w true }.shedError w true false
    match p with
    | .unit u a b => (c.sramError u.val a.toNat b.toNat true false).unitUe u.val
    | .shed w => mark c w.val
    | .bay m w => (mark c w.val).memberLost m.val
    | .entry q w => (mark c w.val).entryLost q.val
    | .frame d w => (mark c w.val).frameLost d.val
    | .processor active a b =>
      let d := c.sramError (if active = decide (c.fld R.UPD_STATUS.at 8 1 = 0) then 0x1D0 else 0x1D1) a.toNat b.toNat true false
      if active then d.faultHandover else d.reloadStandby
    | .record q r a b => (c.sramError r.val a.toNat b.toNat true false).recordLost q.val
    | .command r a b => (c.sramError r.val a.toNat b.toNat true false).commandLost)

end Sys2Proof.Machine
end

