-- ==== Sys2Proof/Machine/Startup.lean ====
section
/-! DEFINITION. Supplies, reset sources, boot and calibration (R391 to R410). The boot profile's writes stand in `Access.lean`. -/

namespace Sys2Proof.Machine

/-! ### Reset sources (R391 to R394) -/

/-- A device that a source has reset restarts the tick; any other goes on. -/
def State.settle (s : State) (d : Core) : Host.Outcome State Fault Refusal :=
  if s.core.yardRuns && !d.yardRuns then s.reboot d else .next { s with core := d }

/-- Start-up leaves RESET once nothing holds the device (R393, R396). -/
def Core.leaveReset (c : Core) : Core :=
  if c.stage = 0 ∧ c.start.held = false then c.setFld R.BOOT_STATUS.at 0 4 1 else c

/-- `c` with what start-up remembers replaced. -/
def Core.setStart (c : Core) (x : StartRec) : Core := { c with start := x }

/-- POWER_ON_RESET (R392, R395): every rail is in range. -/
def execPowerOnReset (seqErr : Bool) (s : State) : Host.Outcome State Fault Refusal :=
  s.run (fun c =>
    if c.stage = 0 ∧ c.start.rails = false then
      let c1 := c.setStart { c.start with rails := true, seqErr := seqErr }
      (((c1.setFld R.RESET_CAUSE.at 0 1 1).setFld R.RESET_CAUSE.at 8 1 (b2n seqErr)).setFld R.PT_STATUS.at 8 8 0xFF).leaveReset
    else c)

/-- BROWNOUT (R392, R394, R495): a rail leaves range; no commit is made. -/
def execBrownout (rails : BitVec 8) (s : State) : Host.Outcome State Fault Refusal :=
  if rails = 0 ∨ s.core.start.rails = false then .next s
  else
    let d := s.core.deviceReset 1 { s.core.start with rails := false, seqErr := false }
    s.reboot (d.setFld R.PT_STATUS.at 8 8 (0xFF ^^^ rails.toNat))

/-- PIN_RESET (R393, R394): a fall resets the device, after a final commit in progress (R470); a rise lets start-up begin. -/
def execPinReset (low : Bool) (s : State) : Host.Outcome State Fault Refusal :=
  let c := s.core
  let x := { c.start with pinLow := low }
  if low && !c.start.pinLow then
    if c.stage = 0 then .next { s with core := c.setStart x }
    else if c.commitRuns then
      .next { s with core := { c.setStart x with logJobs := c.logJobs.map (fun j => { j with reset := some (j.reset.getD 2) }) } }
    else s.reboot (c.deviceReset 2 x)
  else .next { s with core := (c.setStart x).leaveReset }

/-- CLOCK_FAULT (R360, R394): XIN is lost in RELOCK. -/
def execClockFault (s : State) : Host.Outcome State Fault Refusal :=
  if s.core.syn0State = 3 then s.reboot (s.core.deviceReset 3 s.core.start) else .next s

/-- WATCHDOG (R394): while firmware runs. -/
def execWatchdog (s : State) : Host.Outcome State Fault Refusal :=
  if 3 ≤ s.core.stage ∧ s.core.stage ≠ 15 then s.resetAfterCommit 4 s.core.start else .next s

/-- THERMAL (R394, R495): the junction reaches 125 °C, or falls below 110 °C. -/
def execThermal (hot : Bool) (s : State) : Host.Outcome State Fault Refusal :=
  let c := s.core
  let x := { c.start with hot := hot }
  if hot && !c.start.hot then
    if c.stage = 0 then .next { s with core := c.setStart x } else s.resetAfterCommit 5 x
  else .next { s with core := (c.setStart x).leaveReset }

/-- A write of DEV_RESET (R394, R408): 0x3C within 1024 ticks of 0xC3 resets the device with source HOST, after the commit. Any other value
ends the sequence. -/
def devResetWrite (c : Core) (v : Word) : Core × Bool :=
  let k := fieldOf v 0 8
  let armed := match c.start.key with | some t => decide (c.now ≤ t + 1024) | none => false
  let c1 := c.setStart { c.start with key := if k = 0xC3 then some c.now else none }
  (if k = 0x3C ∧ armed = true then c1.resetAfterCommit 6 c1.start else c1, true)

/-- DEV_RESET (R394). -/
def execDevReset (port : Port) (value : Word) (s : State) : Host.Outcome State Fault Refusal :=
  s.settle (s.core.hostWrite port R.DEV_RESET R.DEV_RESET.at value devResetWrite).1

/-! ### Fuses and the boot image (R397 to R399, R449) -/

/-- FUSE_LOAD (R397, R436): the fuse shadow is loaded, or the device halts; secrets are derived except in RETIRED. -/
def execFuseLoad (corrected : Nat) (bad : Bool) (s : State) : Host.Outcome State Fault Refusal :=
  s.run (fun c =>
    if c.stage = 1 ∧ c.start.fuses = false then
      if bad then c.setFld R.BOOT_STATUS.at 0 4 15
      else
        let c1 := (c.setFld R.BOOT_STATUS.at 8 8 (min 255 corrected)).setStart { c.start with fuses := true }
        { c1 with guard := { c1.guard with secrets := decide (c.nv.fuses.lc ≠ 4) } }.showFuses
    else c)

/-- What the boot's NOR reads did not find readable (R398, R416, R453, R467). -/
def Core.markReads (c : Core) (r : BootReads) : Core :=
  let copies := c.nv.copies.zipIdx.map (fun e => { e.1 with good := e.1.good && !(r.copies.any (fun k => decide (k.val = e.2))) })
  let slots := c.nv.slots.zipIdx.map (fun e => { e.1 with ue := e.1.ue || r.slots.any (fun k => decide (k.val = e.2)) })
  let profiles := c.nv.profiles.map (fun e =>
    (e.1, e.2.map (fun x => { x with good := x.good && !(r.profiles.any (fun k => decide (k.val = e.1))) })))
  { c with nv := { c.nv with copies := copies, slots := slots, profiles := profiles,
                             field := if r.field then none else c.nv.field, journal := if r.journal then none else c.nv.journal } }

/-- A slot verifies (R398). -/
def Core.verifies (c : Core) (k : Nat) : Bool := decide (c.slotReason (c.slot k) = 0)

/-- The boot ROM's choice (R398, R449): the device with its records written, the slot, fallback and trial; none: RECOVERY. -/
def Core.chooseImage (c : Core) : Core × Option (Nat × Bool × Bool) :=
  let either := fun (d : Core) => (if d.verifies 0 then some (0, true, false) else if d.verifies 1 then some (1, true, false) else none :
    Option (Nat × Bool × Bool))
  match c.bestCopy with
  | none => (c, either c)
  | some _ =>
    let x := c.bootCopy
    if x.trial then
      if x.attempts < 3 then
        (if c.verifies x.slot then (c.writeBoot x.slot true (x.attempts + 1), some (x.slot, false, true)) else (c, either c))
      else
        let d := (c.writeBoot (1 - x.slot) false 0).rejectImage x.slot
        let e := { d with nv := { d.nv with journal := none } }
        (if e.verifies (1 - x.slot) then (e, some (1 - x.slot, true, false)) else (e, either e))
    else if c.verifies x.slot then (c.burnVersion (hdrSecVer (c.slot x.slot).header), some (x.slot, false, false))
    else (c, either c)

/-- The claim that a journal record keeps stands with no source bound; a complete one is verified again (R440, R441). A trial image is in
TRIAL until CONFIRM, whatever the journal holds (R449). -/
def Core.restoreClaim (c : Core) (run : Nat) (trial : Bool) : Core :=
  match c.nv.journal with
  | none => if trial then c.setFld R.UPD_STATUS.at 0 4 6 else c
  | some j =>
    let k := if trial then run else 1 - c.bootCopy.slot
    let claim : Claim := { digest := j.digest, header := (c.slot k).header, slot := k, written := j.written }
    let c1 := { c with upd := { c.upd with claim := some claim, lastBlock := c.now } }.showClaim
    if trial then c1.setFld R.UPD_STATUS.at 0 4 6
    else if j.written.length = hdrBlocks claim.header then (c1.setFld R.UPD_STATUS.at 0 4 2).startVerify false
    else c1.setFld R.UPD_STATUS.at 0 4 1

/-- A boot in the Logbook (R463): BOOTS, the source of the reset, SEQ_ERR. -/
def Core.tallyBoot (c : Core) : Core :=
  let d := (c.tally 2).tally (3 + c.start.cause)
  if c.start.seqErr then d.tally 10 else d

/-- The image in slot `k` starts: CP0 active, CP1 standby (R396, R447). -/
def Core.startImage (c : Core) (k : Nat) (fallback trial : Bool) (copy : Nat) (hb : Option Nat) : Core :=
  let c1 := (((c.setFld R.BOOT_STATUS.at 0 4 3).setFld R.BOOT_STATUS.at 4 1 k).setFld R.BOOT_STATUS.at 5 1 copy).setFld R.BOOT_STATUS.at 6 1
    (b2n fallback)
  let c2 := (c1.setFld R.BOOT_STATUS.at 7 1 (b2n trial)).setFld R.UPD_STATUS.at 10 1 (b2n trial)
  let c3 := { c2 with upd := { c2.upd with run := k, hbAt := if trial then hb.map (fun d => c2.now + d) else none } }
  let c4 := if c3.regionRetired 0x1D0 then c3.setFld R.UPD_STATUS.at 8 1 1 else c3
  (c4.setFld R.UPD_STATUS.at 9 1 (b2n (!c4.regionRetired 0x1D0 && !c4.regionRetired 0x1D1))).restoreClaim k trial |>.showUpd

/-- IMAGE_SELECT (R398, R399, R449, R467): ROM ends in FIRMWARE or RECOVERY; the firmware loads its NOR records. -/
def execImageSelect (reads : BootReads) (hb : Option Nat) (s : State) : Host.Outcome State Fault Refusal :=
  s.run (fun c =>
    if c.stage = 2 ∧ c.start.fuses = true then
      let c1 := c.markReads reads
      let copy := c1.bestCopy.getD 0
      let x := c1.chooseImage
      let c2 := ((x.1.loadLog reads.records).tallyBoot).setReg R.UPD_CFG.at x.1.nv.updCfg
      let c3 := (c2.setNat R.UPD_JOURNAL_SEQ.at c2.nv.journals).setFld R.CAL_STATUS.at 9 1 (b2n c2.nv.field.isSome)
      match x.2 with
      | some (k, fallback, trial) => c3.startImage k fallback trial copy hb
      | none => (c3.setFld R.BOOT_STATUS.at 0 4 14).setFld R.BOOT_STATUS.at 6 1 1
    else c)

/-! ### Calibration values (R85, R87, R296, R298, R299) -/

/-- The registers of input `i`'s calibrated values, as a read of a register gives them. -/
def inputCalOf (get : Nat → Word) (i : Nat) : InputCal :=
  { anaDelay := get (R.ANA_DELAY.at i), align := get (R.ALIGN.at i), stepLat := get (R.STEP_LAT.at i),
    gains := (List.range (topSetting i + 1)).map (fun k => get (R.GAIN_CORR.at i k)) }

/-- The same of the radio, with its image-rejection words. -/
def radioCalOf (get : Nat → Word) (eps phi : BitVec 18) : RadioCal :=
  { bg := { stepLat := (get R.WR_STEP_LAT.at).setWidth 8, irr := (get R.WR_IRC.at).setWidth 16, eps := eps, phi := phi },
    rxDelay := get R.WR_RX_DELAY.at, txDelay := get R.WR_TX_DELAY.at }

/-- The factory record (log entry 3). -/
def factoryCal : CalData :=
  { inputs := [(0, inputCalOf resetValue 0), (1, inputCalOf resetValue 1), (2, inputCalOf resetValue 2)],
    radio := some (radioCalOf resetValue 0 0) }

/-- The values in force. -/
def Core.calInForce (c : Core) : CalData :=
  { inputs := [(0, inputCalOf c.reg 0), (1, inputCalOf c.reg 1), (2, inputCalOf c.reg 2)],
    radio := some (radioCalOf c.reg c.radio.eps c.radio.phi) }

/-- What a calibration holds of input `i`. -/
def calInput (d : CalData) (i : Nat) : Option InputCal := (d.inputs.find? (fun e => decide (e.1.val = i))).map (·.2)

/-- Open values in place of measurements that a command does not carry (log entry 2). -/
def Core.drawInput (c : Core) (i : Nat) : InputCal × Core :=
  let w := fun k => Config.freeWord (c.drawn + k)
  ({ anaDelay := w 0 &&& 0xFFFF, align := w 1, stepLat := w 2 &&& 0x3FF,
     gains := (List.range (topSetting i + 1)).map (fun k => w (3 + k) &&& 0xFFFFF) }, { c with drawn := c.drawn + 64 })

/-- The same for the radio. -/
def Core.drawRadio (c : Core) : RadioCal × Core :=
  let w := fun k => Config.freeWord (c.drawn + k)
  ({ bg := { stepLat := (w 0).setWidth 8, irr := (w 1).setWidth 16, eps := (w 2).setWidth 18, phi := (w 3).setWidth 18 },
     rxDelay := w 4 &&& 0xFFFF, txDelay := w 5 &&& 0xFFFF }, { c with drawn := c.drawn + 64 })

/-- The values of input `i` in a calibration, open where it has none. -/
def Core.takeInput (d : CalData) (x : Core × List (Fin 3 × InputCal)) (i : Fin 3) : Core × List (Fin 3 × InputCal) :=
  match calInput d i with
  | some v => (x.1, x.2 ++ [(i, v)])
  | none => ((x.1.drawInput i.val).2, x.2 ++ [(i, (x.1.drawInput i.val).1)])

/-- The results `d` for the blocks of `mask`, complete. -/
def Core.fillCal (c : Core) (mask : Nat) (d : CalData) : Core × CalData :=
  let x := (([0, 1, 2] : List (Fin 3)).filter (fun i => mask.testBit i.val)).foldl (Core.takeInput d) (c, [])
  if mask.testBit 3 && d.radio.isNone then
    let e := x.1.drawRadio
    (e.2, ({ d with inputs := x.2, radio := some e.1 } : CalData))
  else (x.1, ({ d with inputs := x.2 } : CalData))

/-! ### Named ticks (R405) -/

/-- The tick that is named in this one: a multiple of 1024, at least 1024 ticks on. -/
def Core.nameTick (c : Core) : Nat := (c.now + 2047) / 1024 * 1024

/-- A correction is named: CAL_PEND_TICK, CAL_PEND_BLOCKS and the device's own timetable entry (R65, R405). -/
def Core.nameCal (c : Core) (mask : Nat) (d : CalData) (power : Bool) : Core :=
  let t := c.nameTick
  let x : CalPend := { tick := t, mask := mask, data := d, power := power }
  let c1 := { c with calPend := c.calPend ++ [x] }
  let c2 := ((c1.setFld R.CAL_STATUS.at 8 1 1).setNat R.CAL_PEND_TICK.at t).setNat R.CAL_PEND_BLOCKS.at mask
  match c2.ownEntry true with | some i => c2.placeOwn i 11 mask t 0 0 | none => c2

/-- New values of input `i` take effect. -/
def Core.applyInput (c : Core) (i : Nat) (v : InputCal) : Core :=
  let c1 := ((c.setReg (R.ANA_DELAY.at i) v.anaDelay).setReg (R.ALIGN.at i) v.align).setReg (R.STEP_LAT.at i) v.stepLat
  ((v.gains.zipIdx.take (topSetting i + 1)).foldl (fun d e => d.setReg (R.GAIN_CORR.at i e.2) e.1) c1).event (3 + i) 4

/-- New values of the radio take effect. -/
def Core.applyRadio (c : Core) (v : RadioCal) : Core :=
  ((c.applyBgcal v.bg).setReg R.WR_RX_DELAY.at v.rxDelay).setReg R.WR_TX_DELAY.at v.txDelay

/-- A correction takes effect in its named tick; a CAL_RUN or CAL_RESTORE that awaits it completes (R405, R407). The power-up results
open BRING_UP, where repair data retire the units that have failed before (R396, R427). -/
def Core.applyCal (c : Core) (p : CalPend) : Core :=
  let c1 := (p.data.inputs.filter (fun e => p.mask.testBit e.1.val)).foldl (fun d e => d.applyInput e.1.val e.2) c
  let c2 := match p.data.radio with | some r => if p.mask.testBit 3 then c1.applyRadio r else c1 | none => c1
  let c3 := (((c2.stampTick R.CAL_APPLY_TICK.at).bump R.CAL_CNT.at).event 0x14 0).freeOwn 11 p.mask
  let c4 := (c3.effectDone 0x5C p.tick 11 0 (leBytes 4 p.tick)).effectDone 0x5E p.tick 11 0 (leBytes 4 p.tick)
  if p.power && decide (c4.stage = 4) then
    let d := (List.range 272).foldl (fun x u => if x.regionRetired u then x.setUnit u 4 0 else x) c4
    d.setFld R.BOOT_STATUS.at 0 4 5
  else c4

/-- CAL_APPLY (R405). -/
def execCalApply (s : State) : Host.Outcome State Fault Refusal :=
  s.act 0x14 (fun c =>
    let due := c.calPend.filter (fun p => decide (p.tick ≤ c.now))
    let c1 := { c with calPend := c.calPend.filter (fun p => decide (c.now < p.tick)) }
    if due.isEmpty then c else (due.foldl Core.applyCal c1).showPend)

/-! ### Power-up calibration (R403, R404) -/

/-- Calibration owns the tone of input `i`, or hands it back with the host's settings (R94). -/
def Core.takeTone (c : Core) (i : Nat) : Core :=
  let w := c.reg (R.TONE_CTRL.at i)
  let c1 := (c.setRf i { c.rf i with tone := some w }).setFld (R.TONE_CTRL.at i) 1 1 1
  if bitOf w 0 then c1.event (3 + i) 5 else c1

/-- The tone is handed back. -/
def Core.giveTone (c : Core) (i : Nat) : Core :=
  match (c.rf i).tone with
  | some w => (c.setRf i { c.rf i with tone := none }).setReg (R.TONE_CTRL.at i) w
  | none => c

/-- The stored record of NOR: the field record, else the factory's (R404). -/
def Core.storedCal (c : Core) : CalData := match c.nv.field with | some x => x.2 | none => factoryCal

/-- The measured values with the stored ones in the place of blocks that failed twice (R404). -/
def Core.mendCal (c : Core) (d : CalData) : CalData :=
  let bad := d.degraded.toNat
  { d with inputs := d.inputs.map (fun e => if bad.testBit e.1.val then (e.1, (calInput c.storedCal e.1.val).getD e.2) else e),
           radio := if bad.testBit 3 then c.storedCal.radio else d.radio }

/-- POWERUP_CALIBRATION (R403 to R405): C1 starts in FIRMWARE; C8 ends and names the tick. With PWRFAIL_N low it is abandoned (R408). -/
def execPowerupCalibration (results : Option CalData) (s : State) : Host.Outcome State Fault Refusal :=
  s.run (fun c =>
    if c.fld R.PT_STATUS.at 1 1 = 1 then c
    else match results with
      | none =>
        if c.stage = 3 then
          (List.range 3).foldl Core.takeTone ((c.setFld R.BOOT_STATUS.at 0 4 4).setFld R.CAL_STATUS.at 4 4 15)
        else c
      | some v =>
        if c.stage = 4 ∧ c.calPend.isEmpty = true ∧ c.fld R.CAL_STATUS.at 4 4 = 15 then
          let x := c.fillCal 15 v
          let d := x.1.mendCal x.2
          let c1 := (List.range 3).foldl Core.giveTone ((x.1.setFld R.CAL_STATUS.at 4 4 0).setNat R.CAL_TEMP.at v.temp.toNat)
          let c2 := c1.setFld R.CAL_STATUS.at 0 4 v.degraded.toNat
          let c3 := if v.degraded = 0 then c2 else c2.event 0x14 1
          (if v.drift then c3.event 0x14 2 else c3).nameCal 15 d true
        else c)

/-! ### Background calibration (R406) -/

/-- A cycle of input `i` is due: since it turned ON, by period, by temperature, after a cancelled correction, not before a retry. -/
def Core.bgcalDue (c : Core) (i : Nat) : Bool :=
  let t := signedOf 16 (c.fld R.PT_TEMP.at 0 16)
  let was : Int := Int.ofNat (Table.get (fun _ => 0) c.cal.temps i) - 32768
  let byTime := match Table.get (fun _ => none) c.cal.last i with
    | none => true
    | some l => decide (l + 1024000 * c.fld R.CAL_CFG.at 8 8 ≤ c.now) || decide (256 * c.fld R.CAL_CFG.at 16 4 ≤ (t - was).natAbs)
  let again := c.cal.again.testBit i
  match Table.get (fun _ => none) c.cal.retry i with
  | some r => decide (r ≤ c.now)
  | none => byTime || again

/-- A cycle may run: the input is ON, its BG_EN is 1 and no cycle or correction of it is in hand. -/
def Core.bgcalMay (c : Core) (i : Nat) : Bool :=
  c.inputOn i && bitOf (c.reg R.CAL_CFG.at) i && !c.calBusy i && c.samplesFlow && decide (c.fld R.PT_STATUS.at 1 1 = 0)

/-- Hidden state of block `i` after a calibration, or after a disturbed one. -/
def Core.calDone (c : Core) (i : Nat) (temp : BitVec 16) : Core :=
  { c with cal := { c.cal with last := Table.set (fun _ => none) c.cal.last i (some c.now),
                               temps := Table.set (fun _ => 0) c.cal.temps i (temp.toInt + 32768).toNat,
                               retry := Table.set (fun _ => none) c.cal.retry i none } }

/-- RUNNING of block `i`. -/
def Core.setRunning (c : Core) (i v : Nat) : Core := c.setFld R.CAL_STATUS.at (4 + i) 1 v

/-- BGCAL_CYCLE (R94, R406). -/
def execBgcalCycle (input : Fin 3) (event : BgCycle) (s : State) : Host.Outcome State Fault Refusal :=
  s.act 0x14 (fun c =>
    let i := input.val
    let running := bitOf (c.reg R.CAL_STATUS.at) (4 + i) && decide (5 ≤ c.stage)
    match event with
    | .start =>
      if decide (5 ≤ c.stage) && c.bgcalMay i && c.bgcalDue i then
        ({ c with cal := { c.cal with again := c.cal.again - (if c.cal.again.testBit i then 2 ^ i else 0) } }.setRunning i 1).takeTone i
      else c
    | .done v temp =>
      if running then
        let c1 := (((c.setRunning i 0).giveTone i).calDone i temp).setNat R.CAL_TEMP.at temp.toNat
        (c1.setFld R.CAL_STATUS.at i 1 0).nameCal (2 ^ i) { inputs := [(input, v)], temp := temp } false
      else c
    | .disturbed =>
      if running then
        let c1 := (((c.setRunning i 0).giveTone i).bump R.CAL_FAIL_CNT.at).event 0x14 3
        { c1 with cal := { c1.cal with retry := Table.set (fun _ => none) c1.cal.retry i (some (c1.now + 10240000)) } }
      else c)

/-! ### The calibration commands (R407) -/

/-- The checks of R407's table: 0 good, 1 STATE, 2 CONFIG. -/
def Core.calCheck (c : Core) (mask record : Nat) : Nat :=
  let off := (List.range 3).any (fun i => mask.testBit i && !c.inputOn i)
  let radio := mask.testBit 3 && decide (c.wrMode ≠ 2)
  if off || radio || (List.range 4).any (fun b => mask.testBit b && c.calBusy b) then 1
  else if mask = 0 ∨ 15 < mask ∨ 1 < record then 2
  else 0

/-- CAL_RUN (R407): what is measured is named; a block that failed twice keeps its values. -/
def execCalRun (h : CmdHead) (mask : BitVec 8) (results : CalData) (s : State) : Host.Outcome State Fault Refusal :=
  s.run (fun c => c.command h 0x5C (fun c =>
    let code := c.calCheck mask.toNat 0
    if code ≠ 0 then c.complete 0x5C h.seq code 11 c.now []
    else
      let good := mask.toNat &&& (15 - results.degraded.toNat)
      let x := c.fillCal good results
      let temp := if results.inputs.isEmpty && results.radio.isNone then (c.reg R.PT_TEMP.at).setWidth 16 else results.temp
      let c1 := ((List.range 3).filter (fun i => good.testBit i)).foldl (fun d i => d.calDone i temp) x.1
      let c2 := c1.setNat R.CAL_TEMP.at temp.toNat
      if good = 0 then c2.complete 0x5C h.seq 4 11 c.now []
      else (c2.nameCal good x.2 false).finish h 0x5C (if good = mask.toNat then 0 else 4) 11 c.nameTick (leBytes 4 c.nameTick)))

/-- CAL_STORE (R407, R458): guarded; the field record is written. -/
def execCalStore (h : CmdHead) (nor : Bool) (s : State) : Host.Outcome State Fault Refusal :=
  s.run (fun c => c.command h 0x5D (fun c =>
    if !c.guardAccepts then c.guardRefused.complete 0x5D h.seq 7 0 c.now []
    else if !nor then (c.event 0x14 4).complete 0x5D h.seq 3 11 c.now []
    else
      let n := (c.nv.fieldSeq + 1) % 2 ^ 32
      let c1 := { c with nv := { c.nv with field := some (n, c.calInForce), fieldSeq := n } }
      (c1.setFld R.CAL_STATUS.at 9 1 1).complete 0x5D h.seq 0 11 c.now (leBytes 4 n)))

/-- CAL_RESTORE (R407): the factory or the field values at a named tick. -/
def execCalRestore (h : CmdHead) (mask record : BitVec 8) (s : State) : Host.Outcome State Fault Refusal :=
  s.run (fun c => c.command h 0x5E (fun c =>
    let code := c.calCheck mask.toNat record.toNat
    if code ≠ 0 then c.complete 0x5E h.seq code 11 c.now []
    else match (if record = 0 then some factoryCal else c.nv.field.map (·.2)) with
      | none => (c.event 0x14 4).complete 0x5E h.seq 3 11 c.now []
      | some d => (c.nameCal mask.toNat d false).finish h 0x5E 0 11 c.nameTick (leBytes 4 c.nameTick)))

/-- A write of CAL_CFG (R410): PERIOD below 10 and TEMP_STEP 0 are refused. -/
def calCfgWrite (c : Core) (v : Word) : Core × Bool :=
  if fieldOf v 8 8 < 10 ∨ fieldOf v 16 4 = 0 then c.refusePage 0x14 else plainWrite R.CAL_CFG R.CAL_CFG.at c v

/-! ### BRING_UP and READY (R402, R428) -/

/-- STARTUP_UNIT_TEST (R428): failing units are repaired or retired. -/
def execStartupUnitTest (repaired retired : List Nat) (s : State) : Host.Outcome State Fault Refusal :=
  s.run (fun c =>
    if c.stage = 5 ∧ c.start.tested = false then
      let good := fun (u : Nat) => decide (u < 272) && !c.regionRetired u
      let c1 := (repaired.filter good).foldl (fun (d : Core) u =>
        ({ d with regions := Table.set (fun _ => 0) d.regions u 2 }.bump R.STE_REPAIR_CNT.at).event 0x15 3) c
      let c2 := (retired.filter good).foldl (fun d u => d.retireRegion u) c1
      (c2.setStart { c2.start with tested := true }).spareCheck
    else c)

/-- DEVICE_READY (R402): STAGE becomes READY once the units are tested and the boot profile is applied. -/
def execDeviceReady (s : State) : Host.Outcome State Fault Refusal :=
  s.run (fun c =>
    if c.stage = 5 ∧ c.start.tested = true ∧ c.start.profiled = true then
      let c1 := ((c.setFld R.BOOT_STATUS.at 0 4 6).setFld (R.PG_STATUS.at 0) 0 1 1).event 0 1
      ((c1.stampTick R.READY_TICK.at).setFld R.GPIO_OUT.at 0 1 1).put (.pin (.gpio 0) true)
    else c)

end Sys2Proof.Machine
end

