-- ==== Sys2Proof/Machine/HostPort.lean ====
section
/-! DEFINITION. Pages, events, interrupts, the Host Register Port and PCI Express (R14 to R47, R496, R497), but for the
reads and the address decoding of writes, which stand in `Machine/Access.lean`. -/

namespace Sys2Proof.Machine

/-! ### Summaries and global vectors (R30 to R33) -/

/-- The register that holds a source's event flags. -/
def sourceEvent : Source → Nat
  | .page p => R.PG_EVENT.at p
  | .stall n => R.ST_EVENT.at n

/-- The register that holds the enables of those flags. -/
def enableAt (eventAddr : Nat) : Nat := eventAddr + 4

/-- The event registers of stalls that are not at their reset value. -/
def Core.stallEventAddrs (c : Core) : List Nat :=
  (c.regs.filter (fun e => decide (0x20000 ≤ e.1) && decide (e.1 < 0x30000) && decide (e.1 % 256 = 8))).map (·.1)

/-- Whether the event register at `a` has an enabled flag set: the summary of its source. -/
def Core.summary (c : Core) (a : Nat) : Bool := decide (c.reg a &&& c.reg (enableAt a) ≠ 0)

/-- The route nibble of page `p` (R32). -/
def Core.pageRoute (c : Core) (p : Nat) : Nat := c.fld (R.IRQ_ROUTE.at (p / 8)) (4 * (p % 8)) 4

/-- The route nibble of the stall array. -/
def Core.stallRoute (c : Core) : Nat := c.fld R.IRQ_ROUTE4.at 0 4

/-- The event registers of every source with the source's route nibble. -/
def Core.sources (c : Core) : List (Nat × Nat) :=
  (List.range 29).map (fun p => (R.PG_EVENT.at p, c.pageRoute p)) ++
    c.stallEventAddrs.map (fun a => (a, c.stallRoute))

/-- IRQ_GLOBAL.G_PEND bit `g`. -/
def Core.gPend (c : Core) (g : Nat) : Bool :=
  c.sources.any (fun e => decide (e.2 % 8 = g) && c.summary e.1)

/-- Whether an enabled flag of a source routed to `g` went from 0 to 1 since `old` (R33). -/
def Core.gRise (old c : Core) (g : Nat) : Bool :=
  c.sources.any (fun e => decide (e.2 % 8 = g) &&
    decide (c.reg e.1 &&& ~~~ old.reg e.1 &&& c.reg (enableAt e.1) ≠ 0))

/-- NOTIFY of queue `q` with its event enable. -/
def Core.qNotify (c : Core) (q : Nat) : Bool :=
  bitOf (c.reg (R.Q_EVENT.at q)) 0 && bitOf (c.reg (R.Q_EVENT_EN.at q)) 0

/-- HRP_INT_N is low (R35). -/
def Core.hrpIntLow (c : Core) : Bool :=
  bitOf (c.reg R.IRQ_GLOBAL.at) 16 &&
    (c.sources.any (fun e => decide (8 ≤ e.2) && c.summary e.1) ||
     (List.range 63).any (fun k => bitOf (c.reg (R.Q_CFG.at (k + 1))) 13 && bitOf (c.reg (R.Q_EVENT.at (k + 1))) 0))

/-- HRP_INT_N follows in the tick after `c` (R30, R35), `old` being the device at the start of the tick before. -/
def Core.driveInt (c2 old c : Core) : Core := if old.hrpIntLow = c.hrpIntLow then c2 else c2.put (.pin .hrpInt (!c.hrpIntLow))

/-- Vector `v` is sent, or pends while it cannot be (R497). -/
def Core.sendVector (c : Core) (v : Nat) : Core :=
  if c.linkUp && c.busMaster && Table.get (fun _ => false) c.unmasked v then c.put (.msix v)
  else { c with vecPend := Table.set (fun _ => false) c.vecPend v true }

/-- The source of vector `v` is still pending (R497). -/
def Core.vectorPending (c : Core) (v : Nat) : Bool :=
  if 64 ≤ v then c.gPend (v - 64)
  else c.qNotify v && bitOf (c.reg (R.Q_CFG.at v)) 12

/-- Whether a re-enable of R497 covers vector `v`. -/
def againCovers (v : Nat) : MsixChange → Bool
  | .enabled => true
  | .unmasked u => decide (u.val = v)

/-- Whether vector `v` falls due in the tick after `c` (R33, R247, R497), `old` being the device at the tick's start. -/
def Core.vectorDue (old c : Core) (v : Nat) : Bool :=
  (if 64 ≤ v then Core.gRise old c (v - 64) || (bitOf c.eoi (v - 64) && c.gPend (v - 64))
   else if v = 0 then c.ringWasFull
   else bitOf (c.reg (R.Q_CFG.at v)) 12 && c.qNotify v &&
     (!bitOf (old.reg (R.Q_EVENT.at v)) 0 || c.rearm.contains v)) ||
  (c.again.any (againCovers v) && c.linkUp && c.vectorPending v)

/-! ### Page header rows -/

/-- A W1C write to an event register (R22): flags that hardware set in this tick stay (R9). -/
def eventClearWrite (a : Nat) (c : Core) (v : Word) : Core × Bool :=
  (c.setReg a (c.reg a &&& ~~~ (v &&& ~~~ Table.get (fun _ => 0) c.hwSet a)), true)

/-- EVENT_CLEAR (R22, R29). -/
def execEventClear (port : Port) (src : Source) (v : Word) (s : State) : Host.Outcome State Fault Refusal :=
  s.write port (match src with | .page _ => R.PG_EVENT | .stall _ => R.ST_EVENT) (sourceEvent src) v
    (eventClearWrite (sourceEvent src))

/-- A write of PG_EVENT_FORCE sets event bits as hardware would (R23). -/
def eventForceWrite (p : Nat) (c : Core) (v : Word) : Core × Bool := (c.hwFlags (R.PG_EVENT.at p) v, true)

/-- EVENT_FORCE (R23). -/
def execEventForce (port : Port) (p : Fin 29) (v : Word) (s : State) : Host.Outcome State Fault Refusal :=
  s.write port R.PG_EVENT_FORCE (R.PG_EVENT_FORCE.at p) v (eventForceWrite p)

/-- The addresses of the registers of page `p` that hold RWL fields, with their RWL masks, in ascending order. -/
def rwlRegisters (p : Nat) : List (Nat × Nat) :=
  ((rowsNear (p * 4096)).filter (fun r => decide (r.rwl ≠ 0))).flatMap (fun r =>
    if r.s1 = 0x1000 then [(r.base + p * 4096 - r.base / 4096 * 4096, r.rwl)]
    else (List.range r.n1).map (fun i => (r.at i, r.rwl)))

/-- The CRC-32C over the RWL fields of page `p` (R25). -/
def Core.pageCrc (c : Core) (p : Nat) : Word :=
  BitVec.ofNat 32 (crc32c ((rwlRegisters p).flatMap (fun e => leBytes 4 (c.reg e.1 &&& BitVec.ofNat 32 e.2).toNat)))

/-- A write of PG_LOCK (R24, R25): the first 1 locks the page and captures its check value. -/
def pageLockWrite (p : Nat) (c : Core) (v : Word) : Core × Bool :=
  if bitOf v 0 && !c.locked p then
    ({ c.setFld (R.PG_LOCK.at p) 0 1 1 with captured := Table.set (fun _ => 0) c.captured p (c.pageCrc p) }, true)
  else (c, true)

/-- PAGE_LOCK (R24). -/
def execPageLock (port : Port) (p : Fin 29) (v : Word) (s : State) : Host.Outcome State Fault Refusal :=
  s.write port R.PG_LOCK (R.PG_LOCK.at p) v (pageLockWrite p)

/-- PAGE_CHECK_COMPARE (R25): the first mismatch under lock sets CHECK_ERR and CHECK_FAIL. -/
def execPageCheckCompare (p : Fin 29) (s : State) : Host.Outcome State Fault Refusal :=
  s.run (fun c =>
    if c.locked p && decide (c.pageCrc p ≠ Table.get (fun _ => 0) c.captured p) &&
        !bitOf (c.reg (R.PG_STATUS.at p)) 3 then
      (c.setFld (R.PG_STATUS.at p) 3 1 1).event p 30
    else c)

/-- A write of IRQ_EOI (R33): the vectors named are judged again in the next tick. -/
def irqEoiWrite (c : Core) (v : Word) : Core × Bool := ({ c with eoi := c.eoi ||| (v &&& 0xFF) }, true)

/-- IRQ_EOI (R33). -/
def execIrqEoi (port : Port) (v : Word) (s : State) : Host.Outcome State Fault Refusal :=
  s.write port R.IRQ_EOI R.IRQ_EOI.at v irqEoiWrite

/-- MSIX_REENABLE (R497). -/
def execMsixReenable (m : MsixChange) (s : State) : Host.Outcome State Fault Refusal :=
  s.run (fun c =>
    let c1 := match m with
      | .enabled => { c with busMaster := true, vecPend := [] }
      | .unmasked v => { c with unmasked := Table.set (fun _ => false) c.unmasked v.val true,
                                vecPend := Table.set (fun _ => false) c.vecPend v.val false }
    { c1 with again := c1.again ++ [m] })

/-! ### The Host Register Port (R36 to R38) -/

/-- The HRP and the two-wire register path serve: STAGE ROM to READY, or RECOVERY (R400). -/
def Core.portsServe (c : Core) : Bool :=
  (decide (2 ≤ c.stage) && decide (c.stage ≤ 6)) || decide (c.stage = 14)

/-- Odd parity of byte `k` of the data with its parity bit (R37). -/
def parityGood (d : Word) (p : BitVec 4) (k : Nat) : Bool :=
  ((List.range 8).foldl (fun x i => x ^^ d.getLsbD (8 * k + i)) (p.getLsbD k))

/-- HRP_WRITE_CYCLE (R36 to R38): a write with good parity is posted, any other is discarded. -/
def execHrpWriteCycle (a : Fin 0x40000) (d : Word) (par : BitVec 4) (s : State) :
    Host.Outcome State Fault Refusal :=
  s.run (fun c =>
    if !c.portsServe then c
    else if (List.range 4).all (parityGood d par) then { c with posted := c.posted ++ [⟨.hrp, 4 * a.val, d⟩] }
    else c.hostErr .hrp (4 * a.val) 0)

/-- HRP_PROTO (R36). -/
def execHrpProto (a : Fin 0x40000) (s : State) : Host.Outcome State Fault Refusal :=
  s.run (fun c => if c.portsServe then c.hostErr .hrp (4 * a.val) 1 else c)

/-! ### PCI Express (R41, R44, R45) -/

/-- PCIE_BAR0_WRITE (R41). -/
def execPcieBar0Write (a : Fin 0x100000) (dw : Nat) (be : BitVec 4) (v : Word) (s : State) :
    Host.Outcome State Fault Refusal :=
  s.run (fun c =>
    if !c.linkUp then c
    else if dw = 1 ∧ be = 0xF then { c with posted := c.posted ++ [⟨.pcie, a.val, v⟩] }
    else c.hostErr .pcie a.val 4)

/-- PCIE_POISONED_WRITE (R44). -/
def execPciePoisonedWrite (bar0 : Bool) (a : Fin 0x100000) (s : State) : Host.Outcome State Fault Refusal :=
  s.run (fun c =>
    if !c.linkUp then c
    else
      let c1 := c.put .aerReport
      if bar0 then c1.hostErr .pcie a.val 6 else c1)

/-- PCIE_RESET (R45). -/
def execPcieReset (kind : PcieResetKind) (s : State) : Host.Outcome State Fault Refusal :=
  s.run (fun c =>
    let c1 := c.setReg R.SHED_WIN_BASE.at (resetValue R.SHED_WIN_BASE.at)
    { c1 with unmasked := [], vecPend := [], busMaster := false, bar2Log := 34, again := [], pcieReads := [],
              linkUp := (match kind with | .linkDown => false | _ => c1.linkUp),
              posted := c1.posted.filter (fun x => decide (x.port ≠ .pcie)) })

end Sys2Proof.Machine
end

