-- ==== Sys2Proof/Machine/Power.lean ====
section
/-! DEFINITION. Supervision and general-purpose pins (R479 to R481, R488, R495), and the end of the 1024-tick window (R90). -/

namespace Sys2Proof.Machine

/-- THERM_ALERT_N is driven: low when asserted (R480). -/
def Core.thermAlert (c : Core) (on : Bool) : Core :=
  ((c.setFld R.PT_STATUS.at 0 1 (b2n on)).event 0x1B (if on then 0 else 1)).put (.pin .thermAlert (!on))

/-- The alert after a window whose junction temperature was `t`, judged by the threshold that stood when the window began (R480, R495). -/
def Core.judgeAlert (c : Core) (t : Int) : Core :=
  let th : Int := fieldOf c.alertWord 0 8
  let hyst : Int := fieldOf c.alertWord 8 4
  let on := decide (c.fld R.PT_STATUS.at 0 1 = 1)
  if !on && decide (th * 256 ≤ t) then c.thermAlert true
  else if on && decide (t < (th - hyst) * 256) then c.thermAlert false
  else c

/-- PT_TEMP, PT_VCORE and PT_POWER after a window: the value, and the highest or lowest since reset (R479). -/
def Core.showSupply (c : Core) (temp mv power : BitVec 16) : Core :=
  let top := (c.reg R.PT_TEMP.at).extractLsb' 16 16
  let c1 := c.setReg R.PT_TEMP.at ((if top.slt temp then temp else top) ++ temp)
  let c2 := c1.setReg R.PT_VCORE.at (BitVec.ofNat 16 (min (c1.fld R.PT_VCORE.at 16 16) mv.toNat) ++ mv)
  c2.setReg R.PT_POWER.at (BitVec.ofNat 16 (max (c2.fld R.PT_POWER.at 16 16) power.toNat) ++ power)

/-- RAIL_WARN after a window (R479, R481). -/
def Core.showWarn (c : Core) (warn : Nat) : Core :=
  let old := c.fld R.PT_STATUS.at 16 8
  let c1 := c.setFld R.PT_STATUS.at 16 8 warn
  if (List.range 8).any (fun b => warn.testBit b && !old.testBit b) then c1.event 0x1B 3 else c1

/-- The supervision's part of a window's end. -/
def Core.supplyWindow (c : Core) (w : LevelWin) : Core :=
  if !c.enabled 0x1B then c
  else
    let temp := w.temps.getD 0 0
    let c1 := (c.showSupply temp (w.supplies.getD 0 0) (w.supplies.getD 1 0)).showWarn ((w.supplies.getD 2 0).toNat % 256)
    { c1.judgeAlert temp.toInt with alertWord := c1.reg R.PT_ALERT.at }

/-- The band overview of a window's end (R126): the bins of each VHF input that is ON; 0x8000 for one that is not. -/
def Core.bankWindow (c : Core) (w : LevelWin) : Core :=
  if !c.enabled 6 then c
  else
    let put := fun (d : Core) (r : RegRow) (i : Nat) (l : List (BitVec 16)) =>
      (List.range 192).foldl (fun (x : Core) k =>
        x.setNat (r.at k) (if c.samplesFlow && c.inputOn i then (l.getD k 0x8000).toNat else 0x8000)) d
    let c1 := put (put c R.BIN_LEVEL_A 1 w.binsA) R.BIN_LEVEL_B 2 w.binsB
    (c1.setReg R.BIN_LEVEL_SEQ.at (c1.reg R.BIN_LEVEL_SEQ.at + 1)).event 6 2

/-- The radio's part of a window's end: WR_RSSI in RX, and one noise value for every lane that the window did not spoil (R316, R339). -/
def Core.radioWindow (c : Core) (w : LevelWin) : Core :=
  let rx := decide (c.wrState = 2) && c.enabled 0x11
  let c1 := if rx then c.setNat R.WR_RSSI.at (w.rssi % 65536) else c
  let add := fun (d : Core) (k : Nat) =>
    if c.link.spoilt.testBit k then d
    else
      let l := ((w.noise.getD k 0x8000).toInt :: Table.get (fun _ => []) d.link.noise k).take 64
      ({ d with link := { d.link with noise := Table.set (fun _ => []) d.link.noise k l } } : Core)
  let c2 := if rx then (List.range 8).foldl add c1 else c1
  ({ c2 with link := { c2.link with spoilt := 0 } } : Core).freezeCheck

/-- LEVEL_WINDOW_END (R90, R91, R479): at a Yard time that is a multiple of 1024 ticks. -/
def execLevelWindowEnd (w : LevelWin) (s : State) : Host.Outcome State Fault Refusal :=
  s.run (fun c =>
    if c.now % 1024 = 0 ∧ 0 < c.now then
      let c1 := (List.range 3).foldl (fun d i =>
        if d.enabled (3 + i) then d.rfWindow i (w.rf.getD i (0, 0)).1 (w.rf.getD i (0, 0)).2 else d) c
      ((c1.bankWindow w).radioWindow w).supplyWindow w
    else c)

/-- GPIO_EDGE (R488): GPIO_IN shows the levels; enabled edges set their events. -/
def execGpioEdge (levels : BitVec 16) (s : State) : Host.Outcome State Fault Refusal :=
  s.act 0x1C (fun c =>
    let old := (c.reg R.GPIO_IN.at).extractLsb' 0 16
    let en := c.reg R.GPIO_EDGE.at
    let rise := levels &&& ~~~ old &&& en.extractLsb' 0 16
    let fall := old &&& ~~~ levels &&& en.extractLsb' 16 16
    let hit := (rise ||| fall).setWidth 32
    let c1 := c.setReg R.GPIO_IN.at (levels.setWidth 32)
    if hit = 0 then c1 else c1.hwFlags (R.PG_EVENT.at 0x1C) hit)

end Sys2Proof.Machine
end

