-- ==== Sys2Proof/Machine/Read.lean ====
section
/-! DEFINITION. What a read of a register gives (R16, R17, R19, R38, R115, R400): registers that show another part of the state are computed
here; every other register reads what it holds. -/

namespace Sys2Proof.Machine

/-! ### Words of several fields -/

/-- A word of fields: (lowest bit, width, value). -/
def packWord (l : List (Nat × Nat × Nat)) : Word := l.foldl (fun w f => putField w f.1 f.2.1 f.2.2) 0

/-- The low 32 bits of a number. -/
def lowWord (n : Nat) : Word := BitVec.ofNat 32 n

/-- Bits 63 to 32 of a number. -/
def highWord (n : Nat) : Word := BitVec.ofNat 32 (n / 2 ^ 32)

/-! ### Pages and interrupts -/

/-- The block of a page serves (R21, R396, R399, R400). -/
def Core.serves (c : Core) (p : Nat) : Bool :=
  c.enabled p &&
    (if p = 1 then c.yardRuns
     else if p = 0x10 then decide (2 ≤ c.stage) && decide (c.stage ≠ 15)
     else if p = 0x17 ∨ p = 0x19 then decide (3 ≤ c.stage) && decide (c.stage ≠ 15)
     else c.ready)

/-- The soft reset of page `p` runs: for one tick, from the tick after the write (R19). -/
def Core.resetRuns (c : Core) (p : Nat) : Bool := c.resets.any (fun e => decide (e.1 + 1 = c.now) && decide (e.2 = p))

/-- PG_STATUS (R21, R24): READY of DEVICE, SYN and the RF pages is the block's own; BUSY shows a soft reset. -/
def Core.pgStatus (c : Core) (p : Nat) : Word :=
  let w0 := putField (c.reg (R.PG_STATUS.at p)) 2 1 (b2n (c.locked p))
  let w := if c.resetRuns p then putField w0 1 1 1 else w0
  if p = 0 ∨ (2 ≤ p ∧ p ≤ 5) then w else putField w 0 1 (b2n (c.serves p))

/-- IRQ_PAGE_SUM (R30, R31). -/
def Core.pageSums (c : Core) : Word :=
  packWord ((List.range 29).map (fun p => (p, 1, b2n (c.summary (R.PG_EVENT.at p)))) ++
    [(31, 1, b2n (c.stallEventAddrs.any c.summary))])

/-- IRQ_STALL_SUM word `k`. -/
def Core.stallSums (c : Core) (k : Nat) : Word :=
  packWord ((List.range 32).map (fun b => (b, 1, b2n (c.summary (R.ST_EVENT.at (32 * k + b))))))

/-- IRQ_GLOBAL (R31, R35). -/
def Core.irqGlobal (c : Core) : Word :=
  packWord ((List.range 8).map (fun g => (g, 1, b2n (c.gPend g))) ++
    [(8, 1, b2n c.hrpIntLow), (16, 1, c.fld R.IRQ_GLOBAL.at 16 1)])

/-- Posted writes of a port that wait. -/
def Core.postedOf (c : Core) (port : Port) : Nat := min 255 (c.posted.filter (fun x => decide (x.port = port))).length

/-- POSTED (R31): writes accepted and not yet applied, by port. -/
def Core.posted32 (c : Core) : Word :=
  packWord [(0, 8, c.postedOf .hrp), (8, 8, c.postedOf .pcie), (16, 8, c.postedOf .twb)]

/-! ### The Yard -/

/-- STATE of a track (R63). -/
def trkCode : TrkState → Nat
  | .off => 0 | .acquire => 1 | .locked => 2 | .coast => 3 | .requal => 4

/-- TRK_STATUS. -/
def Core.trkStatus (c : Core) (k : Nat) : Word :=
  let t := c.track k
  packWord [(0, 3, trkCode t.state), (3, 1, b2n (decide (t.slew ≠ 0))), (4, 1, b2n t.holdEnd16.isSome), (16, 16, t.coastEpochs)]

/-- TRK_PHASE: the phase at the start of the tick, and the error of the last accepted edge. -/
def Core.trkPhase (c : Core) (k : Nat) : Word :=
  let t := c.track k
  packWord [(0, 16, if t.hasEpochs then t.phaseAt c.time else 0), (16, 16, codeOf 16 t.edgeErr)]

/-- TRK_JUMP. -/
def Core.trkJump (c : Core) (k : Nat) : Word :=
  packWord [(0, 16, codeOf 16 (c.track k).delta), (16, 16, codeOf 16 (c.track k).slew)]

/-- TT_PEEK word `j` of the selected entry (R65). -/
def Core.ttPeek (c : Core) (j : Nat) : Word :=
  let e := c.entry (c.fld R.TT_PEEK_SEL.at 0 9)
  match j with
  | 0 => lowWord e.epoch
  | 1 => packWord [(0, 16, e.phase), (16, 2, e.track), (18, 1, b2n e.pennant), (20, 4, e.action), (24, 8, e.rept)]
  | 2 => lowWord e.target
  | 3 => e.value
  | _ => e.mask

/-- TT_PEEK_STATE. -/
def Core.ttPeekState (c : Core) : Word :=
  let i := c.fld R.TT_PEEK_SEL.at 0 9
  let e := c.entry i
  packWord [(0, 1, b2n e.valid), (1, 1, b2n (decide (448 ≤ i))), (2, 1, b2n e.late), (3, 1, b2n e.failed)]

/-- A, F and E of the queried output (R71, R74): 0 without a class or for an output that the class does not number. -/
def Core.tsQuery (c : Core) : Nat × Nat × Nat :=
  let n := c.fld R.TS_QUERY_SEL.at 0 8
  let o := c.fld R.TS_QUERY_SEL.at 8 4
  match engineDelay (c.cls n) o with
  | some e => (c.anaDelay n, c.filtDelay n, e)
  | none => (0, 0, 0)

/-! ### Inputs, channels and stalls -/

/-- RF_SETTING (R95). -/
def Core.rfSetting (c : Core) (i : Nat) : Word :=
  putField (putField (c.reg (R.RF_SETTING.at i)) 16 5 (c.nextSetting i)) 24 1 (b2n (!(c.rf i).steps.isEmpty))

/-- The window's status words (R115). -/
def Core.winStatus (c : Core) (w : Nat) : Word :=
  let st := c.stState (c.fld (R.WIN_SEL.at w) 0 8)
  putField (putField (c.reg (R.WIN_STATUS.at w)) 0 4 st) 4 1 (b2n (loadable st))

/-- AFW_STATUS (R231): the entries in use. -/
def Core.afwStatus (c : Core) (w : Nat) : Word :=
  let n := c.fld (R.AFW_SEL.at w) 0 8
  putField (c.reg (R.AFW_STATUS.at w)) 0 6 ((List.range 40).filter (fun e => decide (c.afKind n e ≠ 0))).length

/-- AFE_MEAS (R231): AGE in seconds since the last confirmation of an entry in use. -/
def Core.afeMeas (c : Core) (n e : Nat) : Word :=
  putField (c.reg (R.AFE_MEAS.at n e)) 24 8
    (if c.afKind n e = 0 then 0 else min 255 ((c.now - (c.cand n e).confirmed) / ticksPerSecond))

/-- WIN_CHAIN of stall `n` (R115). -/
def Core.winChain (c : Core) (n : Nat) : Word :=
  match c.chain n with
  | none => 0
  | some g =>
    let bin := binsOf (c.cls n) (c.reg (R.ST_FREQ.at n)).toNat
    packWord ([(0, 5, g.cicR), (5, 1, b2n g.hb1), (6, 1, b2n g.hb2), (7, 1, b2n g.l3), (8, 4, g.firD), (12, 4, g.k1), (16, 3, g.k2)] ++
      (if g.vhf then [(19, 1, b2n bin.2), (20, 8, bin.1)] else []))

/-- WIN_NCO of stall `n` (R103). -/
def Core.winNco (c : Core) (n : Nat) : Word :=
  match c.chain n with
  | none => 0
  | some g => lowWord (ncoWord g.vhf (c.cls n) (c.reg (R.ST_FREQ.at n)).toNat)

/-- CHAN_STATUS (R126): the banks run while SYN0 delivers clocks and their input is ON. -/
def Core.chanStatus (c : Core) : Word :=
  let on := fun i => b2n (c.enabled 6 && c.samplesFlow && c.inputOn i)
  let pairs := (c.openStalls.filter (fun n =>
    drawsVhf (c.cls n) (c.iqCode n) && (binsOf (c.cls n) (c.reg (R.ST_FREQ.at n)).toNat).2)).length
  packWord [(0, 1, on 1), (1, 1, on 2), (2, 1, on 0), (8, 8, min 255 pairs)]

/-- SPARE_CNT (R149). -/
def Core.spareCnt (c : Core) : Word :=
  packWord [(0, 9, c.usableUnits), (16, 9, c.freeUnits.length), (28, 1, b2n (c.unitInUse 2).isSome), (29, 1, b2n (c.unitInUse 3).isSome),
    (30, 1, b2n c.checkSuspended)]

/-- UNIT_INFO (R149). -/
def Core.unitInfo (c : Core) : Word :=
  let x := c.unit (c.fld R.UNIT_SEL.at 0 9)
  packWord [(0, 3, x.use), (8, 8, if x.use = 1 then x.stall else 0)]

/-- Samples of stall `n`'s chain produced before the start of the tick, while it runs (R148). -/
def Core.madeSoFar (c : Core) (n : Nat) : Nat :=
  match c.chain n with
  | none => 0
  | some g => if c.live n then samplesBefore (48 * (c.stallRec n).tr + g.lproc) g.p c.time else 0

/-- D_OUT_CNT and D_SETTLE_CNT (R148): what earlier chains gave and the present one so far. -/
def Core.outCount (c : Core) (n : Nat) : Word :=
  c.reg (R.D_OUT_CNT.at n) + lowWord (c.madeSoFar n - (c.stallRec n).base)

/-- The same for the SETTLE-marked ones. -/
def Core.settleCount (c : Core) (n : Nat) : Word :=
  lowWord (satAdd 32 (c.reg (R.D_SETTLE_CNT.at n)).toNat (min (c.madeSoFar n) (c.settleLen n) - (c.stallRec n).base))

/-! ### Hoist and the listening set -/

/-- LS_UNITS (R195, R427). -/
def Core.lsUnits (c : Core) : Word :=
  let used := ((List.range 8).map c.coreUnits).sum
  let cap := 128 - 16 * ((List.range 8).filter (fun k => c.regionRetired (0x150 + k))).length
  packWord [(0, 8, used), (16, 8, cap - used), (24, 7, c.decodes.length)]

/-- SCOUT_STATUS (R233). -/
def Core.scoutStatus (c : Core) : Word := packWord [(0, 7, c.scoutsRunning), (16, 7, min 127 c.visitsWanted.length)]

/-- HOIST_COUNT (R233). -/
def Core.hoistCount (c : Core) : Word :=
  let en := (List.range 256).filter (fun n => bitOf (c.reg (R.HS_CTL.at n)) 0 && decide (c.stState n ≠ 0))
  packWord [(0, 9, en.length), (16, 9, (en.filter (fun n => decide (c.hsState n = 2 ∨ c.hsState n = 3))).length)]

/-- SCOUT_INFO (R233). -/
def Core.scoutInfo (c : Core) : Word :=
  let x := c.scout (c.fld R.SCOUT_SEL.at 0 6)
  if x.use = 0 then 0 else packWord [(0, 8, x.stall), (8, 6, x.entry), (14, 2, x.ant), (16, 3, x.use)]

/-- SCOUT_FREQ (R233). -/
def Core.scoutFreq (c : Core) : Word :=
  let x := c.scout (c.fld R.SCOUT_SEL.at 0 6)
  if x.use = 0 then 0 else lowWord x.freq

/-! ### Queues, teams and ports -/

/-- Q_STATUS (R248). -/
def Core.qStatus (c : Core) (q : Nat) : Word :=
  let fill := c.fillWith q (c.reg (R.Q_CONS.at q))
  let hold := (c.queue q).hold
  packWord [(0, 17, fill), (17, 11, (hold.length + 63) / 64), (28, 1, b2n (decide (c.fld (R.Q_CFG.at q) 0 1 = 1) && decide (fill = c.ringSize q))),
    (29, 1, b2n (!c.qShed q && !c.busReady && !hold.isEmpty))]

/-- TEAMn (R285). -/
def Core.teamWord (c : Core) (k : Nat) : Word :=
  let l := c.teamMembers k
  putField (putField (c.reg (R.TEAM.at k)) 8 7 l.length) 16 7 (l.filter (fun m => decide (c.fld (R.MEMBER.at m) 16 1 = 1))).length

/-- SUB_INFO (R285). -/
def Core.subInfo (c : Core) : Word :=
  let x := c.sub (c.fld R.SUB_SEL.at 0 8)
  packWord [(0, 2, x.kind), (2, 2, x.srcKind), (8, 8, x.source), (16, 8, x.sel), (24, 6, x.queue), (31, 1, b2n x.valid)]

/-- The selected member's counters. -/
def Core.memberSel (c : Core) : MemberRec := c.member (c.fld R.MEMBER_SEL.at 0 8)

/-- SAP_STATUS (R286): CLK_OK is the port's clock: SYN2 for a master, the locked converter for a slave. -/
def Core.sapStatus (c : Core) (p : Nat) : Word :=
  let w := c.reg (R.SAP_STATUS.at p)
  let clk := if c.sapSlave p then bitOf w 2 else c.syn2Locked
  putField (putField w 0 1 (b2n (c.sapRunning p c.time))) 1 1 (b2n clk)

/-- SAP_FRAME (R274): frames begun since frame 0. -/
def Core.sapFrame (c : Core) (p : Nat) : Word :=
  if c.sapRunning p c.time then lowWord ((c.time - c.sapStart p) / 1024 + 1) else 0

/-- ASRC_STATUS (R277). -/
def Core.asrcStatus (c : Core) (p : Nat) : Word :=
  putField (c.reg (R.ASRC_STATUS.at p)) 1 1 (b2n (c.sapSlave p && c.sapRunning p c.time))

/-- AES_STATUS (R280). -/
def Core.aesStatus (c : Core) (i : Nat) : Word :=
  putField (c.reg (R.AES_STATUS.at i)) 0 1 (b2n (bitOf (c.reg (R.AES_CFG.at i)) 0 && c.ethUp))

/-! ### The Shed -/

/-- The bay that BAY_SEL names. -/
def Core.baySel (c : Core) : Nat × Nat × Bool :=
  (c.fld R.BAY_SEL.at 0 2, c.fld R.BAY_SEL.at 8 8, bitOf (c.reg R.BAY_SEL.at) 16)

/-- Its geometry. -/
def Core.selGeo (c : Core) : BayGeo := let x := c.baySel; (c.bayGeo x.1 x.2.1 x.2.2).getD ⟨0, 0, 0⟩

/-- Its hidden state. -/
def Core.selBay (c : Core) : BayRec := let x := c.baySel; c.bay (bayKey x.1 x.2.1 x.2.2)

/-- BAY_FILL (R262): samples produced since the last closed block. -/
def Core.bayFill (c : Core) : Nat :=
  let x := c.baySel
  let b := c.selBay
  let p := c.blockPeriod x.1 x.2.1 x.2.2
  if c.selGeo.stride ≤ 1 ∨ p = 0 ∨ c.bayWrites x.1 x.2.1 x.2.2 = false then 0
  else if x.1 = 0 then
    match c.chain x.2.1, engineDelay (c.cls x.2.1) (if x.2.2 then 1 else 0) with
    | some g, some e => (samplesBefore (48 * (c.stallRec x.2.1).tr + g.lproc + e) p c.time - b.done) % 1024
    | _, _ => 0
  else match b.next with
    | some s => samplesBefore s p c.time % 1024
    | none => 0

/-- BW_SHED, BW_PCIE and BW_ETH (R282). -/
def Core.bwPcie (c : Core) : Word := packWord [(0, 16, c.pcieBytes c.allLoads / 10000000), (16, 16, c.pcieCap / 10)]

/-! ### Wamelon, the Guard and the self-test -/

/-- WR_CAL_STATUS (R314). -/
def Core.wrCalStatus (c : Core) : Word :=
  let p := c.radio.fresh.isSome
  packWord [(0, 1, b2n p), (16, 16, if p then min 0xFFFF ((c.now - c.radio.freshAt) / ticksPerSecond) else 0)]

/-- WL_STATUS (R350). -/
def Core.wlStatus (c : Core) : Word := putField (c.reg R.WL_STATUS.at) 1 1 (b2n (decide (c.linkTrack.state = .coast)))

/-- WL_PEER_INFO word `j` (R351). -/
def Core.peerInfo (c : Core) (j : Nat) : Word :=
  let p := c.peer (c.fld R.WL_PEER_SEL.at 0 12)
  match j with
  | 0 => p.addr
  | 1 => packWord [(0, 2, p.st), (2, 3, p.lane), (5, 3, p.sf - 6), (8, 1, b2n p.ref), (9, 1, b2n p.pending.isSome)]
  | 2 => packWord [(0, 16, p.rssi.toNat), (16, 16, p.snr.toNat)]
  | 3 => packWord [(0, 16, p.cfo.toNat), (16, 8, p.tagRx), (24, 8, p.tagTx)]
  | 4 => lowWord p.heard
  | _ => packWord [(0, 16, min 0xFFFF p.rx), (16, 16, min 0xFFFF p.fail)]

/-- STE_REGION_INFO (R433). -/
def Core.regionInfo (c : Core) : Word :=
  let r := c.fld R.STE_REGION_SEL.at 0 10
  if !regionKnown r then 0
  else
    let testing := c.ste.run.any (fun x => decide (x.region = r)) && c.sliceActive
    let use := if testing then 1 else Table.get (fun _ => 0) c.regions r
    let hours := match Table.get (fun _ => none) c.ste.passAt r with
      | some t => min 0xFFFF ((c.now - t) / (3600 * ticksPerSecond)) | none => 0xFFFF
    packWord [(0, 3, use), (8, 8, min 255 (c.regionSlices r)), (16, 16, hours)]

/-- GRD_STATUS (R462): LEFT in seconds, rounded up. -/
def Core.grdStatus (c : Core) : Word :=
  let left := match c.guard.closeAt with | some t => (t - c.now + ticksPerSecond - 1) / ticksPerSecond | none => 0
  putField (c.reg R.GRD_STATUS.at) 16 16 left

/-! ### Every register that shows another part of the state -/

/-- The rows of the header, DEVICE and YARD pages. -/
def deviceViews : List (RegRow × (Core → Nat → Nat → Word)) :=
  [(R.PG_STATUS, fun c i _ => c.pgStatus i), (R.PG_CHECK, fun c i _ => c.pageCrc i),
   (R.PG_CTRL, fun c i _ => putField (c.reg (R.PG_CTRL.at i)) 1 1 (b2n (c.resetRuns i))),
   (R.IRQ_PAGE_SUM, fun c _ _ => c.pageSums), (R.IRQ_STALL_SUM, fun c i j => c.stallSums (i + j)),
   (R.IRQ_GLOBAL, fun c _ _ => c.irqGlobal), (R.POSTED, fun c _ _ => c.posted32),
   (R.TIME_LO, fun c _ _ => lowWord c.time), (R.TIME_HI, fun c _ _ => highWord c.time),
   (R.TRK_STATUS, fun c i _ => c.trkStatus i), (R.TRK_PHASE, fun c i _ => c.trkPhase i),
   (R.TRK_EPOCH_LO, fun c i _ => lowWord (c.track i).epoch), (R.TRK_EPOCH_HI, fun c i _ => highWord (c.track i).epoch),
   (R.TRK_START_LO, fun c i _ => lowWord ((c.track i).start16 / 65536)),
   (R.TRK_START_HI, fun c i _ => highWord ((c.track i).start16 / 65536)),
   (R.TRK_LEN, fun c i _ => lowWord (c.track i).len), (R.TRK_JUMP, fun c i _ => c.trkJump i),
   (R.TT_FREE, fun c _ _ => lowWord c.ttFree), (R.TT_PEEK, fun c i j => c.ttPeek (i + j)), (R.TT_PEEK_STATE, fun c _ _ => c.ttPeekState),
   (R.TS_QUERY_ANA, fun c _ _ => lowWord c.tsQuery.1), (R.TS_QUERY_FILT, fun c _ _ => lowWord c.tsQuery.2.1),
   (R.TS_QUERY_ENG, fun c _ _ => lowWord c.tsQuery.2.2),
   (R.TS_QUERY_TOTAL, fun c _ _ => lowWord (c.tsQuery.1 + c.tsQuery.2.1 + c.tsQuery.2.2))]

/-- The rows of the RF, CHAN, STABLE and HOIST pages, the stall slots and the windows. -/
def stableViews : List (RegRow × (Core → Nat → Nat → Word)) :=
  [(R.RF_SETTING, fun c i _ => c.rfSetting i),
   (R.STEP_RESULT, fun c i _ => putField (c.reg (R.STEP_RESULT.at i)) 8 4 (8 - (c.rf i).steps.length)),
   (R.WIN_STATUS, fun c i _ => c.winStatus i), (R.AFW_STATUS, fun c i _ => c.afwStatus i), (R.AFE_MEAS, fun c i j => c.afeMeas i j),
   (R.FIR_DC_GAIN, fun c i _ => lowWord (codeOf 32 (c.firDcGain i))), (R.FIR_CRC, fun c i _ => lowWord (c.firCrc i)),
   (R.WIN_CHAIN, fun c i _ => c.winChain i),
   (R.WIN_SETTLE, fun c i _ => lowWord (match c.chain i with | some g => g.settle | none => 0)), (R.WIN_NCO, fun c i _ => c.winNco i),
   (R.CHAN_STATUS, fun c _ _ => c.chanStatus),
   (R.OPEN_RESULT, fun c _ _ => putField (c.reg R.OPEN_RESULT.at) 24 8 c.sched.length),
   (R.LU_STATUS, fun c _ _ => packWord [(0, 10, c.unitsUsed), (16, 10, 640 - c.unitsUsed)]),
   (R.CLASS_CNT0, fun c _ _ => packWord [(0, 9, c.classCount clsFm), (16, 9, c.classCount clsAm)]),
   (R.CLASS_CNT1, fun c _ _ => packWord [(0, 6, c.classCount clsDab), (16, 6, c.classCount clsDrm)]),
   (R.CLASS_CNT2, fun c _ _ => packWord [(0, 6, c.classCount clsDrmPlus), (16, 7, c.classCount clsIq)]),
   (R.CLASS_CNT3, fun c _ _ => packWord [(0, 4, c.classCount clsTime), (16, 7, c.scoutsRunning)]),
   (R.SPARE_CNT, fun c _ _ => c.spareCnt), (R.UNIT_INFO, fun c _ _ => c.unitInfo),
   (R.D_OUT_CNT, fun c i _ => c.outCount i), (R.D_SETTLE_CNT, fun c i _ => c.settleCount i),
   (R.LS_UNITS, fun c _ _ => c.lsUnits), (R.SCOUT_STATUS, fun c _ _ => c.scoutStatus), (R.HOIST_COUNT, fun c _ _ => c.hoistCount),
   (R.SCOUT_INFO, fun c _ _ => c.scoutInfo), (R.SCOUT_FREQ, fun c _ _ => c.scoutFreq)]

/-- The rows of the QUEUE, TEAM, SAP, ETH and SHED pages. -/
def streamViews : List (RegRow × (Core → Nat → Nat → Word)) :=
  [(R.Q_STATUS, fun c i _ => c.qStatus i), (R.Q_RATE, fun c i _ => lowWord (c.queueRate i)),
   (R.TEAM, fun c i _ => c.teamWord i), (R.SUB_INFO, fun c _ _ => c.subInfo),
   (R.MEMBER_UNDER_CNT, fun c _ _ => lowWord c.memberSel.under), (R.MEMBER_LATE_CNT, fun c _ _ => lowWord c.memberSel.late),
   (R.MEMBER_SILENT_CNT, fun c _ _ => lowWord c.memberSel.silent),
   (R.SAP_STATUS, fun c i _ => c.sapStatus i), (R.SAP_FRAME, fun c i _ => c.sapFrame i),
   (R.ASRC_STATUS, fun c i _ => c.asrcStatus i), (R.AES_STATUS, fun c i _ => c.aesStatus i),
   (R.BAY_BASE_LO, fun c _ _ => lowWord c.selGeo.base), (R.BAY_BASE_HI, fun c _ _ => highWord c.selGeo.base),
   (R.BAY_DEPTH, fun c _ _ => lowWord c.selGeo.blocks),
   (R.BAY_WR_LO, fun c _ _ => lowWord c.selBay.written), (R.BAY_WR_HI, fun c _ _ => highWord c.selBay.written),
   (R.BAY_FILL, fun c _ _ => lowWord c.bayFill),
   (R.BW_SHED, fun c _ _ => packWord [(0, 16, c.shedUsed / 10000000), (16, 16, 2560)]), (R.BW_PCIE, fun c _ _ => c.bwPcie),
   (R.BW_ETH, fun c _ _ => packWord [(0, 16, c.ethUsed / 10000000), (16, 16, c.ethCapacity / 10000000)])]

/-- The rows of the other pages. -/
def systemViews : List (RegRow × (Core → Nat → Nat → Word)) :=
  [(R.WR_CAL_STATUS, fun c _ _ => c.wrCalStatus), (R.WL_STATUS, fun c _ _ => c.wlStatus),
   (R.WL_PEER_INFO, fun c i j => c.peerInfo (i + j)),
   (R.STE_REGION_INFO, fun c _ _ => c.regionInfo),
   (R.STE_RETIRED_CNT, fun c _ _ => lowWord (c.regions.filter (fun e => decide (e.2 = 3))).length),
   (R.CHECK_STATUS, fun c _ _ => putField (c.reg R.CHECK_STATUS.at) 10 1 (b2n c.checkSuspended)),
   (R.GRD_STATUS, fun c _ _ => c.grdStatus)]

/-- The rows of that kind on the page of home address `a`. -/
def viewsNear (a : Nat) : List (RegRow × (Core → Nat → Nat → Word)) :=
  let p := a / 4096
  if a % 4096 < 0x40 ∧ p < 0x1D then deviceViews.take 3
  else if p < 2 then deviceViews
  else if p < 0x0A then stableViews
  else if p < 0x10 then streamViews
  else if p < 0x1A then systemViews
  else if p = 0x1A then streamViews
  else if p < 0x1D then []
  else stableViews

/-- What the register at home address `a` shows. -/
def Core.shown (c : Core) (a : Nat) : Word :=
  match (viewsNear a).find? (fun v => v.1.covers a) with
  | some v => let i := v.1.index a; v.2 c i.1 i.2
  | none => c.reg a

/-- The bits of a register that FREEZE does not hold: those that software writes. -/
def RegRow.live (r : RegRow) : Word := BitVec.ofNat 32 (r.rw ||| r.rwl ||| r.w1c ||| r.w1s)

/-- The register at home address `a` of row `r` under FREEZE (R19, R27). -/
def Core.frozenRead (c : Core) (r : RegRow) (a : Nat) : Word :=
  match c.frozen.find? (fun e => decide (e.1 = a)) with
  | some e => (e.2 &&& ~~~ r.live) ||| (c.shown a &&& r.live)
  | none => c.shown a

/-- The pages that answer reads at this stage (R399, R400). -/
def Core.pageReads (c : Core) (p : Nat) : Bool :=
  decide (p = 0) || decide (p = 0x17) || decide (p = 0x19) || (decide (3 ≤ c.stage) && decide (c.stage < 14))

/-- A register read from any port (R16, R17, R400): reserved addresses read 0. -/
def Core.portRead (c : Core) (a : Nat) : Word :=
  match c.rowAt a with
  | some r => if c.pageReads (a / 4096) then c.frozenRead r (c.home a) else 0
  | none => 0

/-! ### Freezing (R19, R27) -/

/-- The addresses of a row's elements. -/
def RegRow.addresses (r : RegRow) : List Nat :=
  (List.range r.n1).flatMap (fun i => if i < r.lo then [] else (List.range r.n2).map (fun j => r.at i j))

/-- The status, level and counter registers of page `p`, with PG_STATUS. -/
def pageStatusRegs (p : Nat) : List Nat :=
  R.PG_STATUS.at p :: ((rowsNear (p * 4096)).flatMap (fun r =>
    if r.base < 0x20 ∨ r.live = BitVec.allOnes 32 ∨ r.wo ≠ 0 then [] else r.addresses.filter (fun a => decide (a / 4096 = p))))

/-- The same of stall slot `n`. -/
def slotStatusRegs (n : Nat) : List Nat :=
  rows_stall.flatMap (fun r =>
    if r.base % 256 = 0 ∨ r.base % 256 = 8 ∨ r.base % 256 = 12 ∨ r.live = BitVec.allOnes 32 then []
    else (List.range r.n2).map (fun j => r.at n j))

/-- The registers `l` hold what they show. -/
def Core.freezeRegs (c : Core) (l : List Nat) : Core := { c with frozen := c.frozen ++ l.map (fun a => (a, c.shown a)) }

/-- The registers that `f` names show what they hold again. -/
def Core.thaw (c : Core) (f : Nat → Bool) : Core := { c with frozen := c.frozen.filter (fun e => !f e.1) }

end Sys2Proof.Machine
end

