-- ==== Sys2Proof/Machine/TwoWire.lean ====
section
/-! DEFINITION. The two-wire bus (R372 to R390): target transfers, attention messages and peripheral transfers. -/

namespace Sys2Proof.Machine

/-! ### Addresses (R374, R375) -/

/-- The index under which the setting (TWB_CFG, TWB_ADDR) answers address `a`. -/
def answerIndex (cfg addr : Word) (a : Nat) : Option Nat :=
  let entry := fun i => fieldOf addr (8 * i) 7
  let on := fun i => bitOf addr (8 * i + 7)
  match fieldOf cfg 0 2 with
  | 1 => (List.range 4).find? (fun i => on i && decide (entry i = a))
  | 2 => if on 0 && decide (((a ^^^ entry 0) &&& (127 - entry 1)) = 0) then some 0 else none
  | _ => none

/-- The addresses that R374 refuses. -/
def refusedAddress (a : Nat) : Bool :=
  decide (a ≤ 8) || decide (a = 0x0C) || decide (a = 0x61) || decide (0x78 ≤ a)

/-- The setting in force for a transfer whose START was sampled in tick `start`: a write applies from the next START (R374). -/
def Core.twbSetting (c : Core) (start : Nat) : Word × Word :=
  match (c.twb.was.filter (fun e => decide (start ≤ e.1))).getLast? with
  | some e => e.2
  | none => (c.reg R.TWB_CFG.at, c.reg R.TWB_ADDR.at)

/-- The setting that a write replaces is kept for a transfer in progress. -/
def Core.keepSetting (c : Core) : Core :=
  { c with twb := { c.twb with was := (c.now, c.reg R.TWB_CFG.at, c.reg R.TWB_ADDR.at) :: c.twb.was } }

/-- A write of TWB_ADDR (R374): refused when the target would answer an address that it must not. -/
def twbAddrWrite (c : Core) (v : Word) : Core × Bool :=
  if (List.range 128).any (fun a => refusedAddress a && (answerIndex (c.reg R.TWB_CFG.at) v a).isSome) then c.refusePage 0x10
  else (c.keepSetting.setReg R.TWB_ADDR.at v, true)

/-- TWB_ADDR_WRITE (R374). -/
def execTwbAddrWrite (port : Port) (v : Word) (s : State) : Host.Outcome State Fault Refusal :=
  s.write port R.TWB_ADDR R.TWB_ADDR.at v twbAddrWrite

/-- A write of TWB_CFG (R374, R380, R388): ADDR_MODE 3, PEC_MODE 3 and SPEED 3 are refused. -/
def twbCfgWrite (c : Core) (v : Word) : Core × Bool :=
  if fieldOf v 0 2 = 3 ∨ fieldOf v 2 2 = 3 ∨ fieldOf v 4 2 = 3 then c.refusePage 0x10
  else (c.keepSetting.setReg R.TWB_CFG.at (v &&& 0xF3F), true)

/-! ### Target transfers (R376 to R380) -/

/-- What the framing of a transfer's write bytes amounts to. -/
inductive Framing where
  | good (data : List Byte)
  | proto
  | pec
  | short
deriving DecidableEq, Repr

/-- The write bytes of a transfer after its command code, `n` of them due, under PEC_MODE `mode` (R377, R380): `lead` is the address
byte and the code. -/
def writeFraming (mode : Nat) (lead data : List Byte) (n : Nat) : Framing :=
  if data.length < n then .short
  else if data.length = n then (if mode = 2 then .pec else .good data)
  else if data.length = n + 1 ∧ mode ≠ 0 then
    (if crc8 (lead ++ data.take n) = (data.getD n 0).toNat then .good (data.take n) else .pec)
  else .proto

/-- The write phase of a read: no byte may follow the `n` due. -/
def readFraming (data : List Byte) (n : Nat) : Framing :=
  if data.length < n then .short else if data.length = n then .good data else .proto

/-- A register address as three bytes spell it, while its bits [1:0] and [23:20] are 0 (R377). -/
def wireAddress (l : List Byte) : Option Nat :=
  if bytesAt l 0 3 % 4 = 0 ∧ bytesAt l 0 3 < 2 ^ 20 then some (bytesAt l 0 3) else none

/-- A transfer under an address that the target answers: `f` gets the index and PEC_MODE in force. -/
def State.twbServe (s : State) (h : TwbHead) (f : Core → Nat → Nat → Core) : Host.Outcome State Fault Refusal :=
  s.act 0x10 (fun c =>
    let set := c.twbSetting h.start
    match answerIndex set.1 set.2 h.addr with
    | none => c.put (.twbAck false)
    | some i => f ((c.setFld R.TWB_STATUS.at 0 1 1).setFld R.TWB_STATUS.at 8 2 i) i (fieldOf set.1 2 2))

/-- NACK under R377. -/
def Core.twbProto (c : Core) : Core :=
  ((c.event 0x10 0).bumpFld R.TWB_ERR_CNT.at 24 8).put (.twbAck false)

/-- A missing or wrong PEC byte (R380), captured with address `a`. -/
def Core.twbPec (c : Core) (a : Nat) : Core :=
  (((c.event 0x10 1).bumpFld R.TWB_ERR_CNT.at 0 8).hostErr .twb a 7).put (.twbAck false)

/-- A transfer completes. -/
def Core.twbDone (c : Core) : Core := (c.bump R.TWB_TGT_CNT.at).put (.twbAck true)

/-- The register pointer. -/
def Core.twbPtr (c : Core) : Nat := c.fld R.TWB_PTR.at 0 20

/-- PTR advances modulo 1 MiB. -/
def Core.advancePtr (c : Core) (n : Nat) : Core := c.setFld R.TWB_PTR.at 0 20 (c.twbPtr + n)

/-- A write command with code `code`: RO_ADDR, the code and, where a count byte leads, the count must fit; `n` is the number of bytes
due after the code; `judge` finds what the data do, or none for a NACK. -/
def Core.twbWrite (c : Core) (h : TwbHead) (i mode code : Nat) (bytes : List Byte) (n : Nat) (counts : Bool) (a : Nat)
    (judge : List Byte → Option (Core → Core)) : Core :=
  let lead := [BitVec.ofNat 8 (2 * h.addr.val), BitVec.ofNat 8 code]
  if !c.portsServe || decide ((bytes.getD 0 0).toNat ≠ code) || bitOf (c.twbSetting h.start).1 (8 + i) || !counts then c.twbProto
  else
    match writeFraming mode lead (bytes.drop 1) n with
    | .proto => c.twbProto
    | .pec => c.twbPec a
    | .short => c
    | .good d => match judge d with
      | some f => (f c).twbDone
      | none => c.twbProto

/-- PTR_SET (R376). -/
def execPtrSet (h : TwbHead) (bytes : List Byte) (s : State) : Host.Outcome State Fault Refusal :=
  s.twbServe h (fun c i mode =>
    c.twbWrite h i mode 0x01 bytes 4 true (bytesAt bytes 1 3) (fun d =>
      match wireAddress d with
      | some a => if 1 ≤ bytesAt d 3 1 ∧ bytesAt d 3 1 ≤ 8 then
          some (fun x => (x.setFld R.TWB_PTR.at 0 20 a).setFld R.TWB_PTR.at 24 4 (bytesAt d 3 1)) else none
      | none => none))

/-- WRITE_AT (R376, R378): one posted write. -/
def execWriteAt (h : TwbHead) (bytes : List Byte) (s : State) : Host.Outcome State Fault Refusal :=
  s.twbServe h (fun c i mode =>
    c.twbWrite h i mode 0x10 bytes 8 (decide (bytesAt bytes 1 1 = 7)) (bytesAt bytes 2 3) (fun d =>
      match wireAddress (d.drop 1) with
      | some a => some (fun x => { x with posted := x.posted ++ [⟨.twb, a, BitVec.ofNat 32 (bytesAt d 4 4)⟩] })
      | none => none))

/-- WRITE_SEQ (R376, R378): up to eight posted writes from PTR on. -/
def execWriteSeq (h : TwbHead) (bytes : List Byte) (s : State) : Host.Outcome State Fault Refusal :=
  s.twbServe h (fun c i mode =>
    let n := bytesAt bytes 1 1
    c.twbWrite h i mode 0x12 bytes (n + 1) (decide (n % 4 = 0 ∧ 4 ≤ n ∧ n ≤ 32)) c.twbPtr (fun d =>
      some (fun x =>
        let l := (List.range (n / 4)).map (fun k =>
          (⟨.twb, (x.twbPtr + 4 * k) % 2 ^ 20, BitVec.ofNat 32 (bytesAt d (1 + 4 * k) 4)⟩ : Posted))
        ({ x with posted := x.posted ++ l }).advancePtr n)))

/-- The bytes a read returns, with the PEC byte that PEC_MODE and the controller ask for (R380). -/
def withPec (mode : Nat) (ack : Bool) (lead data : List Byte) : List Byte :=
  if mode ≠ 0 ∧ ack = true then data ++ leBytes 1 (crc8 (lead ++ data)) else data

/-- A read command with code `code` and `n` write bytes after it: `judge` finds the bytes returned and what else changes, or none for a
NACK. -/
def Core.twbRead (c : Core) (h : TwbHead) (mode code : Nat) (bytes : List Byte) (ack : Bool) (n : Nat) (counts : Bool)
    (judge : List Byte → Option (List Byte × (Core → Core))) : Core :=
  if (bytes.getD 0 0).toNat ≠ code ∨ counts = false then c.twbProto
  else
    match readFraming (bytes.drop 1) n with
    | .good d => match judge d with
      | some r =>
        let lead := [BitVec.ofNat 8 (2 * h.addr.val)] ++ bytes ++ [BitVec.ofNat 8 (2 * h.addr.val + 1)]
        (r.2 c).twbDone.put (.twbData (withPec mode ack lead r.1))
      | none => c.twbProto
    | .short => c
    | _ => c.twbProto

/-- READ_AT (R376, R379); outside the stages in which the ports serve, of the DEVICE page alone (R400). -/
def execReadAt (h : TwbHead) (bytes : List Byte) (ack : Bool) (s : State) : Host.Outcome State Fault Refusal :=
  s.twbServe h (fun c _ mode =>
    c.twbRead h mode 0x11 bytes ack 4 (decide (bytesAt bytes 1 1 = 3)) (fun d =>
      match wireAddress (d.drop 1) with
      | some a => if c.portsServe = true ∨ a < 4096 then some (leBytes 1 4 ++ leBytes 4 (s.view.portRead a).toNat, id) else none
      | none => none))

/-- READ_SEQ (R376, R379): N words of one tick. -/
def execReadSeq (h : TwbHead) (bytes : List Byte) (ack : Bool) (s : State) : Host.Outcome State Fault Refusal :=
  s.twbServe h (fun c _ mode =>
    c.twbRead h mode 0x13 bytes ack 0 c.portsServe (fun _ =>
      let n := c.fld R.TWB_PTR.at 24 4
      some (leBytes 1 (4 * n) ++
          (List.range n).flatMap (fun k => leBytes 4 (s.view.portRead ((c.twbPtr + 4 * k) % 2 ^ 20)).toNat),
        fun x => x.advancePtr (4 * n))))

/-- The two bytes of STATUS (R376). -/
def Core.twbStatusBytes (c : Core) : List Byte :=
  leBytes 1 (c.portRead R.IRQ_GLOBAL.at).toNat ++
    leBytes 1 (b2n c.ready + 2 * b2n (c.posted.any (fun p => decide (p.port = .twb))) +
      4 * b2n (decide (c.reg R.HOST_ERR.at ≠ 0)) + 8 * c.fld R.TWB_ATTN_STATUS.at 16 1)

/-- STATUS (R376). -/
def execStatus (h : TwbHead) (bytes : List Byte) (ack : Bool) (s : State) : Host.Outcome State Fault Refusal :=
  s.twbServe h (fun c _ mode => c.twbRead h mode 0x20 bytes ack 0 true (fun _ => some (s.view.twbStatusBytes, id)))

/-- TWB_TIMEOUT (R384): the transfer is discarded and the target waits for a START. -/
def execTwbTimeout (s : State) : Host.Outcome State Fault Refusal :=
  s.act 0x10 (fun c => ((c.setFld R.TWB_STATUS.at 1 1 0).event 0x10 2).bumpFld R.TWB_ERR_CNT.at 8 8)

/-! ### Controller mode (R373, R381 to R385) -/

/-- A bus clear (R385). -/
def Core.lineFound (c : Core) (l : TwbLine) : Core :=
  match l with
  | .high => c
  | .cleared => ((c.bump R.TWB_CLEAR_CNT.at).event 0x10 7).setFld R.TWB_STATUS.at 3 1 1
  | .stuck => (((c.bump R.TWB_CLEAR_CNT.at).event 0x10 7).event 0x10 8).setFld R.TWB_STATUS.at 3 1 0

/-- BUS_FREE (R373, R385). -/
def execBusFree (l : TwbLine) (s : State) : Host.Outcome State Fault Refusal :=
  s.act 0x10 (fun c => (c.lineFound l).setFld R.TWB_STATUS.at 0 1 0)

/-- The bus is free for a controller transfer. -/
def Core.busFree (c : Core) : Bool := decide (c.fld R.TWB_STATUS.at 0 1 = 0)

/-- Arbitration lost `k` times, at most TWB_ARB.RETRIES times (R383); true when every attempt was lost. -/
def Core.arbLost (c : Core) (k : Nat) : Core × Bool :=
  let most := c.fld R.TWB_ARB.at 0 4
  let c1 := (List.range (min k most)).foldl (fun d _ => (d.bumpFld R.TWB_ERR_CNT.at 16 8).event 0x10 3) c
  (c1, decide (most ≤ k))

/-- IRQ_GLOBAL.G_PEND AND TWB_ATTN.MASK (R381). -/
def Core.attnCause (c : Core) : Nat :=
  ((List.range 8).foldl (fun x g => x + 2 ^ g * b2n (c.gPend g)) 0) &&& c.fld R.TWB_ATTN.at 0 8

/-- The attention message is pending. -/
def Core.attnPending (c : Core) : Bool := decide (c.fld R.TWB_ATTN_STATUS.at 16 1 = 1)

/-- At the end of a tick that began as `old` (R381): a message becomes pending when the masked vectors rise from none, or when an EOI
re-arms a masked vector while one is still pending. -/
def Core.attnClock (old c : Core) : Core :=
  if bitOf (c.reg R.TWB_ATTN.at) 15 && c.enabled 0x10 && !c.attnPending && decide (c.attnCause ≠ 0) &&
      (decide (old.attnCause = 0) || decide (c.eoi.toNat &&& c.fld R.TWB_ATTN.at 0 8 ≠ 0)) then
    let c1 := c.setFld R.TWB_ATTN_STATUS.at 16 1 1
    { c1 with twb := { c1.twb with tries := 0, retryAt := none } }
  else c

/-- One attempt to send the attention message (R381): sent, or failed; the last failed attempt gives up. -/
def Core.attnTry (c : Core) (l : TwbLine) (losses : Nat) (ack : Bool) : Core :=
  let c1 := c.lineFound l
  let a := if l = .stuck then (c1, true) else c1.arbLost losses
  if !a.2 && ack then
    let seq := (a.1.fld R.TWB_ATTN_STATUS.at 8 8 + 1) % 256
    let low := a.1.attnCause
    let c2 := (a.1.setNat R.TWB_ATTN_STATUS.at (low + 256 * seq)).event 0x10 5
    ({ c2 with twb := { c2.twb with tries := 0, retryAt := none } }).put (.attention (c2.fld R.TWB_ATTN.at 8 7) low seq)
  else
    let tries := a.1.twb.tries + 1
    if a.1.fld R.TWB_ATTN.at 24 4 ≤ tries then
      let c2 := (a.1.setFld R.TWB_ATTN_STATUS.at 16 1 0).event 0x10 6
      { c2 with twb := { c2.twb with tries := 0, retryAt := none } }
    else
      let due := a.1.now + 1024 * a.1.fld R.TWB_ATTN.at 16 8
      { a.1 with twb := { a.1.twb with tries := tries, retryAt := some due } }

/-- ATTN_MESSAGE (R381). -/
def execAttnMessage (l : TwbLine) (losses : Nat) (ack : Bool) (s : State) : Host.Outcome State Fault Refusal :=
  s.act 0x10 (fun c =>
    if c.attnPending && c.busFree && decide (c.twb.retryAt = none) && bitOf (c.reg R.TWB_ATTN.at) 15 then
      c.attnTry l losses ack
    else c)

/-- ATTN_RETRY (R381). -/
def execAttnRetry (l : TwbLine) (losses : Nat) (ack : Bool) (s : State) : Host.Outcome State Fault Refusal :=
  s.act 0x10 (fun c =>
    match c.twb.retryAt with
    | some due => if c.attnPending && c.busFree && decide (due ≤ c.now) && bitOf (c.reg R.TWB_ATTN.at) 15 then
        c.attnTry l losses ack else c
    | none => c)

/-- A result of a peripheral transfer (R382). -/
def Core.mstResult (c : Core) (code : Nat) : Core := (c.setFld R.TWB_MST_RESULT.at 0 4 code).event 0x10 4

/-- TWB_MST_GO (R382). -/
def execTwbMstGo (s : State) : Host.Outcome State Fault Refusal :=
  s.act 0x10 (fun c =>
    let c1 := c.wrapFld R.TWB_MST_RESULT.at 16 8
    let w := c.reg R.TWB_MST_CTL.at
    let wlen := fieldOf w 8 5
    let rlen := fieldOf w 16 5
    if c1.twb.mst.isSome then c1.mstResult 7
    else if (wlen = 0 ∧ rlen = 0) ∨ 16 < wlen ∨ 16 < rlen ∨ refusedAddress (fieldOf w 0 7) = true then c1.mstResult 8
    else
      let bytes := ((List.range 4).flatMap (fun k => leBytes 4 (c1.reg (R.TWB_MST_WDATA.at k)).toNat)).take wlen
      ({ c1 with twb := { c1.twb with mst := some (fieldOf w 0 7, bitOf w 7, bytes, rlen) } }).setFld R.TWB_MST_RESULT.at 24 1 1)

/-- The bytes read go to TWB_MST_RDATA. -/
def Core.mstData (c : Core) (data : List Byte) : Core :=
  (List.range 4).foldl (fun d k => if 4 * k < data.length then d.setNat (R.TWB_MST_RDATA.at k) (bytesAt data (4 * k) 4) else d) c

/-- MST_TRANSFER (R382, R383, R385): an attention message goes first. -/
def execMstTransfer (l : TwbLine) (losses : Nat) (r : TwbResult) (s : State) : Host.Outcome State Fault Refusal :=
  s.act 0x10 (fun c =>
    match c.twb.mst with
    | some (addr, usePec, bytes, rlen) =>
      if c.busFree && !c.attnPending then
        let c1 := (({ c with twb := { c.twb with mst := none } }).lineFound l).setFld R.TWB_MST_RESULT.at 24 1 0
        if l = .stuck then c1.mstResult 5
        else
          let a := c1.arbLost losses
          if a.2 then a.1.mstResult 3
          else
            let c2 := a.1.put (.twbMaster addr bytes rlen)
            match r with
            | .nackAddr => c2.mstResult 1
            | .nackData => c2.mstResult 2
            | .timeout => c2.mstResult 4
            | .done data pec =>
              let wire := (if bytes = [] then [] else BitVec.ofNat 8 (2 * addr) :: bytes) ++
                [BitVec.ofNat 8 (2 * addr + 1)] ++ data.take rlen
              let bad := usePec && decide (0 < rlen) && decide (crc8 wire ≠ pec.toNat)
              (c2.mstData (data.take rlen)).mstResult (if bad then 6 else 0)
      else c
    | none => c)

/-- A TWB soft reset ends a transfer that waits or runs with ABORTED (R382, R387); the page's registers are at reset already. -/
def Core.twbReset (old c : Core) : Core :=
  let c1 := { c with twb := {} }
  if old.twb.mst.isSome then
    (c1.setFld R.TWB_MST_RESULT.at 16 8 (old.fld R.TWB_MST_RESULT.at 16 8)).mstResult 9 else c1

end Sys2Proof.Machine
end

