-- ==== Sys2Proof/Machine/Writes.lean ====
section
/-! DEFINITION. The address decoding of register writes (R14 to R16, R47, R496): the row and the handler of every register, the values
that registers refuse, the page and slot control words (R19, R20, R27), and the GO registers (R66). -/

namespace Sys2Proof.Machine

/-! ### GO registers (R66) -/

/-- A higher-ranked port has written register `a` in this tick (R47). -/
def Core.outranked (c : Core) (port : Port) (a : Nat) : Bool :=
  port ≠ .action && c.applied.any (fun x => decide (x.addr = a) && decide (portRank x.port < portRank port))

/-- A GO word executes in the next tick; the last one of the highest-ranked port stands (R47, R66). -/
def goWrite (port : Port) (a : Nat) (c : Core) (v : Word) : Core × Bool :=
  if c.outranked port a then (c, true) else ({ c with goLatch := Table.set (fun _ => none) c.goLatch a (some v) }, true)

/-- A register of RW fields whose bit `b` is a GO. -/
def mixedGoWrite (port : Port) (r : RegRow) (a b : Nat) (c : Core) (v : Word) : Core × Bool :=
  let d := (plainWrite r a c v).1
  if bitOf v b then goWrite port a d v else (d, true)

/-! ### Values that a register refuses (R496) -/

/-- The fields with a stated range: lowest bit, width, least and greatest value. -/
def stallRanges : List (RegRow × List (Nat × Nat × Nat × Nat)) :=
  [(R.HS_THR, [(8, 8, 0, 20), (24, 8, 0x80, 0xFF)]),
   (R.HS_DWELL, [(0, 8, 1, 255), (8, 8, 1, 255), (24, 8, 10, 255)])]

/-- The same for registers of pages. -/
def pageRanges : List (RegRow × List (Nat × Nat × Nat × Nat)) :=
  [(R.AGC_CFG, [(0, 4, 1, 15), (4, 3, 1, 6), (24, 4, 1, 15)]),
   (R.HOIST_CFG, [(0, 7, 0, 64), (8, 4, 1, 15), (24, 4, 1, 15)]),
   (R.MEAS_CTL, [(0, 2, 0, 2)]),
   (R.WL_NET, [(8, 5, 8, 31)]),
   (R.WL_SLOT_CFG, [(8, 8, 1, 255), (16, 16, 0, 0x4000)]),
   (R.WL_BEACON, [(4, 3, 0, 6)]),
   (R.WL_FWD_CFG, [(4, 3, 0, 6)]),
   (R.WL_DET_CFG, [(0, 8, 6, 20), (8, 8, 3, 20), (16, 8, 4, 64)]),
   (R.WL_LOAD_CFG, [(8, 8, 0, 20), (16, 8, 1, 255)]),
   (R.WL_LANE_SF_MAN, (List.range 8).map (fun k => (4 * k, 4, 0, 6))),
   (R.TWB_ATTN, [(16, 8, 1, 255), (24, 4, 1, 15)]),
   (R.TWB_ARB, [(0, 4, 1, 15)]),
   (R.STE_CFG, [(0, 12, 64, 2048), (16, 8, 1, 255), (24, 8, 1, 255)]),
   (R.PT_ALERT, [(0, 8, 60, 120), (8, 4, 1, 15)])]

/-- A field of `v` lies outside its range. -/
def outOfRange (l : List (Nat × Nat × Nat × Nat)) (v : Word) : Bool :=
  l.any (fun f => decide (fieldOf v f.1 f.2.1 < f.2.2.1) || decide (f.2.2.2 < fieldOf v f.1 f.2.1))

/-- The ranges of a row. -/
def rangesOf (l : List (RegRow × List (Nat × Nat × Nat × Nat))) (r : RegRow) : List (Nat × Nat × Nat × Nat) :=
  match l.find? (fun e => decide (e.1.base = r.base)) with
  | some e => e.2
  | none => []

/-- A write of a page's register without a rule of its own. -/
def pageWrite (r : RegRow) (a : Nat) (c : Core) (v : Word) : Core × Bool :=
  if outOfRange (rangesOf pageRanges r) v || (decide (r.base = R.CHECK_CFG.base) && decide (fieldOf v 16 8 = 1)) then
    c.refusePage (a / 4096)
  else plainWrite r a c v

/-- A write of a stall slot's register without a rule of its own. -/
def slotWrite (r : RegRow) (a n : Nat) (c : Core) (v : Word) : Core × Bool :=
  if outOfRange (rangesOf stallRanges r) v then c.refuseStall n else plainWrite r a c v

/-! ### Page and slot control (R19, R20, R27) -/

/-- Registers that a page soft reset leaves: those set by power-up calibration or loaded from NOR (R10), and those that show what
stands outside the block. -/
def keptByReset : List RegRow :=
  [R.STEP_LAT, R.ALIGN, R.ANA_DELAY, R.GAIN_CORR, R.MAC_LO, R.MAC_HI, R.ETH_STATUS, R.WR_STEP_LAT, R.WR_IRC, R.WR_RX_DELAY, R.WR_TX_DELAY,
   R.CAL_TEMP, R.PT_STATUS, R.GPIO_IN]

/-- What register `a` of page `p` holds after the page's soft reset (R19). -/
def Core.resetWord (c : Core) (p a : Nat) (v : Word) : Word :=
  if a = R.PG_LOCK.at p then v
  else if a = R.PG_STATUS.at p then putField (resetValue a) 3 1 (fieldOf v 3 1)
  else
    match findRow a with
    | none => resetValue a
    | some r =>
      if keptByReset.contains r || (decide (p = 0xC) && (decide (r = R.SAP_MAP) || decide (r = R.SAP_MASK_NEXT) || decide (r = R.SAP_MASK_CUR))) then v
      else if c.locked p then (resetValue a &&& ~~~ BitVec.ofNat 32 r.rwl) ||| (v &&& BitVec.ofNat 32 r.rwl)
      else resetValue a

/-- The registers of page `p` return to their reset values (R19). -/
def Core.resetRegs (c : Core) (p : Nat) : Core :=
  c.regs.foldl (fun d e => if e.1 / 4096 = p then d.setReg e.1 (c.resetWord p e.1 e.2) else d) c

/-- Hoist stops on every stall: what it does is abandoned and its scouts are released; a stall with EN = 1 watches again. -/
def Core.hoistPageReset (c : Core) : Core :=
  let used := c.openStalls.filter (fun n => decide (c.hsState n ≠ 0))
  let d := used.foldl (fun d n =>
    let e := (((d.switchFirst n).abandonHoist n 1 0).releaseScouts n)
    e.setHs n (if d.stState n = 3 then 1 else 0)) c
  match d.measScout with
  | some i => { d.releaseScout i with measScout := none }
  | none => d

/-- What the soft reset of page `p` does besides its registers; `old` is the device before it. -/
def Core.resetBlock (old c : Core) (p : Nat) : Core :=
  match p with
  | 3 => c.setRf 0 {}
  | 4 => c.setRf 1 {}
  | 5 => c.setRf 2 {}
  | 6 => (c.openStalls.filter c.live).foldl (fun d n => d.startReset n (d.now + 1) true) c
  | 7 => c.stableReset
  | 8 => c.hoistPageReset
  | 0xA => c.queueReset
  | 0xB => c.teamReset
  | 0xC => c.sapReset
  | 0xD => (List.range 8).foldl (fun d k => d.setAsrcLock k false) c
  | 0xE => { c with aess := [], ptp := {}, penStream := [], penLost := false }
  | 0x10 => Core.twbReset old c
  | 0x11 => c.radioReset
  | 0x12 => c.linkReset
  | 0x14 => { c with calPend := [], cal := {} }
  | 0x15 => Core.steReset old c
  | 0x16 => { c with check := {} }
  | _ => c

/-- A soft reset of page `p` (R19): registers first but for the Stable, whose stalls close by what stands. -/
def Core.pageReset (c : Core) (p : Nat) : Core :=
  let c0 := { c with resets := (c.now, p) :: c.resets, frozen := c.frozen.filter (fun e => !decide (e.1 / 4096 = p)) }
  let c1 := if p = 7 ∨ p = 8 ∨ p = 0x16 then c0 else c0.resetRegs p
  let c2 := if p = 0x16 ∧ bitOf (c.reg R.CHECK_STATUS.at) 8 = true then c1.voidCheck else c1
  let c3 := Core.resetBlock c c2 p
  if p = 7 ∨ p = 8 ∨ p = 0x16 then c3.resetRegs p else c3

/-- A write of PG_CTRL that page `p` refuses (R19, R20, R83, R284, R315, R349, R370). -/
def Core.ctrlRefused (c : Core) (p : Nat) (v : Word) : Bool :=
  let radio := c.fld R.WR_STATUS.at 0 3
  (!bitOf v 0 && decide (p < 3)) ||
    (bitOf v 1 && (decide (p < 3) || decide (p = 0x13) || decide (p = 0x17) || decide (p = 0x18) || decide (p = 0x19) ||
      (decide (3 ≤ p) && decide (p ≤ 5) && decide (c.power (p - 3) = 2)) ||
      (decide (p = 0xB) && (List.range 32).any c.teamOpen) ||
      ((decide (p = 0x11) || decide (p = 0x12)) && decide (3 ≤ radio) && decide (radio ≤ 6))))

/-- FREEZE of a control word changes from `old` to `new`: what it holds is taken at the end of the tick, or shown again (R19). -/
def Core.freezeChange (c : Core) (a : Nat) (old new : Bool) (mine : Nat → Bool) : Core :=
  if new && !old then { c with freezing := c.freezing ++ [a] }
  else if old && !new then { c.thaw mine with freezing := c.freezing.filter (fun x => decide (x ≠ a)) }
  else c

/-- A write of PG_CTRL of page `p` (R19, R20). -/
def pgCtrlWrite (p : Nat) (c : Core) (v : Word) : Core × Bool :=
  let a := R.PG_CTRL.at p
  if c.ctrlRefused p v then c.refusePage p
  else if bitOf v 1 then (c.pageReset p, true)
  else
    let old := bitOf (c.reg a) 2
    ((c.setReg a (v &&& 5)).freezeChange a old (bitOf v 2) (fun x => decide (x / 4096 = p)), true)

/-- A write of ST_CTRL of stall `n` (R27, R119, R134). -/
def stCtrlWrite (n : Nat) (c : Core) (v : Word) : Core × Bool :=
  let a := R.ST_CTRL.at n
  let old := bitOf (c.reg a) 2
  let c1 := (c.setFld a 2 1 (fieldOf v 2 1)).freezeChange a old (bitOf v 2) (fun x => decide (x / 256 = a / 256))
  (c1.runResync n (bitOf v 0) (bitOf v 1), true)

/-- The values that a control word's FREEZE takes hold (R19, R27). -/
def frozenBy (a : Nat) : List Nat := if a < 0x20000 then pageStatusRegs (a / 4096) else slotStatusRegs ((a - 0x20000) / 256)

/-- FREEZE takes effect at the start of a tick. -/
def Core.takeFreezes (c : Core) : Core := { c.freezing.foldl (fun d a => d.freezeRegs (frozenBy a)) c with freezing := [] }

/-! ### Handlers -/

/-- The class word at 0x30 of a slot, by class (R168, R201 to R205): without a class it has no field. -/
def classRow (cls : Nat) : RegRow :=
  match cls with
  | 1 => R.FM_CFG
  | 2 => R.AM_CFG
  | 3 => R.DAB_CFG
  | 4 => R.DRM_CFG
  | 5 => R.DRM_CFG
  | 6 => R.TC_CFG
  | _ => { R.FM_CFG with rw := 0, reset := 0 }

/-- Its handler. -/
def classWrite (cls n : Nat) (c : Core) (v : Word) : Core × Bool :=
  match cls with
  | 1 => fmCfgWrite n c v
  | 2 => amCfgWrite n c v
  | 3 => dabCfgWrite n c v
  | 4 => drmCfgWrite n c v
  | 5 => drmCfgWrite n c v
  | 6 => tcCfgWrite n c v
  | _ => (c, true)

/-- Handlers of the stall slots. -/
def slotHandler (port : Port) (cls : Nat) (r : RegRow) (a n : Nat) : Core → Word → Core × Bool :=
  if r.base = R.ST_CTRL.base then stCtrlWrite n
  else if r.base = R.ST_EVENT.base then eventClearWrite a
  else if r.base = R.ST_CLASS.base then stClassWrite n
  else if r.base = R.ST_FREQ.base then stFreqWrite n
  else if r.base = R.ST_ANT.base then stAntWrite n
  else if r.base = R.ST_PRESET.base then stPresetWrite n
  else if r.base = R.ST_ROUTE.base then stRouteWrite n
  else if r.base = R.FM_CFG.base then classWrite cls n
  else if r.base = R.HS_CTL.base then hsCtlWrite n
  else if r.base = R.HS_CMD.base then goWrite port a
  else slotWrite r a n

/-- Handlers of the header, DEVICE, YARD and SYN registers. -/
def deviceHandler (port : Port) (used : Core → Nat → Bool) (r : RegRow) (a i : Nat) : Core → Word → Core × Bool :=
  if r.base = R.PG_CTRL.base then pgCtrlWrite i
  else if r.base = R.PG_EVENT.base then eventClearWrite a
  else if r.base = R.PG_EVENT_FORCE.base then eventForceWrite i
  else if r.base = R.PG_LOCK.base then pageLockWrite i
  else if r.base = R.IRQ_EOI.base then irqEoiWrite
  else if r.base = R.DEV_RESET.base then devResetWrite
  else if r.base = R.TRK_CFG.base then trkCfgWrite used i
  else if r.base = R.TRK_FREE_LEN.base then trkFreeLenWrite i
  else if r.base = R.TRK_EPOCH_SET_HI.base then trkEpochSetWrite i
  else if r.base = R.TT_GO.base then goWrite port a
  else if r.base = R.SYN_CFG.base then synCfgWrite
  else if r.base = R.SYN0_LOOP.base then synLoopWrite
  else if r.base = R.SYN0_DISC.base then syn0DiscWrite
  else if r.base = R.SYN2_CFG.base then syn2CfgWrite
  else if r.base = R.MCLK_CFG.base then mclkWrite
  else if r.base = R.CLKOUT_CFG.base then clkoutWrite
  else pageWrite r a

/-- Handlers of the RF, CHAN, STABLE, HOIST and PENNANT pages. -/
def receiveHandler (port : Port) (r : RegRow) (a i : Nat) : Core → Word → Core × Bool :=
  if r.base = R.RF_CTRL.base then rfCtrlWrite i
  else if r.base = R.RF_SETTING.base then rfSettingWrite i
  else if r.base = R.TONE_CTRL.base then toneWrite i
  else if r.base = R.STEP_GO.base then goWrite port a
  else if r.base = R.CH_CFG.base then dcCfgWrite i
  else if r.base = R.OPEN_GO.base then goWrite port a
  else if r.base = R.MEAS_CTL.base then
    (fun c v => if fieldOf v 0 2 = 3 then c.refusePage 8 else mixedGoWrite port r a 8 c v)
  else if r.base = R.PN_CFG.base then pnCfgWrite
  else if r.base = R.PN_ROUTE.base then pnRouteWrite i
  else pageWrite r a

/-- Handlers of the QUEUE, TEAM, SAP, ASRC, ETH and SHED pages. -/
def streamHandler (port : Port) (r : RegRow) (a i j : Nat) : Core → Word → Core × Bool :=
  if r.base = R.Q_CFG.base then qCfgWrite i
  else if r.base = R.Q_CONS.base then qConsWrite i
  else if r.base = R.Q_BASE_LO.base ∨ r.base = R.Q_BASE_HI.base then qFixedWrite r a i
  else if r.base = R.CQ0_BASE_LO.base ∨ r.base = R.CQ0_BASE_HI.base then qFixedWrite r a 1
  else if r.base = R.TEAM_GO.base ∨ r.base = R.SUB_GO.base ∨ r.base = R.SHED_ACC_GO.base then goWrite port a
  else if r.base = R.SAP_CFG.base then sapCfgWrite i
  else if r.base = R.SAP_MAP.base then sapMapWrite i j
  else if r.base = R.SAP_MASK_NEXT.base then sapMaskWrite i
  else if r.base = R.ASRC_CFG.base then asrcCfgWrite
  else if r.base = R.AES_CFG.base then aesCfgWrite i
  else if r.base = R.AES_DEST_IP.base ∨ r.base = R.AES_PORT.base ∨ r.base = R.AES_SSRC.base then aesFixedWrite r a i
  else if r.base = R.AES_MAP.base then aesMapWrite i j
  else if r.base = R.PEN_CFG.base then penCfgWrite
  else if r.base = R.SHED_ECC_CFG.base then eccCfgWrite
  else pageWrite r a

/-- Handlers of the other pages. -/
def systemHandler (port : Port) (r : RegRow) (a i : Nat) : Core → Word → Core × Bool :=
  if r.base = R.WR_CTRL.base then wrCtrlWrite
  else if r.base = R.WR_FOFS.base then wrFofsWrite
  else if r.base = R.WR_AGC_CFG.base then wrAgcCfgWrite
  else if r.base = R.WR_TEST.base then wrTestWrite
  else if r.base = R.WR_TX_PWR.base then wrTxPwrWrite
  else if r.base = R.WR_PA_CFG.base then wrPaCfgWrite
  else if r.base = R.RL_SOFT_PWR.base then rlSoftWrite 0
  else if r.base = R.RL_SOFT_DUTY.base then rlSoftWrite (i + 1)
  else if r.base = R.RL_SOFT_CHMASK.base then rlSoftWrite 4
  else if r.base = R.WL_CFG.base then wlCfgWrite
  else if r.base = R.WL_DL_MASK_NEXT.base then wlMaskWrite false
  else if r.base = R.WL_HUB_MASK_NEXT.base then wlMaskWrite true
  else if r.base = R.TWB_ADDR.base then twbAddrWrite
  else if r.base = R.TWB_CFG.base then twbCfgWrite
  else if r.base = R.TWB_MST_CTL.base then mixedGoWrite port r a 24
  else if r.base = R.CAL_CFG.base then calCfgWrite
  else if r.base = R.STE_GO.base then goWrite port a
  else if r.base = R.UPD_CFG.base then updCfgWrite
  else if r.base = R.UPD_GO.base then goWrite port a
  else if r.base = R.GRD_CTRL.base then grdCtrlWrite
  else if r.base = R.LB_SEL.base then lbSelWrite
  else if r.base = R.LB_CFG.base then lbCfgWrite
  else pageWrite r a

/-- Handlers of the windows (R115, R199, R231): `host` is the address within the window, `sel` the device at the start of the tick. -/
def windowHandler (sel : Core) (port : Port) (host : Nat) (r : RegRow) (a n j : Nat) : Core → Word → Core × Bool :=
  let w := host / 4096 - 0x30
  if r.base = R.FIR_CTL.base then firCtlWrite w n (sel.stState n)
  else if r.base = R.COEF.base then coefWrite w n j (sel.stState n)
  else if r.base = R.DET_CFG.base then detWrite w n j 0
  else if r.base = R.DET_FREQ.base then detWrite w n j 1
  else if r.base = R.DET_THR.base then detWrite w n j 2
  else if r.base = R.AFE_TARGET.base then afEntryWrite (w - 4) n j false
  else if r.base = R.AFE_CTL.base then afEntryWrite (w - 4) n j true
  else if r.base = R.LS_GO.base then goWrite port a
  else plainWrite r a

/-- A track named by a schedule outside the Yard (R57): openings and closings, gain steps, and a firmware activation. -/
def Core.scheduleUses (c : Core) (k : Nat) : Bool :=
  c.sched.any (fun e => e.due.isNone && decide (e.track = k)) ||
    (List.range 3).any (fun i => (c.rf i).steps.any (fun e => e.due.isNone && decide (e.track = k))) ||
    (decide (c.phase = 5) && decide (c.upd.track = k))

/-- The row that a write to host address `a` reaches, with the home address, and its handler. -/
def Core.target (c sel : Core) (port : Port) (a : Nat) : Option (RegRow × Nat × (Core → Word → Core × Bool)) :=
  (sel.rowAt a).map (fun r0 =>
    let h := sel.home a
    let i := r0.index h
    let p := a / 4096
    if 0x20 ≤ p ∧ p < 0x30 then
      let cls := c.cls i.1
      (if r0.base = R.FM_CFG.base then classRow cls else r0, h, slotHandler port cls r0 h i.1)
    else if 0x30 ≤ p then (r0, h, windowHandler sel port a r0 h i.1 i.2)
    else if a % 4096 < 0x40 ∨ p < 3 then (r0, h, deviceHandler port Core.scheduleUses r0 h i.1)
    else if p < 0xA then (r0, h, receiveHandler port r0 h i.1)
    else if p < 0x10 ∨ p = 0x1A then (r0, h, streamHandler port r0 h i.1 i.2)
    else (r0, h, systemHandler port r0 h i.1))

/-- A write of the bits `mask` of `v` to host address `a` (R16, R47): `sel` is the device at the start of the tick, by whose window
selections the address is decoded. -/
def Core.writeTo (c sel : Core) (port : Port) (a : Nat) (v mask : Word) : Core × Bool :=
  match c.target sel port a with
  | none => (c.hostErr port a 2, false)
  | some t => c.maskedWrite port t.1 t.2.1 v mask t.2.2 a

end Sys2Proof.Machine
end

