-- ==== Sys2Proof/Machine/Access.lean ====
section
/-! DEFINITION. Register access from the ports, commands, the boot profile and the timetable: the rows whose meaning is a write or a read
of any register (R19, R27, R38, R42, R47, R57, R68, R74, R119, R134, R254, R401). -/

namespace Sys2Proof.Machine

/-- All bits of a register. -/
def allBits : Word := BitVec.allOnes 32

/-- REGISTER_WRITE (R16, R38, R47, R496): a posted write is applied. -/
def execRegisterWrite (port : Port) (a : Nat) (v : Word) (s : State) : Host.Outcome State Fault Refusal :=
  s.settle (s.core.writeTo s.view port a v allBits).1

/-- PAGE_ENABLE (R19, R370). -/
def execPageEnable (port : Port) (p : Fin 29) (v : Word) (s : State) : Host.Outcome State Fault Refusal :=
  s.write port R.PG_CTRL (R.PG_CTRL.at p) v (pgCtrlWrite p)

/-- PAGE_SOFT_RESET (R19, R20, R126, R135). -/
def execPageSoftReset (port : Port) (p : Fin 29) (v : Word) (s : State) : Host.Outcome State Fault Refusal :=
  s.write port R.PG_CTRL (R.PG_CTRL.at p) v (pgCtrlWrite p)

/-- PAGE_FREEZE (R19, R27). -/
def execPageFreeze (port : Port) (src : Source) (v : Word) (s : State) : Host.Outcome State Fault Refusal :=
  match src with
  | .page p => s.write port R.PG_CTRL (R.PG_CTRL.at p) v (pgCtrlWrite p)
  | .stall n => s.write port R.ST_CTRL (R.ST_CTRL.at n) v (stCtrlWrite n)

/-- STALL_RUN (R27, R134). -/
def execStallRun (port : Port) (n : Fin 256) (v : Word) (s : State) : Host.Outcome State Fault Refusal :=
  s.write port R.ST_CTRL (R.ST_CTRL.at n) v (stCtrlWrite n)

/-- STALL_RESYNC (R27, R119). -/
def execStallResync (port : Port) (n : Fin 256) (v : Word) (s : State) : Host.Outcome State Fault Refusal :=
  s.write port R.ST_CTRL (R.ST_CTRL.at n) v (stCtrlWrite n)

/-- TRK_SRC_WRITE (R57, R62, R363). -/
def execTrkSrcWrite (port : Port) (k : Fin 4) (v : Word) (s : State) : Host.Outcome State Fault Refusal :=
  s.write port R.TRK_CFG (R.TRK_CFG.at k) v (trkCfgWrite Core.scheduleUses k)

/-- TRK_STALL_WRITE (R57). -/
def execTrkStallWrite (port : Port) (k : Fin 4) (v : Word) (s : State) : Host.Outcome State Fault Refusal :=
  s.write port R.TRK_CFG (R.TRK_CFG.at k) v (trkCfgWrite Core.scheduleUses k)

/-- TS_QUERY (R74): the query registers show the new selection. -/
def execTsQuery (port : Port) (v : Word) (s : State) : Host.Outcome State Fault Refusal :=
  s.write port R.TS_QUERY_SEL R.TS_QUERY_SEL.at v (plainWrite R.TS_QUERY_SEL R.TS_QUERY_SEL.at)

/-! ### BAR0 reads (R41, R42) -/

/-- PCIE_BAR0_READ (R41, R42): answered from the image of the tick, or held until the writes received before it have been applied. -/
def execPcieBar0Read (a : Fin 0x100000) (dw : Nat) (be : BitVec 4) (s : State) : Host.Outcome State Fault Refusal :=
  s.run (fun c =>
    if !c.linkUp then c
    else if ¬(dw = 1 ∧ be = 0xF) then c.put .unsupportedRequest
    else if c.posted.any (fun x => decide (x.port = .pcie)) || !c.pcieReads.isEmpty then
      { c with pcieReads := c.pcieReads ++ [a.val] }
    else c.put (.readValue .pcie a.val (s.view.portRead a.val)))

/-- The BAR0 reads that waited are answered at the start of a tick, once every earlier write has been applied. -/
def Core.answerReads (c : Core) : Core :=
  { c with pcieReads := [], out := c.out ++ c.pcieReads.map (fun a => .readValue .pcie a (c.portRead a)) }

/-! ### The timetable fires (R65, R68) -/

/-- TT_FIRE (R65, R68): NOTIFY acts by its record alone; RELEASE finds no held command, for the manual describes none (log entry 31). -/
def execTtFire (i : Fin 512) (s : State) : Host.Outcome State Fault Refusal :=
  let c := s.core
  if !c.entryDue i then .next s
  else
    let e := c.entry i
    let late := e.mark.getD false
    if e.action = 1 then
      let d := c.writeTo s.view .action e.target e.value e.mask
      if c.yardRuns && !d.1.yardRuns then s.reboot d.1 else .next { s with core := d.1.ttFired i late (!d.2) }
    else .next { s with core := c.ttFired i late false }

/-! ### Register commands (R252 to R254, R458) -/

/-- Every bit of a row that a write can act on. -/
def RegRow.writable (r : RegRow) : Word := BitVec.ofNat 32 (r.rw ||| r.rwl ||| r.w1c ||| r.w1s ||| r.wo)

/-- The registers whose write is a GO, and those with a GO bit, which a command leaves out (R254). -/
def isGo (r : RegRow) : Bool :=
  [R.TT_GO, R.STEP_GO, R.OPEN_GO, R.LS_GO, R.TEAM_GO, R.SUB_GO, R.SHED_ACC_GO, R.STE_GO, R.UPD_GO].any (fun x => decide (x.base = r.base))

/-- The GO bits of the other registers. -/
def goBits (r : RegRow) : Word :=
  if r.base = R.MEAS_CTL.base ∨ r.base = R.TWB_MST_CTL.base ∨ r.base = R.WR_TEST.base then BitVec.ofNat 32 r.wo else 0

/-- A register that a command may write: none at a reserved or RO address and at a GO (R253, R254). -/
def Core.cmdTarget (c sel : Core) (a : Nat) : Option (RegRow × Nat) :=
  match c.target sel .command a with
  | some t => if t.1.writable = 0 || isGo t.1 then none else some (t.1, t.2.1)
  | none => none

/-- REG_WRITE as a change of the device: a write of rank 5 under MASK; its result is read at the start of the next tick. -/
def Core.regWrite (c sel : Core) (h : CmdHead) (a : Nat) (v mask : Word) : Core :=
  match (if 2 ^ 20 ≤ a then none else c.cmdTarget sel a) with
  | none => c.complete 1 h.seq 2 0 c.now []
  | some t =>
    let store := BitVec.ofNat 32 (t.1.rw ||| t.1.rwl) &&& mask
    if decide (t.1.base = R.UPD_CFG.base) && !c.guardAccepts then (c.writeTo sel .command a v mask).1.complete 1 h.seq 7 0 c.now []
    else if c.takenBits .command t.2 &&& store ≠ 0 then
      ((c.hostErr .command a 3).bump R.HOST_WCOL_CNT.at).complete 1 h.seq 6 0 c.now []
    else
      let d := (c.writeTo sel .command a (v &&& ~~~ goBits t.1) mask).1
      { d with awaits := d.awaits ++ [⟨1, a, h.seq, c.now, []⟩] }

/-- REG_WRITE (R252, R254, R458). -/
def execRegWrite (h : CmdHead) (a : Nat) (v mask : Word) (s : State) : Host.Outcome State Fault Refusal :=
  s.settle (s.core.command h 1 (fun c => c.regWrite s.view h a v mask))

/-- The completion of a REG_WRITE whose register reads `v` at t_e + 1. -/
def regWriteRecord (w : Await) (v : Word) : Pennant :=
  let l := leBytes 2 w.seq ++ leBytes 1 0 ++ leBytes 1 0 ++ leBytes 4 w.te ++ leBytes 4 v.toNat
  { stamp := 48 * w.te, typ := 0x70, source := 0, stall := false, sub := 1, queue := some 1, payload := l }

/-- The results of the REG_WRITE commands of the tick before: the registers' values at t_e + 1 (R254). -/
def Core.regWriteResults (c : Core) : Core :=
  let mine := c.awaits.filter (fun w => decide (w.opcode = 1))
  mine.foldl (fun d w => d.emit (regWriteRecord w (c.portRead w.key)))
    { c with awaits := c.awaits.filter (fun w => !decide (w.opcode = 1)) }

/-- REG_READ (R254): the value at the start of t_e. A reserved address is BAD_OPERAND (R253). -/
def execRegRead (h : CmdHead) (a : Nat) (s : State) : Host.Outcome State Fault Refusal :=
  s.run (fun c => c.command h 2 (fun c =>
    if 2 ^ 20 ≤ a ∨ (s.view.rowAt a).isNone = true then c.complete 2 h.seq 2 0 c.now []
    else c.complete 2 h.seq 0 0 c.now (leBytes 4 (s.view.portRead a).toNat)))

/-! ### The boot profile (R401, R453) -/

/-- One write of the profile, and the count of those refused; none is made once a write has reset the device. -/
def profileWrite (sel : Core) (x : Core × Nat) (w : Nat × Word) : Core × Nat :=
  if !x.1.yardRuns then x
  else
    let d := x.1.writeTo sel .profile w.1 w.2 allBits
    (d.1, if d.2 then x.2 else satAdd 8 x.2 1)

/-- BOOT_PROFILE_APPLY (R396, R401). -/
def execBootProfileApply (s : State) : Host.Outcome State Fault Refusal :=
  let c := s.core
  if c.stage = 5 ∧ c.start.tested = true ∧ c.start.profiled = false then
    match c.bootProfile with
    | none => .next { s with core := c.setStart { c.start with profiled := true } }
    | some p =>
      let writes := match c.standing p with | some x => x.writes | none => []
      let d := writes.foldl (profileWrite s.view) (c, 0)
      if c.yardRuns && !d.1.yardRuns then s.reboot d.1
      else
        let e := (d.1.setFld R.BOOT_STATUS.at 24 8 p).setFld R.BOOT_STATUS.at 16 8 d.2
        .next { s with core := e.setStart { e.start with profiled := true } }
  else .next s

end Sys2Proof.Machine
end

