-- ==== Sys2Proof/Machine/Dispatch.lean ====
section
/-! DEFINITION. One arm per command of the table: the meaning that runs it. -/

namespace Sys2Proof.Machine

/-- The effect of a command on everything but the queue. -/
def exec (i : Instr) (s : State) : Host.Outcome State Fault Refusal :=
  match i with
  | .registerWrite port addr value => Sys2Proof.Machine.execRegisterWrite port addr value s
  | .eventClear port src value => Sys2Proof.Machine.execEventClear port src value s
  | .eventForce port page value => Sys2Proof.Machine.execEventForce port page value s
  | .pageEnable port page value => Sys2Proof.Machine.execPageEnable port page value s
  | .pageSoftReset port page value => Sys2Proof.Machine.execPageSoftReset port page value s
  | .pageFreeze port src value => Sys2Proof.Machine.execPageFreeze port src value s
  | .pageLock port page value => Sys2Proof.Machine.execPageLock port page value s
  | .pageCheckCompare page => Sys2Proof.Machine.execPageCheckCompare page s
  | .irqEoi port value => Sys2Proof.Machine.execIrqEoi port value s
  | .msixReenable change => Sys2Proof.Machine.execMsixReenable change s
  | .hrpWriteCycle a data parity => Sys2Proof.Machine.execHrpWriteCycle a data parity s
  | .hrpProto a => Sys2Proof.Machine.execHrpProto a s
  | .pcieBar0Write addr dw be value => Sys2Proof.Machine.execPcieBar0Write addr dw be value s
  | .pcieBar0Read addr dw be => Sys2Proof.Machine.execPcieBar0Read addr dw be s
  | .pcieBar2Write offset bytes => Sys2Proof.Machine.execPcieBar2Write offset bytes s
  | .pcieBar2Read offset len => Sys2Proof.Machine.execPcieBar2Read offset len s
  | .pciePoisonedWrite bar0 addr => Sys2Proof.Machine.execPciePoisonedWrite bar0 addr s
  | .pcieReset kind => Sys2Proof.Machine.execPcieReset kind s
  | .trackEdge track instant => Sys2Proof.Machine.execTrackEdge track instant s
  | .trackLoss track => Sys2Proof.Machine.execTrackLoss track s
  | .filledMark track instant => Sys2Proof.Machine.execFilledMark track instant s
  | .epochBoundary track => Sys2Proof.Machine.execEpochBoundary track s
  | .trackJumpStart track => Sys2Proof.Machine.execTrackJumpStart track s
  | .stepHoldEnd track => Sys2Proof.Machine.execStepHoldEnd track s
  | .trkSrcWrite port track value => Sys2Proof.Machine.execTrkSrcWrite port track value s
  | .trkStallWrite port track value => Sys2Proof.Machine.execTrkStallWrite port track value s
  | .trkEpochArm port track value => Sys2Proof.Machine.execTrkEpochArm port track value s
  | .ttGoAdd => Sys2Proof.Machine.execTtGoAdd s
  | .ttGoCancel index => Sys2Proof.Machine.execTtGoCancel index s
  | .ttFire index => Sys2Proof.Machine.execTtFire index s
  | .tsQuery port value => Sys2Proof.Machine.execTsQuery port value s
  | .rfPowerWrite port input value => Sys2Proof.Machine.execRfPowerWrite port input value s
  | .rfWakeDone input => Sys2Proof.Machine.execRfWakeDone input s
  | .agcModeWrite port input value => Sys2Proof.Machine.execAgcModeWrite port input value s
  | .stepGoAdd input => Sys2Proof.Machine.execStepGoAdd input s
  | .stepGoCancelAll input => Sys2Proof.Machine.execStepGoCancelAll input s
  | .gainStepCommit input => Sys2Proof.Machine.execGainStepCommit input s
  | .gainStepLand input => Sys2Proof.Machine.execGainStepLand input s
  | .adcClip input count => Sys2Proof.Machine.execAdcClip input count s
  | .levelWindowEnd w => Sys2Proof.Machine.execLevelWindowEnd w s
  | .toneCtrlWrite port input value => Sys2Proof.Machine.execToneCtrlWrite port input value s
  | .syncReset stall => Sys2Proof.Machine.execSyncReset stall s
  | .settleEnd stall => Sys2Proof.Machine.execSettleEnd stall s
  | .winSelWrite port window value => Sys2Proof.Machine.execWinSelWrite port window value s
  | .firCtlWrite port window value => Sys2Proof.Machine.execFirCtlWrite port window value s
  | .coefWrite port window j value => Sys2Proof.Machine.execCoefWrite port window j value s
  | .dcCfgWrite port stall value => Sys2Proof.Machine.execDcCfgWrite port stall value s
  | .detectorCfgWrite port window det word value => Sys2Proof.Machine.execDetectorCfgWrite port window det word value s
  | .detectorBlockEnd stall det result stamp => Sys2Proof.Machine.execDetectorBlockEnd stall det result stamp s
  | .binSat bankB bin count stages => Sys2Proof.Machine.execBinSat bankB bin count stages s
  | .fastLevelPublish stall levelA levelB => Sys2Proof.Machine.execFastLevelPublish stall levelA levelB s
  | .gaitWindowPublish stall w => Sys2Proof.Machine.execGaitWindowPublish stall w s
  | .mrcWeightUpdate stall a b => Sys2Proof.Machine.execMrcWeightUpdate stall a b s
  | .openGoOpen => Sys2Proof.Machine.execOpenGoOpen s
  | .openGoClose => Sys2Proof.Machine.execOpenGoClose s
  | .openGoMove => Sys2Proof.Machine.execOpenGoMove s
  | .stallOpenDue stall => Sys2Proof.Machine.execStallOpenDue stall s
  | .stallCloseEffect stall => Sys2Proof.Machine.execStallCloseEffect stall s
  | .stallClosingDone stall => Sys2Proof.Machine.execStallClosingDone stall s
  | .stallRun port stall value => Sys2Proof.Machine.execStallRun port stall value s
  | .stallResync port stall value => Sys2Proof.Machine.execStallResync port stall value s
  | .stClassWrite port stall value => Sys2Proof.Machine.execStClassWrite port stall value s
  | .stFreqWrite port stall value => Sys2Proof.Machine.execStFreqWrite port stall value s
  | .stAntWrite port stall value => Sys2Proof.Machine.execStAntWrite port stall value s
  | .stPresetWrite port stall value => Sys2Proof.Machine.execStPresetWrite port stall value s
  | .stRouteWrite port stall value => Sys2Proof.Machine.execStRouteWrite port stall value s
  | .stallMoveComplete stall => Sys2Proof.Machine.execStallMoveComplete stall s
  | .memoryUe place => Sys2Proof.Machine.execMemoryUe place s
  | .faultRecover stall => Sys2Proof.Machine.execFaultRecover stall s
  | .checkUnitTake => Sys2Proof.Machine.execCheckUnitTake s
  | .fmCfgWrite port stall value => Sys2Proof.Machine.execFmCfgWrite port stall value s
  | .amCfgWrite port stall value => Sys2Proof.Machine.execAmCfgWrite port stall value s
  | .noiseBlank stall => Sys2Proof.Machine.execNoiseBlank stall s
  | .pilotChange stall lock dev => Sys2Proof.Machine.execPilotChange stall lock dev s
  | .rdsBlock src stream bits erased index stamp => Sys2Proof.Machine.execRdsBlock src stream bits erased index stamp s
  | .mpxPowerUpdate stall counted power pilotDev peak => Sys2Proof.Machine.execMpxPowerUpdate stall counted power pilotDev peak s
  | .devHistPeriodEnd stall bins stamp => Sys2Proof.Machine.execDevHistPeriodEnd stall bins stamp s
  | .carrierLockChange stall lock cfo level stamp => Sys2Proof.Machine.execCarrierLockChange stall lock cfo level stamp s
  | .amssBlock stall kind status info stamp => Sys2Proof.Machine.execAmssBlock stall kind status info stamp s
  | .dabSyncChange stall goal cfo stamp => Sys2Proof.Machine.execDabSyncChange stall goal cfo stamp s
  | .dabFrameStart stall instant pass cif => Sys2Proof.Machine.execDabFrameStart stall instant pass cif s
  | .fibDecode stall index bytes figs stamp => Sys2Proof.Machine.execFibDecode stall index bytes figs stamp s
  | .mscFrame stall subch index err payload stamp => Sys2Proof.Machine.execMscFrame stall subch index err payload stamp s
  | .dabSuperframe stall subch index corrected err payload stamp => Sys2Proof.Machine.execDabSuperframe stall subch index corrected err payload stamp s
  | .dabReconfig stall stamp => Sys2Proof.Machine.execDabReconfig stall stamp s
  | .tiiWindowEnd stall pairs cif stamp => Sys2Proof.Machine.execTiiWindowEnd stall pairs cif stamp s
  | .alarmStart stall stamp => Sys2Proof.Machine.execAlarmStart stall stamp s
  | .alarmEnd stall stamp => Sys2Proof.Machine.execAlarmEnd stall stamp s
  | .drmSyncChange stall goal mode cfo stamp => Sys2Proof.Machine.execDrmSyncChange stall goal mode cfo stamp s
  | .drmFac stall fac stamp => Sys2Proof.Machine.execDrmFac stall fac stamp s
  | .drmSdc stall ok bytes services streams stamp => Sys2Proof.Machine.execDrmSdc stall ok bytes services streams stamp s
  | .drmMscFrame stall stream mer threshold payload stamp => Sys2Proof.Machine.execDrmMscFrame stall stream mer threshold payload stamp s
  | .tcMark stall instant sign jitter => Sys2Proof.Machine.execTcMark stall instant sign jitter s
  | .tcGap stall instant => Sys2Proof.Machine.execTcGap stall instant s
  | .tcMarkLoss stall => Sys2Proof.Machine.execTcMarkLoss stall s
  | .tcMinute stall m stamp => Sys2Proof.Machine.execTcMinute stall m stamp s
  | .tcCfgWrite port stall value => Sys2Proof.Machine.execTcCfgWrite port stall value s
  | .lsGoAdd => Sys2Proof.Machine.execLsGoAdd s
  | .lsGoDrop index => Sys2Proof.Machine.execLsGoDrop index s
  | .decodeFrame index stamp bad codec overrun => Sys2Proof.Machine.execDecodeFrame index stamp bad codec overrun s
  | .hsEnWrite port stall value => Sys2Proof.Machine.execHsEnWrite port stall value s
  | .hsSeekNow stall => Sys2Proof.Machine.execHsSeekNow stall s
  | .hsGoto stall entry => Sys2Proof.Machine.execHsGoto stall entry s
  | .hsReturn stall => Sys2Proof.Machine.execHsReturn stall s
  | .hsCancel stall => Sys2Proof.Machine.execHsCancel stall s
  | .hoistWindow stall w => Sys2Proof.Machine.execHoistWindow stall w s
  | .scoutVisitStart => Sys2Proof.Machine.execScoutVisitStart s
  | .scoutVisitEnd scout => Sys2Proof.Machine.execScoutVisitEnd scout s
  | .idTimeout scout => Sys2Proof.Machine.execIdTimeout scout s
  | .alignWindow stall w => Sys2Proof.Machine.execAlignWindow stall w s
  | .hoistSwitch stall => Sys2Proof.Machine.execHoistSwitch stall s
  | .hoistFadeEnd stall => Sys2Proof.Machine.execHoistFadeEnd stall s
  | .holdEnd stall => Sys2Proof.Machine.execHoldEnd stall s
  | .afEntryAge stall entry => Sys2Proof.Machine.execAfEntryAge stall entry s
  | .afEntryWrite port window entry ctl value => Sys2Proof.Machine.execAfEntryWrite port window entry ctl value s
  | .measGo => Sys2Proof.Machine.execMeasGo s
  | .measDone level quality => Sys2Proof.Machine.execMeasDone level quality s
  | .queueEntryVisible => Sys2Proof.Machine.execQueueEntryVisible s
  | .holdDrain q => Sys2Proof.Machine.execHoldDrain q s
  | .notifyTimeout q => Sys2Proof.Machine.execNotifyTimeout q s
  | .qConsWrite port q value => Sys2Proof.Machine.execQConsWrite port q value s
  | .qEnableWrite port q value => Sys2Proof.Machine.execQEnableWrite port q value s
  | .routeWrite port k value => Sys2Proof.Machine.execRouteWrite port k value s
  | .commandFetch entry => Sys2Proof.Machine.execCommandFetch entry s
  | .nop h => Sys2Proof.Machine.execNop h s
  | .regWrite h addr value mask => Sys2Proof.Machine.execRegWrite h addr value mask s
  | .regRead h addr => Sys2Proof.Machine.execRegRead h addr s
  | .stallOpen h stall cls ant run freq preset route => Sys2Proof.Machine.execStallOpen h stall cls ant run freq preset route s
  | .stallClose h stall => Sys2Proof.Machine.execStallClose h stall s
  | .stallMove h stall => Sys2Proof.Machine.execStallMove h stall s
  | .stallRetune h stall ant freq iq => Sys2Proof.Machine.execStallRetune h stall ant freq iq s
  | .ttAdd h pennant action rept target value mask => Sys2Proof.Machine.execTtAdd h pennant action rept target value mask s
  | .ttCancel h index => Sys2Proof.Machine.execTtCancel h index s
  | .stepAdd h page setting => Sys2Proof.Machine.execStepAdd h page setting s
  | .lsAdd h stall team comp sid => Sys2Proof.Machine.execLsAdd h stall team comp sid s
  | .lsDrop h index => Sys2Proof.Machine.execLsDrop h index s
  | .hoistCmd h stall ops entry => Sys2Proof.Machine.execHoistCmd h stall ops entry s
  | .routeSet h typ byte => Sys2Proof.Machine.execRouteSet h typ byte s
  | .memberUnderrun member g late stamp cause => Sys2Proof.Machine.execMemberUnderrun member g late stamp cause s
  | .memberResume member stamp late => Sys2Proof.Machine.execMemberResume member stamp late s
  | .bayBlockClose kind index mpx stamp words => Sys2Proof.Machine.execBayBlockClose kind index mpx stamp words s
  | .teamGoOpen => Sys2Proof.Machine.execTeamGoOpen s
  | .teamGoClose => Sys2Proof.Machine.execTeamGoClose s
  | .subGoAdd => Sys2Proof.Machine.execSubGoAdd s
  | .subGoDrop index => Sys2Proof.Machine.execSubGoDrop index s
  | .teamOpen h team lat => Sys2Proof.Machine.execTeamOpen h team lat s
  | .teamClose h team => Sys2Proof.Machine.execTeamClose h team s
  | .subAdd h kind srcKind source sel queue => Sys2Proof.Machine.execSubAdd h kind srcKind source sel queue s
  | .subDrop h index => Sys2Proof.Machine.execSubDrop h index s
  | .sapMap h port slot value => Sys2Proof.Machine.execSapMap h port slot value s
  | .sapMask h port value => Sys2Proof.Machine.execSapMask h port value s
  | .aesMap h stream channel value => Sys2Proof.Machine.execAesMap h stream channel value s
  | .aesEn h stream en => Sys2Proof.Machine.execAesEn h stream en s
  | .sapEnable port sap value => Sys2Proof.Machine.execSapEnable port sap value s
  | .sapMapWrite port sap k value => Sys2Proof.Machine.execSapMapWrite port sap k value s
  | .sapMaskWrite port sap value => Sys2Proof.Machine.execSapMaskWrite port sap value s
  | .sapMaskApply sap => Sys2Proof.Machine.execSapMaskApply sap s
  | .sapClkLoss sap => Sys2Proof.Machine.execSapClkLoss sap s
  | .asrcLock sap ratio delayTx delayRx => Sys2Proof.Machine.execAsrcLock sap ratio delayTx delayRx s
  | .ptpSync offset => Sys2Proof.Machine.execPtpSync offset s
  | .ptpTimeout => Sys2Proof.Machine.execPtpTimeout s
  | .ethFrameRx kind target source bytes => Sys2Proof.Machine.execEthFrameRx kind target source bytes s
  | .aesPacket stream g ptp samples => Sys2Proof.Machine.execAesPacket stream g ptp samples s
  | .penDatagram => Sys2Proof.Machine.execPenDatagram s
  | .shedAccLoad => Sys2Proof.Machine.execShedAccLoad s
  | .shedAccStore => Sys2Proof.Machine.execShedAccStore s
  | .wrModeWrite port value => Sys2Proof.Machine.execWrModeWrite port value s
  | .wrChannelWrite port value => Sys2Proof.Machine.execWrChannelWrite port value s
  | .syn1CalEnd ok => Sys2Proof.Machine.execSyn1CalEnd ok s
  | .wrFofsWrite port value => Sys2Proof.Machine.execWrFofsWrite port value s
  | .txRequest => Sys2Proof.Machine.execTxRequest s
  | .txTurnStart => Sys2Proof.Machine.execTxTurnStart s
  | .txEnd => Sys2Proof.Machine.execTxEnd s
  | .turnRxEnd => Sys2Proof.Machine.execTurnRxEnd s
  | .txCut power => Sys2Proof.Machine.execTxCut power s
  | .wrAgcBlock clips peak mean => Sys2Proof.Machine.execWrAgcBlock clips peak mean s
  | .wrGManWrite port value => Sys2Proof.Machine.execWrGManWrite port value s
  | .wrTestGo port value => Sys2Proof.Machine.execWrTestGo port value s
  | .bgcalApply values => Sys2Proof.Machine.execBgcalApply values s
  | .bgcalWait => Sys2Proof.Machine.execBgcalWait s
  | .dutyBucketEnd => Sys2Proof.Machine.execDutyBucketEnd s
  | .syn1Unlock => Sys2Proof.Machine.execSyn1Unlock s
  | .rlSoftWrite port reg value => Sys2Proof.Machine.execRlSoftWrite port reg value s
  | .preambleDetect lane sf => Sys2Proof.Machine.execPreambleDetect lane sf s
  | .falseStart lane sf inst => Sys2Proof.Machine.execFalseStart lane sf inst s
  | .frameLock lane sf inst mark new old cut cutLen => Sys2Proof.Machine.execFrameLock lane sf inst mark new old cut cutLen s
  | .frameRxEnd lane sf inst header payload m iterations stop => Sys2Proof.Machine.execFrameRxEnd lane sf inst header payload m iterations stop s
  | .airSlotBoundary => Sys2Proof.Machine.execAirSlotBoundary s
  | .airFrameBoundary => Sys2Proof.Machine.execAirFrameBoundary s
  | .dlRunStart => Sys2Proof.Machine.execDlRunStart s
  | .afcWrite => Sys2Proof.Machine.execAfcWrite s
  | .peerLost index => Sys2Proof.Machine.execPeerLost index s
  | .wlCfgWrite port value => Sys2Proof.Machine.execWlCfgWrite port value s
  | .wlMaskWrite port hub value => Sys2Proof.Machine.execWlMaskWrite port hub value s
  | .wlSend h dst portNo flags len place addr => Sys2Proof.Machine.execWlSend h dst portNo flags len place addr s
  | .wlPeerAdd h addr lane sf ref => Sys2Proof.Machine.execWlPeerAdd h addr lane sf ref s
  | .wlPeerDel h addr => Sys2Proof.Machine.execWlPeerDel h addr s
  | .wlRoute h entry valid pre mask next => Sys2Proof.Machine.execWlRoute h entry valid pre mask next s
  | .wlForward h dst hop len addr => Sys2Proof.Machine.execWlForward h dst hop len addr s
  | .syn0Lock xin phase => Sys2Proof.Machine.execSyn0Lock xin phase s
  | .syn0Unlock phase => Sys2Proof.Machine.execSyn0Unlock phase s
  | .syn0Resume phase => Sys2Proof.Machine.execSyn0Resume phase s
  | .refLoss xin => Sys2Proof.Machine.execRefLoss xin s
  | .refGood xin => Sys2Proof.Machine.execRefGood xin s
  | .syn0DiscWrite port value => Sys2Proof.Machine.execSyn0DiscWrite port value s
  | .syn2Relock write => Sys2Proof.Machine.execSyn2Relock write s
  | .syn2Resume phase => Sys2Proof.Machine.execSyn2Resume phase s
  | .mclkCfgWrite port value => Sys2Proof.Machine.execMclkCfgWrite port value s
  | .clkoutCfgWrite port value => Sys2Proof.Machine.execClkoutCfgWrite port value s
  | .ptrSet head bytes => Sys2Proof.Machine.execPtrSet head bytes s
  | .writeAt head bytes => Sys2Proof.Machine.execWriteAt head bytes s
  | .readAt head bytes ack => Sys2Proof.Machine.execReadAt head bytes ack s
  | .writeSeq head bytes => Sys2Proof.Machine.execWriteSeq head bytes s
  | .readSeq head bytes ack => Sys2Proof.Machine.execReadSeq head bytes ack s
  | .status head bytes ack => Sys2Proof.Machine.execStatus head bytes ack s
  | .twbTimeout => Sys2Proof.Machine.execTwbTimeout s
  | .busFree line => Sys2Proof.Machine.execBusFree line s
  | .twbAddrWrite port value => Sys2Proof.Machine.execTwbAddrWrite port value s
  | .attnMessage line losses ack => Sys2Proof.Machine.execAttnMessage line losses ack s
  | .attnRetry line losses ack => Sys2Proof.Machine.execAttnRetry line losses ack s
  | .twbMstGo => Sys2Proof.Machine.execTwbMstGo s
  | .mstTransfer line losses result => Sys2Proof.Machine.execMstTransfer line losses result s
  | .powerOnReset seqErr => Sys2Proof.Machine.execPowerOnReset seqErr s
  | .brownout rails => Sys2Proof.Machine.execBrownout rails s
  | .pinReset low => Sys2Proof.Machine.execPinReset low s
  | .clockFault => Sys2Proof.Machine.execClockFault s
  | .watchdog => Sys2Proof.Machine.execWatchdog s
  | .thermal hot => Sys2Proof.Machine.execThermal hot s
  | .devReset port value => Sys2Proof.Machine.execDevReset port value s
  | .fuseLoad corrected bad => Sys2Proof.Machine.execFuseLoad corrected bad s
  | .imageSelect reads hb => Sys2Proof.Machine.execImageSelect reads hb s
  | .powerupCalibration results => Sys2Proof.Machine.execPowerupCalibration results s
  | .startupUnitTest repaired retired => Sys2Proof.Machine.execStartupUnitTest repaired retired s
  | .bootProfileApply => Sys2Proof.Machine.execBootProfileApply s
  | .deviceReady => Sys2Proof.Machine.execDeviceReady s
  | .calApply => Sys2Proof.Machine.execCalApply s
  | .bgcalCycle input event => Sys2Proof.Machine.execBgcalCycle input event s
  | .calRun h mask results => Sys2Proof.Machine.execCalRun h mask results s
  | .calStore h nor => Sys2Proof.Machine.execCalStore h nor s
  | .calRestore h mask record => Sys2Proof.Machine.execCalRestore h mask record s
  | .eccCorrected place => Sys2Proof.Machine.execEccCorrected place s
  | .scrubRead words mib => Sys2Proof.Machine.execScrubRead words mib s
  | .norRefresh sectors => Sys2Proof.Machine.execNorRefresh sectors s
  | .checkStart => Sys2Proof.Machine.execCheckStart s
  | .checkCopy => Sys2Proof.Machine.execCheckCopy s
  | .checkEnd mismatch => Sys2Proof.Machine.execCheckEnd mismatch s
  | .steSlice => Sys2Proof.Machine.execSteSlice s
  | .steYield => Sys2Proof.Machine.execSteYield s
  | .steRunEnd result => Sys2Proof.Machine.execSteRunEnd result s
  | .steGoRun => Sys2Proof.Machine.execSteGoRun s
  | .steGoStop => Sys2Proof.Machine.execSteGoStop s
  | .steRun h region kind count => Sys2Proof.Machine.execSteRun h region kind count s
  | .steStop h => Sys2Proof.Machine.execSteStop h s
  | .checkNow h stall => Sys2Proof.Machine.execCheckNow h stall s
  | .eccInject port value => Sys2Proof.Machine.execEccInject port value s
  | .scanEnable keys clean => Sys2Proof.Machine.execScanEnable keys clean s
  | .updGoOffer nor => Sys2Proof.Machine.execUpdGoOffer nor s
  | .updGoBlock nor => Sys2Proof.Machine.execUpdGoBlock nor s
  | .updGoVerify => Sys2Proof.Machine.execUpdGoVerify s
  | .updGoActivate => Sys2Proof.Machine.execUpdGoActivate s
  | .updGoConfirm nor => Sys2Proof.Machine.execUpdGoConfirm nor s
  | .updGoAbort => Sys2Proof.Machine.execUpdGoAbort s
  | .updOffer h addr nor => Sys2Proof.Machine.execUpdOffer h addr nor s
  | .updBlock h index addr nor => Sys2Proof.Machine.execUpdBlock h index addr nor s
  | .updVerify h => Sys2Proof.Machine.execUpdVerify h s
  | .updActivate h => Sys2Proof.Machine.execUpdActivate h s
  | .updConfirm h nor => Sys2Proof.Machine.execUpdConfirm h nor s
  | .updAbort h => Sys2Proof.Machine.execUpdAbort h s
  | .offerTimeout => Sys2Proof.Machine.execOfferTimeout s
  | .chainPoll line => Sys2Proof.Machine.execChainPoll line s
  | .chainBlock index data => Sys2Proof.Machine.execChainBlock index data s
  | .verifyEnd ue => Sys2Proof.Machine.execVerifyEnd ue s
  | .standbyReady nor hb => Sys2Proof.Machine.execStandbyReady nor hb s
  | .handover => Sys2Proof.Machine.execHandover s
  | .handback fault => Sys2Proof.Machine.execHandback fault s
  | .autoConfirm nor => Sys2Proof.Machine.execAutoConfirm nor s
  | .cpSwap => Sys2Proof.Machine.execCpSwap s
  | .profileSave h profile n addr nor => Sys2Proof.Machine.execProfileSave h profile n addr nor s
  | .profileErase h profile nor => Sys2Proof.Machine.execProfileErase h profile nor s
  | .profileSetBoot h profile nor => Sys2Proof.Machine.execProfileSetBoot h profile nor s
  | .lcAdvance h target => Sys2Proof.Machine.execLcAdvance h target s
  | .fuseReglock h id band0 band1 band2 mask => Sys2Proof.Machine.execFuseReglock h id band0 band1 band2 mask s
  | .keyProgram h slot addr => Sys2Proof.Machine.execKeyProgram h slot addr s
  | .keyRevoke h slot => Sys2Proof.Machine.execKeyRevoke h slot s
  | .presencePress edge => Sys2Proof.Machine.execPresencePress edge s
  | .initialLowTimeout => Sys2Proof.Machine.execInitialLowTimeout s
  | .guardWindowExpire => Sys2Proof.Machine.execGuardWindowExpire s
  | .guardClose port value => Sys2Proof.Machine.execGuardClose port value s
  | .sealCheck errors => Sys2Proof.Machine.execSealCheck errors s
  | .lbPeriodicRecord nor => Sys2Proof.Machine.execLbPeriodicRecord nor s
  | .lbEraseDone good => Sys2Proof.Machine.execLbEraseDone good s
  | .histSample => Sys2Proof.Machine.execHistSample s
  | .pwrfail low => Sys2Proof.Machine.execPwrfail low s
  | .lbSelWrite port value => Sys2Proof.Machine.execLbSelWrite port value s
  | .lbSnapshot h nor => Sys2Proof.Machine.execLbSnapshot h nor s
  | .lbDump h addr => Sys2Proof.Machine.execLbDump h addr s
  | .lbRecord h age addr => Sys2Proof.Machine.execLbRecord h age addr s
  | .gpioEdge levels => Sys2Proof.Machine.execGpioEdge levels s
  | .stallMovePlace stall => Sys2Proof.Machine.execStallMovePlace stall s
  | .ethLinkChange up => Sys2Proof.Machine.execEthLinkChange up s
  | .pcieLinkUp rate width => Sys2Proof.Machine.execPcieLinkUp rate width s
  | .notReady => Sys2Proof.Machine.execNotReady s
  | .barTimeEnd stall entry => Sys2Proof.Machine.execBarTimeEnd stall entry s

end Sys2Proof.Machine
end

