-- ==== Sys2Proof/Machine/Commands.lean ====
section
/-! DEFINITION. What an entry of the command ring does (R250, R254, R283, R347, R407, R430, R459, R473). What a command's
row carries from outside (whether a NOR write succeeds) is an open value; a calibration's measurements are left to the free values that
the calibration draws (log entry 32). -/

namespace Sys2Proof.Machine

/-- The common part of an entry (R250). -/
def headOf (b : List Byte) : CmdHead :=
  let f := bytesAt b 3 1
  { seq := bytesAt b 0 2, now := decide (f % 2 = 1), atEffect := decide (f / 2 % 2 = 1), phase := bytesAt b 4 2,
    track := Fin.ofNat 4 (bytesAt b 6 1), epoch := bytesAt b 8 4 }

/-- A word of an entry. -/
def wordAt (b : List Byte) (a : Nat) : Word := BitVec.ofNat 32 (bytesAt b a 4)

/-- Byte `a` as the number of a stall. -/
def stallAt (b : List Byte) (a : Nat) : Fin 256 := Fin.ofNat 256 (bytesAt b a 1)

/-- Opcodes of R254. -/
def stableCommand (h : CmdHead) (b : List Byte) : Option Act :=
  let n := stallAt b 12
  match bytesAt b 2 1 with
  | 0x00 => some (execNop h)
  | 0x01 => some (execRegWrite h (bytesAt b 12 3) (wordAt b 16) (wordAt b 20))
  | 0x02 => some (execRegRead h (bytesAt b 12 3))
  | 0x10 => some (execStallOpen h n (bytesAt b 13 1) (bytesAt b 14 1) (decide (bytesAt b 15 1 % 2 = 1)) (wordAt b 16) (wordAt b 20) (bytesAt b 24 2))
  | 0x11 => some (execStallClose h n)
  | 0x12 => some (execStallMove h n)
  | 0x13 => some (execStallRetune h n (bytesAt b 14 1) (wordAt b 16) (bytesAt b 20 1))
  | 0x18 => some (execTtAdd h (decide (bytesAt b 12 1 % 2 = 1)) (bytesAt b 12 1 / 16) (bytesAt b 13 1) (bytesAt b 16 3) (wordAt b 20) (wordAt b 24))
  | 0x19 => some (execTtCancel h (bytesAt b 12 2))
  | 0x1A => some (execStepAdd h (bytesAt b 12 1) (bytesAt b 13 1))
  | 0x20 => some (execLsAdd h n (bytesAt b 13 1) (bytesAt b 14 1) (wordAt b 16))
  | 0x21 => some (execLsDrop h (bytesAt b 12 1))
  | 0x22 => some (execHoistCmd h n (bytesAt b 13 1) (bytesAt b 14 1))
  | 0x28 => some (execRouteSet h (bytesAt b 12 1) (bytesAt b 13 1))
  | _ => none

/-- Opcodes of R283 and R347. -/
def linkCommand (h : CmdHead) (b : List Byte) : Option Act :=
  match bytesAt b 2 1 with
  | 0x30 => some (execTeamOpen h (bytesAt b 12 1) (bytesAt b 13 1))
  | 0x31 => some (execTeamClose h (bytesAt b 12 1))
  | 0x32 => some (execSubAdd h (bytesAt b 12 1) (bytesAt b 13 1) (bytesAt b 14 1) (bytesAt b 15 1) (bytesAt b 16 1))
  | 0x33 => some (execSubDrop h (bytesAt b 12 1))
  | 0x34 => some (execSapMap h (bytesAt b 12 1) (bytesAt b 13 1) (bytesAt b 14 2))
  | 0x35 => some (execSapMask h (bytesAt b 12 1) (wordAt b 16))
  | 0x36 => some (execAesMap h (bytesAt b 12 1) (bytesAt b 13 1) (bytesAt b 14 2))
  | 0x37 => some (execAesEn h (bytesAt b 12 1) (decide (bytesAt b 13 1 % 2 = 1)))
  | 0x40 => some (execWlSend h (wordAt b 12) (bytesAt b 16 1) (bytesAt b 17 1) (bytesAt b 18 1) (bytesAt b 19 1) (bytesAt b 20 5))
  | 0x41 => some (execWlPeerAdd h (wordAt b 12) (bytesAt b 16 1) (bytesAt b 17 1) (decide (bytesAt b 18 1 % 2 = 1)))
  | 0x42 => some (execWlPeerDel h (wordAt b 12))
  | 0x43 => some (execWlRoute h (bytesAt b 12 1) (decide (bytesAt b 13 1 % 2 = 1)) (wordAt b 16) (wordAt b 20) (wordAt b 24))
  | 0x44 => some (execWlForward h (wordAt b 12) (bytesAt b 16 1) (bytesAt b 18 1) (bytesAt b 20 5))
  | _ => none

/-- The FUSE command's sub-operations (R459). -/
def fuseCommand (h : CmdHead) (b : List Byte) : Option Act :=
  match bytesAt b 12 1 with
  | 0 => some (execLcAdvance h (bytesAt b 13 1))
  | 1 =>
    let band := fun i => BitVec.ofNat 32 (bytesAt b (15 + i) 1 + 2 ^ 16 * bytesAt b (18 + 2 * i) 2)
    some (execFuseReglock h (BitVec.ofNat 32 (bytesAt b 13 1 + 2 ^ 8 * (bytesAt b 14 1 % 32))) (band 0) (band 1) (band 2) (wordAt b 24))
  | 2 => some (execKeyProgram h (bytesAt b 13 1) (bytesAt b 16 5))
  | 3 => some (execKeyRevoke h (bytesAt b 13 1))
  | _ => none

/-- Opcodes of R407, R430, R459 and R473; `nor` tells whether a NOR write succeeds. -/
def systemCommand (h : CmdHead) (b : List Byte) (nor : Bool) : Option Act :=
  let mask := BitVec.ofNat 8 (bytesAt b 12 1)
  match bytesAt b 2 1 with
  | 0x50 => some (execUpdOffer h (bytesAt b 16 5) nor)
  | 0x51 => some (execUpdBlock h (bytesAt b 12 2) (bytesAt b 16 5) nor)
  | 0x52 => some (execUpdVerify h)
  | 0x53 => some (execUpdActivate h)
  | 0x54 => some (execUpdConfirm h nor)
  | 0x55 => some (execUpdAbort h)
  | 0x56 =>
    (match bytesAt b 12 1 with
     | 0 => some (execProfileSave h (bytesAt b 13 1) (bytesAt b 14 2) (bytesAt b 16 5) nor)
     | 1 => some (execProfileErase h (bytesAt b 13 1) nor)
     | 2 => some (execProfileSetBoot h (bytesAt b 13 1) nor)
     | _ => none)
  | 0x57 => fuseCommand h b
  | 0x58 => some (execLbSnapshot h nor)
  | 0x59 => some (execLbDump h (bytesAt b 16 5))
  | 0x5A => some (execLbRecord h (bytesAt b 12 2) (bytesAt b 16 5))
  | 0x5C => some (execCalRun h mask {})
  | 0x5D => some (execCalStore h nor)
  | 0x5E => some (execCalRestore h mask (BitVec.ofNat 8 (bytesAt b 13 1)))
  | 0x60 => some (execSteRun h (bytesAt b 12 2) (BitVec.ofNat 8 (bytesAt b 14 1)) (bytesAt b 16 4))
  | 0x61 => some (execSteStop h)
  | 0x62 => some (execCheckNow h (stallAt b 12))
  | _ => none

/-- The meaning of the command that an entry spells. -/
def commandOf (b : List Byte) (nor : Bool) : Option Act :=
  let h := headOf b
  match stableCommand h b with
  | some i => some i
  | none =>
    match linkCommand h b with
    | some i => some i
    | none => systemCommand h b nor

/-- STATUS of an entry that spells none (R253): BAD_OPERAND where the opcode is defined and its sub-operation is not, else BAD_OPCODE. -/
def badStatus (b : List Byte) : Nat := if bytesAt b 2 1 = 0x56 ∨ bytesAt b 2 1 = 0x57 then 2 else 1

/-- The GO registers of the blocks that a command acts on (R252). -/
def commandGos (b : List Byte) : List Nat :=
  match bytesAt b 2 1 with
  | 0x10 => [R.OPEN_GO.at]
  | 0x11 => [R.OPEN_GO.at]
  | 0x12 => [R.OPEN_GO.at]
  | 0x18 => [R.TT_GO.at]
  | 0x19 => [R.TT_GO.at]
  | 0x1A => [R.STEP_GO.at (bytesAt b 12 1 - 3)]
  | 0x20 => [R.LS_GO.at]
  | 0x21 => [R.LS_GO.at]
  | 0x22 => [R.HS_CMD.at (bytesAt b 12 1)]
  | 0x30 => [R.TEAM_GO.at]
  | 0x31 => [R.TEAM_GO.at]
  | 0x32 => [R.SUB_GO.at]
  | 0x33 => [R.SUB_GO.at]
  | 0x50 => [R.UPD_GO.at]
  | 0x51 => [R.UPD_GO.at]
  | 0x52 => [R.UPD_GO.at]
  | 0x53 => [R.UPD_GO.at]
  | 0x54 => [R.UPD_GO.at]
  | 0x55 => [R.UPD_GO.at]
  | 0x60 => [R.STE_GO.at]
  | 0x61 => [R.STE_GO.at]
  | _ => []

/-! ### Entries (R250) -/

/-- The entry of a command with opcode `op` and operand bytes `l` from byte 12 on: the rest of the operands is 0, and the CRC stands last. -/
def entryOf (h : CmdHead) (op : Nat) (l : List Byte) : List Byte :=
  let b := leBytes 2 h.seq ++ leBytes 1 op ++ leBytes 1 (b2n h.now + 2 * b2n h.atEffect) ++ leBytes 2 h.phase ++ leBytes 1 h.track.val ++
    leBytes 1 0 ++ leBytes 4 h.epoch ++ l ++ List.replicate (18 - l.length) 0
  b ++ leBytes 2 (crc16 b)

/-- Operand bytes: each pair is a width in bytes and a number. -/
def operands (l : List (Nat × Nat)) : List Byte := l.flatMap (fun e => leBytes e.1 e.2)

/-- The entry that spells a command of the ring, with what decides a NOR write of it; none for a command that has no entry. -/
def ringEntry (i : Instr) : Option (List Byte × Bool) :=
  match i with
  | .nop h => some (entryOf h 0x00 [], true)
  | .regWrite h a v m => some (entryOf h 0x01 (operands [(3, a), (1, 0), (4, v.toNat), (4, m.toNat)]), true)
  | .regRead h a => some (entryOf h 0x02 (operands [(3, a)]), true)
  | .stallOpen h n cls ant run f p r =>
    some (entryOf h 0x10 (operands [(1, n.val), (1, cls), (1, ant), (1, b2n run), (4, f.toNat), (4, p.toNat), (2, r)]), true)
  | .stallClose h n => some (entryOf h 0x11 (operands [(1, n.val)]), true)
  | .stallMove h n => some (entryOf h 0x12 (operands [(1, n.val)]), true)
  | .stallRetune h n ant f iq => some (entryOf h 0x13 (operands [(1, n.val), (1, 0), (1, ant), (1, 0), (4, f.toNat), (1, iq)]), true)
  | .ttAdd h p act rep a v m =>
    some (entryOf h 0x18 (operands [(1, b2n p + 16 * act), (1, rep), (2, 0), (3, a), (1, 0), (4, v.toNat), (4, m.toNat)]), true)
  | .ttCancel h x => some (entryOf h 0x19 (operands [(2, x)]), true)
  | .stepAdd h p x => some (entryOf h 0x1A (operands [(1, p), (1, x)]), true)
  | .lsAdd h n t c sid => some (entryOf h 0x20 (operands [(1, n.val), (1, t), (1, c), (1, 0), (4, sid.toNat)]), true)
  | .lsDrop h x => some (entryOf h 0x21 (operands [(1, x)]), true)
  | .hoistCmd h n ops e => some (entryOf h 0x22 (operands [(1, n.val), (1, ops), (1, e)]), true)
  | .routeSet h t x => some (entryOf h 0x28 (operands [(1, t), (1, x)]), true)
  | .teamOpen h t l => some (entryOf h 0x30 (operands [(1, t), (1, l)]), true)
  | .teamClose h t => some (entryOf h 0x31 (operands [(1, t)]), true)
  | .subAdd h k sk s sel q => some (entryOf h 0x32 (operands [(1, k), (1, sk), (1, s), (1, sel), (1, q)]), true)
  | .subDrop h x => some (entryOf h 0x33 (operands [(1, x)]), true)
  | .sapMap h p s v => some (entryOf h 0x34 (operands [(1, p), (1, s), (2, v)]), true)
  | .sapMask h p v => some (entryOf h 0x35 (operands [(1, p), (3, 0), (4, v.toNat)]), true)
  | .aesMap h s c v => some (entryOf h 0x36 (operands [(1, s), (1, c), (2, v)]), true)
  | .aesEn h s e => some (entryOf h 0x37 (operands [(1, s), (1, b2n e)]), true)
  | .wlSend h d p f l x a => some (entryOf h 0x40 (operands [(4, d.toNat), (1, p), (1, f), (1, l), (1, x), (5, a)]), true)
  | .wlPeerAdd h a l s r => some (entryOf h 0x41 (operands [(4, a.toNat), (1, l), (1, s), (1, b2n r)]), true)
  | .wlPeerDel h a => some (entryOf h 0x42 (operands [(4, a.toNat)]), true)
  | .wlRoute h e v p m n => some (entryOf h 0x43 (operands [(1, e), (1, b2n v), (2, 0), (4, p.toNat), (4, m.toNat), (4, n.toNat)]), true)
  | .wlForward h d hop l a => some (entryOf h 0x44 (operands [(4, d.toNat), (1, hop), (1, 0), (1, l), (1, 0), (5, a)]), true)
  | .updOffer h a nor => some (entryOf h 0x50 (operands [(4, 0), (5, a)]), nor)
  | .updBlock h x a nor => some (entryOf h 0x51 (operands [(2, x), (2, 0), (5, a)]), nor)
  | .updVerify h => some (entryOf h 0x52 [], true)
  | .updActivate h => some (entryOf h 0x53 [], true)
  | .updConfirm h nor => some (entryOf h 0x54 [], nor)
  | .updAbort h => some (entryOf h 0x55 [], true)
  | .profileSave h p n a nor => some (entryOf h 0x56 (operands [(1, 0), (1, p), (2, n), (5, a)]), nor)
  | .profileErase h p nor => some (entryOf h 0x56 (operands [(1, 1), (1, p)]), nor)
  | .profileSetBoot h p nor => some (entryOf h 0x56 (operands [(1, 2), (1, p)]), nor)
  | .lcAdvance h t => some (entryOf h 0x57 (operands [(1, 0), (1, t)]), true)
  | .fuseReglock h id b0 b1 b2 m =>
    some (entryOf h 0x57 (operands [(1, 1), (2, id.toNat), (1, b0.toNat), (1, b1.toNat), (1, b2.toNat), (2, fieldOf b0 16 16), (2, fieldOf b1 16 16),
      (2, fieldOf b2 16 16), (4, m.toNat)]), true)
  | .keyProgram h k a => some (entryOf h 0x57 (operands [(1, 2), (1, k), (2, 0), (5, a)]), true)
  | .keyRevoke h k => some (entryOf h 0x57 (operands [(1, 3), (1, k)]), true)
  | .lbSnapshot h nor => some (entryOf h 0x58 [], nor)
  | .lbDump h a => some (entryOf h 0x59 (operands [(4, 0), (5, a)]), true)
  | .lbRecord h x a => some (entryOf h 0x5A (operands [(2, x), (2, 0), (5, a)]), true)
  | .calRun h m x => if x = {} then some (entryOf h 0x5C (operands [(1, m.toNat)]), true) else none
  | .calStore h nor => some (entryOf h 0x5D [], nor)
  | .calRestore h m r => some (entryOf h 0x5E (operands [(1, m.toNat), (1, r.toNat)]), true)
  | .steRun h r k n => some (entryOf h 0x60 (operands [(2, r), (1, k.toNat), (1, 0), (4, n)]), true)
  | .steStop h => some (entryOf h 0x61 [], true)
  | .checkNow h n => some (entryOf h 0x62 (operands [(1, n.val)]), true)
  | _ => none

end Sys2Proof.Machine
end

