-- ==== Sys2Proof/Machine/Sequence.lean ====
section
/-! DEFINITION. What happens in a tick without a command from outside (R38, R47, R49, R66, R69, R251): a tick that the queue lets pass runs
in three parts. First the track grids and the Guard's time-outs, the GO words of the tick before, the posted writes by port and one
command of the ring; then what has fallen due, by track, by index, and by the state of the blocks; then the queue notifications and
the start of the next tick (log entry 33). -/

namespace Sys2Proof.Machine

/-- Effects one after the other; a fault or a refusal ends them. -/
def runActs : List Act → Act
  | [], s => .next s
  | f :: r, s =>
    match f s with
    | .next t => runActs r t
    | o => o

/-- An effect that meets an outcome from outside the device: an open value (log entry 32). -/
def withOpen (f : Bool → Act) : Act := fun s => f (s.core.draw.1.getLsbD 0) { s with core := s.core.draw.2 }

/-! ### GO words (R66) -/

/-- The lowest set bit among the lowest `n` of a GO word. -/
def firstBit (v : Word) (n : Nat) : Option Nat := (List.range n).find? (fun b => bitOf v b)

/-- The effect of OP `op` of UPD_GO (R459, R461). -/
def updAct (op : Nat) : List Act :=
  match op with
  | 0 => [withOpen execUpdGoOffer]
  | 1 => [withOpen execUpdGoBlock]
  | 2 => [execUpdGoVerify]
  | 3 => [execUpdGoActivate]
  | 4 => [withOpen execUpdGoConfirm]
  | 5 => [execUpdGoAbort]
  | _ => []

/-- The effect of the GO word `v` of the register at `a`; `c` is the device at the start of the tick. -/
def goActs (c : Core) (a : Nat) (v : Word) : List Act :=
  let bit := fun n => (firstBit v n).getD 9
  if a = R.TT_GO.at then
    (match bit 2 with | 0 => [execTtGoAdd] | 1 => [execTtGoCancel (Fin.ofNat 512 (fieldOf v 16 9))] | _ => [])
  else if a = R.OPEN_GO.at then
    (match bit 3 with | 0 => [execOpenGoOpen] | 1 => [execOpenGoClose] | 2 => [execOpenGoMove] | _ => [])
  else if a = R.LS_GO.at then
    (match bit 2 with | 0 => [execLsGoAdd] | 1 => [execLsGoDrop (Fin.ofNat 64 (fieldOf v 16 6))] | _ => [])
  else if a = R.TEAM_GO.at then (match bit 2 with | 0 => [execTeamGoOpen] | 1 => [execTeamGoClose] | _ => [])
  else if a = R.SUB_GO.at then
    (match bit 2 with | 0 => [execSubGoAdd] | 1 => [execSubGoDrop (Fin.ofNat 256 (fieldOf v 16 8))] | _ => [])
  else if a = R.SHED_ACC_GO.at then (match bit 2 with | 0 => [execShedAccLoad] | 1 => [execShedAccStore] | _ => [])
  else if a = R.STE_GO.at then (match bit 2 with | 0 => [execSteGoRun] | 1 => [execSteGoStop] | _ => [])
  else if a = R.UPD_GO.at then (if bitOf v 0 then updAct (c.fld R.UPD_STAGE.at 0 3) else [])
  else if a = R.MEAS_CTL.at then [execMeasGo]
  else if a = R.TWB_MST_CTL.at then [execTwbMstGo]
  else if R.STEP_GO.covers a then
    let i := Fin.ofNat 3 (a / 4096 - 3)
    (match bit 2 with | 0 => [execStepGoAdd i] | 1 => [execStepGoCancelAll i] | _ => [])
  else
    let n := Fin.ofNat 256 ((a - 0x20000) / 256)
    (match bit 4 with
     | 0 => [execHsSeekNow n]
     | 1 => [execHsGoto n (Fin.ofNat 64 (fieldOf v 8 6))]
     | 2 => [execHsReturn n]
     | 3 => [execHsCancel n]
     | _ => [])

/-- The GO words that execute in this tick. -/
def Core.goDue (c : Core) : List Act :=
  c.goLatch.flatMap (fun e => match e.2 with | some v => goActs c e.1 v | none => [])

/-! ### Posted writes and ring commands (R38, R47, R251, R252) -/

/-- The posted writes of a port, in arrival order, at most 128 in a tick. -/
def Core.portWrites (c : Core) (port : Port) : List Act :=
  ((c.posted.filter (fun x => decide (x.port = port))).take 128).map (fun x => execRegisterWrite x.port x.addr x.value)

/-- The posted writes that wait for a later tick. -/
def Core.postedRest (c : Core) : List Posted :=
  [Port.hrp, .pcie, .twb].flatMap (fun port => (c.posted.filter (fun x => decide (x.port = port))).drop 128)

/-- One ring command starts, unless a register GO of its block executes in this tick (R251, R252). -/
def commandStart (latch : Table (Option Word)) : Act := fun s =>
  match s.core.fetched with
  | [] => .next s
  | f :: rest =>
    if (commandGos f.bytes).any (fun a => (Table.get (fun _ => none) latch a).isSome) then .next s
    else
      let t := { s with core := { s.core with fetched := rest } }
      match commandOf f.bytes false with
      | none => t.run (fun c => c.rejectCommand f.bytes (badStatus f.bytes))
      | some _ => withOpen (fun nor s => match commandOf f.bytes nor with | some g => g s | none => .next s) t

/-- The first part of a tick. -/
def writesPart (s : State) : Host.Outcome State Fault Refusal :=
  let c := s.core
  let tracks : List (Fin 4) := [0, 1, 2, 3]
  let grids := tracks.flatMap (fun k => [execTrackJumpStart k, execEpochBoundary k, execStepHoldEnd k])
  let losses := (tracks.filter (fun k : Fin 4 => decide (c.trkSrc k = 1 ∨ c.trkSrc k = 2))).map execTrackLoss
  let latch := c.goLatch
  let acts := losses ++ grids ++ [execInitialLowTimeout, execGuardWindowExpire] ++ c.goDue ++
    c.portWrites .hrp ++ c.portWrites .pcie ++ c.portWrites .twb ++ [commandStart latch]
  runActs acts { s with core := { c with goLatch := [], posted := c.postedRest }, phase := .writes }

/-! ### What has fallen due (R49, R69) -/

/-- Openings and closings in placement order. -/
def schedActs (l : List Sched) : List Act :=
  l.map (fun e => if e.opens then execStallOpenDue (Fin.ofNat 256 e.stall) else execStallCloseEffect (Fin.ofNat 256 e.stall))

/-- Scheduled actions of track `k`: timetable entries by index, then openings and closings. -/
def Core.trackActs (c : Core) (k : Nat) : List Act :=
  (c.tt.filter (fun e => decide (e.2.track = k) && c.entryDue e.1)).map (fun e => execTtFire (Fin.ofNat 512 e.1)) ++
    schedActs (c.sched.filter (fun e => e.due.isNone && decide (e.track = k)))

/-- The inputs. -/
def inputs : List (Fin 3) := [0, 1, 2]

/-- A tick number has come. -/
def Core.come (c : Core) (t : Option Nat) : Bool := match t with | some x => decide (x ≤ c.now) | none => false

/-- A STOPPED stall whose RUN stands at 1 starts (R134). -/
def standingRun (n : Fin 256) : Act := fun s =>
  if s.core.stState n = 4 ∧ bitOf (s.core.reg (R.ST_CTRL.at n)) 0 = true ∧ (s.core.stallRec n).stoppedAt < s.core.now then
    execStallRun .action n (s.core.reg (R.ST_CTRL.at n)) s
  else .next s

/-- What stall `n` does of itself. -/
def Core.stallActs (c : Core) (m : Nat) : List Act :=
  let n := Fin.ofNat 256 m
  let ages := (List.range 40).filter (fun e => decide (c.afKind m e ≠ 0))
  [execSettleEnd n, execStallMoveComplete n, execHoistSwitch n, execHoistFadeEnd n, execHoldEnd n] ++
    (if c.stState m = 6 ∧ c.come (c.stallRec m).drainBy = true then [execStallClosingDone n] else []) ++
    (if c.stState m = 4 then [standingRun n] else []) ++
    (if c.stState m = 7 then [execFaultRecover n] else []) ++
    (if (c.stallRec m).retry.isSome then [execStallMovePlace n] else []) ++
    (if c.cls m = 6 then [execTcMarkLoss n] else []) ++
    ages.flatMap (fun e => [execBarTimeEnd n (Fin.ofNat 40 e), execAfEntryAge n (Fin.ofNat 40 e)])

/-- What the scouts do of themselves. -/
def Core.scoutActs (c : Core) : List Act :=
  execScoutVisitStart :: (c.scouts.filter (fun e => decide (e.2.use ≠ 0))).flatMap (fun e =>
    [execScoutVisitEnd (Fin.ofNat 64 e.1), execIdTimeout (Fin.ofNat 64 e.1)])

/-- A slice of the self-test engine ends, or one may start (R424, R429). -/
def Core.sliceDue (c : Core) : Bool :=
  match c.ste.run with
  | some r => !c.sliceActive || decide (r.began + c.fld R.STE_CFG.at 0 12 ≤ c.now)
  | none => true

/-- What the other blocks do of themselves. -/
def Core.blockActs (c : Core) : List Act :=
  inputs.map execRfWakeDone ++ [execAirFrameBoundary, execAirSlotBoundary, execDlRunStart, execAfcWrite] ++
    (c.peers.filter (fun e => decide (e.2.st = 2))).map (fun e => execPeerLost (Fin.ofNat 4096 e.1)) ++
    [execTxEnd, execTurnRxEnd, execTxTurnStart, execTxRequest, execBgcalApply none, execBgcalWait, execDutyBucketEnd] ++
    ((List.range 8).map (fun p => execSapMaskApply (Fin.ofNat 8 p))) ++ [execPtpTimeout, execPenDatagram] ++
    [execCheckUnitTake, execCheckStart, execCheckCopy] ++ (if c.sliceDue then [execSteSlice] else []) ++
    [execCalApply, execHistSample, withOpen execLbPeriodicRecord, execOfferTimeout, execNotReady, execHandover, execHandback false,
     withOpen execAutoConfirm, execCpSwap] ++
    (if c.now % 1024 = 0 then (List.range 29).map (fun p => execPageCheckCompare (Fin.ofNat 29 p)) else []) ++
    [execDeviceReady, execBootProfileApply]

/-- The second part of a tick. -/
def duePart (s : State) : Host.Outcome State Fault Refusal :=
  let c := s.core
  let acts := c.trackActs 0 ++ c.trackActs 1 ++ c.trackActs 2 ++ c.trackActs 3 ++ schedActs (c.sched.filter (fun e => e.due.isSome)) ++
    inputs.map execGainStepLand ++ inputs.map execGainStepCommit ++ c.openStalls.flatMap c.stallActs ++ c.scoutActs ++ c.blockActs
  runActs acts { s with phase := .schedule }

/-! ### The end of a tick -/

/-- What the blocks do at the start of a tick. -/
def Core.startTick (old c : Core) : Core :=
  let c0 := Core.attnClock old c
  let due := (List.range 72).filter (Core.vectorDue old c)
  let c1 := { c0 with now := c.now + 1, out := [], hwSet := [], applied := [], eoi := 0, rearm := [], again := [], ringWasFull := false,
                      resets := c0.resets.filter (fun e => decide (e.1 = c.now)) }
  let c2 := (due.foldl Core.sendVector c1).driveInt old c
  (((c2.synthClock.radioClock).guardClock).checkClock).updClock.takeFreezes

/-- The next tick starts (R49): the image that reads are answered from is taken, and the reads that waited are answered. -/
def State.advance (s : State) : State :=
  let c1 := (Core.startTick s.image s.core).logClock
  let c2 := c1.answerReads.regWriteResults
  { s with core := c2, image := c2, phase := .events }

/-- The third part of a tick: synchronising resets of the tick that starts come first in it. -/
def visiblePart (s : State) : Host.Outcome State Fault Refusal :=
  let c := s.core
  let acts := (if c.cmdShed && c.canFetch then [execCommandFetch []] else []) ++ [execQueueEntryVisible] ++
    ((c.queues.filter (fun e => !e.2.hold.isEmpty)).map (fun e => execHoldDrain (Fin.ofNat 64 e.1))) ++
    ((c.queues.filter (fun e => c.notifyDue e.1)).map (fun e => execNotifyTimeout (Fin.ofNat 64 e.1)))
  match runActs acts s with
  | .next t =>
    let u := t.advance
    runActs ((u.core.openStalls.filter (fun n => decide ((u.core.stallRec n).syncAt = some u.core.now))).map
      (fun n => execSyncReset (Fin.ofNat 256 n))) u
  | o => o

/-- While Yard time does not run there are no ticks: posted writes are applied at once and their reads answered (log entry 33). -/
def standingPart (s : State) : Host.Outcome State Fault Refusal :=
  let c := s.core
  let c1 := { c with posted := c.postedRest, out := [], hwSet := [], applied := [], eoi := 0 }
  match runActs (c.portWrites .hrp ++ c.portWrites .pcie ++ c.portWrites .twb) { s with core := c1 } with
  | .next t => .next { t with core := t.core.answerReads }
  | o => o

/-- What the block does when no command waits. -/
def idle (s : State) : Host.Outcome State Fault Refusal :=
  if s.core.yardRuns then
    match s.phase with
    | .events => writesPart s
    | .writes => duePart s
    | .schedule => visiblePart s
  else standingPart s

end Sys2Proof.Machine
end

