-- ==== Sys2Proof/Safety.lean ====
section
/-! DEFINITION. The terms that statements use: what a command leaves as it was, when a write meets nothing in its way, and the
invariant that every step keeps. -/

namespace Sys2Proof.Machine

/-- Every register of `d` but those listed holds what it holds in `c`. -/
def Core.KeepsRegs (c d : Core) (but : List Nat) : Prop := ∀ a, a ∉ but → d.reg a = c.reg a

/-- Every register outside the pages listed holds what it holds in `c`: a window of stall n counts as the page of its home. -/
def Core.KeepsPages (c d : Core) (pages : List Nat) : Prop := ∀ a, a / 4096 ∉ pages → d.reg a = c.reg a

/-- Every stall but `n` stays in its state (R134). -/
def Core.KeepsStalls (c d : Core) (n : Nat) : Prop := ∀ m : Fin 256, m.val ≠ n → d.stState m = c.stState m

/-- Every byte of the Shed reads the same. -/
def Core.KeepsShed (c d : Core) : Prop := ∀ a, d.shedByte a = c.shedByte a

/-- The parts of a device that a command changes: what `part` takes over from the new device, and the registers with the marks of what
hardware and ports wrote in this tick. -/
def Core.Only (c d : Core) (part : Core → Core → Core) : Prop :=
  d = { part c d with regs := d.regs, hwSet := d.hwSet, applied := d.applied }

/-- The frame of a command that stores nothing in the Shed: from `s` to `t` every register but those in `but` is unchanged, every byte of
the Shed reads as before, and of the rest only what `part` takes over from `t` may differ. -/
def State.Frame (s t : State) (but : List Nat) (part : Core → Core → Core := fun c _ => c) : Prop :=
  s.core.KeepsRegs t.core but ∧ s.core.KeepsShed t.core ∧ s.core.Only t.core part ∧ t = { s with core := t.core }

/-- Every byte of the Shed outside the ranges listed, each a first address and a length, reads the same. -/
def Core.KeepsShedOutside (c d : Core) (l : List (Nat × Nat)) : Prop :=
  ∀ a, (∀ e ∈ l, a < e.1 ∨ e.1 + e.2 ≤ a) → d.shedByte a = c.shedByte a

/-- The frame of a command that stores in the Shed: as `State.Frame`, with every byte outside the ranges `l` reading as before. -/
def State.StoreFrame (s t : State) (but : List Nat) (l : List (Nat × Nat)) (part : Core → Core → Core) : Prop :=
  s.core.KeepsRegs t.core but ∧ s.core.KeepsShedOutside t.core l ∧ s.core.Only t.core part ∧ t = { s with core := t.core }

/-- A write of register `a` from `port` is not discarded by the boot rule (R400) or by a reset of the block (R69), and no port of higher
rank has written it in this tick (R47). -/
def Core.Free (c : Core) (port : Port) (a : Nat) : Prop :=
  c.bootBlocks port (a / 4096) = false ∧ c.inReset (a / 4096) = false ∧ c.takenBits port a = 0

/-- The Shed keeps its canonical form, in the device and in the image that host reads are answered from. -/
def State.Inv (s : State) : Prop := Memory.wf s.core.shed = true ∧ Memory.wf s.image.shed = true

/-- The machine goes on: a step neither faults nor refuses. -/
def State.Goes (s : State) : Prop := ∃ t, step s = .next t

end Sys2Proof.Machine
end

