-- ==== Sys2Proof/WellFormed.lean ====
section
/-! DEFINITION. Which commands the device can meet: operands that the syntax leaves wider than the field that carries them fit it, and
lists have the length that the manual gives them. -/

namespace Sys2Proof

/-- The common part of a ring command fits its fields (R250). -/
def CmdHead.wellFormed (h : CmdHead) : Bool := decide (h.seq < 2 ^ 16) && decide (h.phase < 2 ^ 16) && decide (h.epoch < 2 ^ 32)

/-- Every operand fits the field that carries it. -/
def Instr.wellFormed (i : Instr) : Bool :=
  match i with
  | .registerWrite _ addr _ => decide (addr < 2 ^ 20)
  | .eventClear _ _ _ => true
  | .eventForce _ _ _ => true
  | .pageEnable _ _ _ => true
  | .pageSoftReset _ _ _ => true
  | .pageFreeze _ _ _ => true
  | .pageLock _ _ _ => true
  | .pageCheckCompare _ => true
  | .irqEoi _ _ => true
  | .msixReenable _ => true
  | .hrpWriteCycle _ _ _ => true
  | .hrpProto _ => true
  | .pcieBar0Write _ _ _ _ => true
  | .pcieBar0Read _ _ _ => true
  | .pcieBar2Write offset bytes => decide (offset + bytes.length ≤ 2 ^ 34)
  | .pcieBar2Read offset len => decide (offset + len ≤ 2 ^ 34)
  | .pciePoisonedWrite _ _ => true
  | .pcieReset _ => true
  | .trackEdge _ _ => true
  | .trackLoss _ => true
  | .filledMark _ _ => true
  | .epochBoundary _ => true
  | .trackJumpStart _ => true
  | .stepHoldEnd _ => true
  | .trkSrcWrite _ _ _ => true
  | .trkStallWrite _ _ _ => true
  | .trkEpochArm _ _ _ => true
  | .ttGoAdd => true
  | .ttGoCancel _ => true
  | .ttFire _ => true
  | .tsQuery _ _ => true
  | .rfPowerWrite _ _ _ => true
  | .rfWakeDone _ => true
  | .agcModeWrite _ _ _ => true
  | .stepGoAdd _ => true
  | .stepGoCancelAll _ => true
  | .gainStepCommit _ => true
  | .gainStepLand _ => true
  | .adcClip _ count => decide (0 < count) && decide (count ≤ 768)
  | .levelWindowEnd w => decide (w.binsA.length = 192) && decide (w.binsB.length = 192)
  | .toneCtrlWrite _ _ _ => true
  | .syncReset _ => true
  | .settleEnd _ => true
  | .winSelWrite _ _ _ => true
  | .firCtlWrite _ _ _ => true
  | .coefWrite _ _ _ _ => true
  | .dcCfgWrite _ _ _ => true
  | .detectorCfgWrite _ _ _ _ _ => true
  | .detectorBlockEnd _ _ _ _ => true
  | .binSat _ _ count _ => decide (0 < count)
  | .fastLevelPublish _ _ _ => true
  | .gaitWindowPublish _ _ => true
  | .mrcWeightUpdate _ _ _ => true
  | .openGoOpen => true
  | .openGoClose => true
  | .openGoMove => true
  | .stallOpenDue _ => true
  | .stallCloseEffect _ => true
  | .stallClosingDone _ => true
  | .stallRun _ _ _ => true
  | .stallResync _ _ _ => true
  | .stClassWrite _ _ _ => true
  | .stFreqWrite _ _ _ => true
  | .stAntWrite _ _ _ => true
  | .stPresetWrite _ _ _ => true
  | .stRouteWrite _ _ _ => true
  | .stallMoveComplete _ => true
  | .memoryUe _ => true
  | .faultRecover _ => true
  | .checkUnitTake => true
  | .fmCfgWrite _ _ _ => true
  | .amCfgWrite _ _ _ => true
  | .noiseBlank _ => true
  | .pilotChange _ _ _ => true
  | .rdsBlock _ _ _ _ _ _ => true
  | .mpxPowerUpdate _ _ _ _ _ => true
  | .devHistPeriodEnd _ bins _ => decide (bins.length = 64)
  | .carrierLockChange _ _ _ _ _ => true
  | .amssBlock _ _ _ _ _ => true
  | .dabSyncChange _ _ _ _ => true
  | .dabFrameStart _ _ _ _ => true
  | .fibDecode _ _ bytes _ _ => decide (bytes.length = 32)
  | .mscFrame _ _ _ _ _ _ => true
  | .dabSuperframe _ _ _ _ _ _ _ => true
  | .dabReconfig _ _ => true
  | .tiiWindowEnd _ _ _ _ => true
  | .alarmStart _ _ => true
  | .alarmEnd _ _ => true
  | .drmSyncChange _ _ _ _ _ => true
  | .drmFac _ _ _ => true
  | .drmSdc _ _ _ _ _ _ => true
  | .drmMscFrame _ _ _ _ _ _ => true
  | .tcMark _ _ _ _ => true
  | .tcGap _ _ => true
  | .tcMarkLoss _ => true
  | .tcMinute _ _ _ => true
  | .tcCfgWrite _ _ _ => true
  | .lsGoAdd => true
  | .lsGoDrop _ => true
  | .decodeFrame _ _ _ _ _ => true
  | .hsEnWrite _ _ _ => true
  | .hsSeekNow _ => true
  | .hsGoto _ _ => true
  | .hsReturn _ => true
  | .hsCancel _ => true
  | .hoistWindow _ _ => true
  | .scoutVisitStart => true
  | .scoutVisitEnd _ => true
  | .idTimeout _ => true
  | .alignWindow _ _ => true
  | .hoistSwitch _ => true
  | .hoistFadeEnd _ => true
  | .holdEnd _ => true
  | .afEntryAge _ _ => true
  | .afEntryWrite _ _ _ _ _ => true
  | .measGo => true
  | .measDone _ _ => true
  | .queueEntryVisible => true
  | .holdDrain _ => true
  | .notifyTimeout _ => true
  | .qConsWrite _ _ _ => true
  | .qEnableWrite _ _ _ => true
  | .routeWrite _ _ _ => true
  | .commandFetch entry => decide (entry.length = 32)
  | .nop h => h.wellFormed
  | .regWrite h addr _ _ => h.wellFormed && decide (addr < 2 ^ 24)
  | .regRead h addr => h.wellFormed && decide (addr < 2 ^ 24)
  | .stallOpen h _ cls ant _ _ _ route => h.wellFormed && decide (cls < 256) && decide (ant < 256) && decide (route < 2 ^ 16)
  | .stallClose h _ => h.wellFormed
  | .stallMove h _ => h.wellFormed
  | .stallRetune h _ ant _ iq => h.wellFormed && decide (ant < 256) && decide (iq < 256)
  | .ttAdd h _ action rept target _ _ => h.wellFormed && decide (action < 16) && decide (rept < 256) && decide (target < 2 ^ 24)
  | .ttCancel h index => h.wellFormed && decide (index < 2 ^ 16)
  | .stepAdd h page setting => h.wellFormed && decide (page < 256) && decide (setting < 256)
  | .lsAdd h _ team comp _ => h.wellFormed && decide (team < 256) && decide (comp < 256)
  | .lsDrop h index => h.wellFormed && decide (index < 256)
  | .hoistCmd h _ ops entry => h.wellFormed && decide (ops < 256) && decide (entry < 256)
  | .routeSet h typ byte => h.wellFormed && decide (typ < 256) && decide (byte < 256)
  | .memberUnderrun _ _ _ _ _ => true
  | .memberResume _ _ _ => true
  | .bayBlockClose _ _ _ _ _ => true
  | .teamGoOpen => true
  | .teamGoClose => true
  | .subGoAdd => true
  | .subGoDrop _ => true
  | .teamOpen h team lat => h.wellFormed && decide (team < 256) && decide (lat < 256)
  | .teamClose h team => h.wellFormed && decide (team < 256)
  | .subAdd h kind srcKind source sel queue => h.wellFormed && decide (kind < 256) && decide (srcKind < 256) && decide (source < 256) && decide (sel < 256) && decide (queue < 256)
  | .subDrop h index => h.wellFormed && decide (index < 256)
  | .sapMap h port slot value => h.wellFormed && decide (port < 256) && decide (slot < 256) && decide (value < 2 ^ 16)
  | .sapMask h port _ => h.wellFormed && decide (port < 256)
  | .aesMap h stream channel value => h.wellFormed && decide (stream < 256) && decide (channel < 256) && decide (value < 2 ^ 16)
  | .aesEn h stream _ => h.wellFormed && decide (stream < 256)
  | .sapEnable _ _ _ => true
  | .sapMapWrite _ _ _ _ => true
  | .sapMaskWrite _ _ _ => true
  | .sapMaskApply _ => true
  | .sapClkLoss _ => true
  | .asrcLock _ _ _ _ => true
  | .ptpSync _ => true
  | .ptpTimeout => true
  | .ethFrameRx _ _ _ _ => true
  | .aesPacket _ _ _ _ => true
  | .penDatagram => true
  | .shedAccLoad => true
  | .shedAccStore => true
  | .wrModeWrite _ _ => true
  | .wrChannelWrite _ _ => true
  | .syn1CalEnd _ => true
  | .wrFofsWrite _ _ => true
  | .txRequest => true
  | .txTurnStart => true
  | .txEnd => true
  | .turnRxEnd => true
  | .txCut _ => true
  | .wrAgcBlock clips _ _ => decide (clips ≤ 96)
  | .wrGManWrite _ _ => true
  | .wrTestGo _ _ => true
  | .bgcalApply _ => true
  | .bgcalWait => true
  | .dutyBucketEnd => true
  | .syn1Unlock => true
  | .rlSoftWrite _ _ _ => true
  | .preambleDetect _ _ => true
  | .falseStart _ _ _ => true
  | .frameLock _ _ _ _ _ _ _ _ => true
  | .frameRxEnd _ _ _ header _ _ _ _ => decide (header.length = 4)
  | .airSlotBoundary => true
  | .airFrameBoundary => true
  | .dlRunStart => true
  | .afcWrite => true
  | .peerLost _ => true
  | .wlCfgWrite _ _ => true
  | .wlMaskWrite _ _ _ => true
  | .wlSend h _ portNo flags len place addr => h.wellFormed && decide (portNo < 256) && decide (flags < 256) && decide (len < 256) && decide (place < 256) && decide (addr < 2 ^ 40)
  | .wlPeerAdd h _ lane sf _ => h.wellFormed && decide (lane < 256) && decide (sf < 256)
  | .wlPeerDel h _ => h.wellFormed
  | .wlRoute h entry _ _ _ _ => h.wellFormed && decide (entry < 256)
  | .wlForward h _ hop len addr => h.wellFormed && decide (hop < 256) && decide (len < 256) && decide (addr < 2 ^ 40)
  | .syn0Lock _ _ => true
  | .syn0Unlock _ => true
  | .syn0Resume _ => true
  | .refLoss _ => true
  | .refGood _ => true
  | .syn0DiscWrite _ _ => true
  | .syn2Relock _ => true
  | .syn2Resume _ => true
  | .mclkCfgWrite _ _ => true
  | .clkoutCfgWrite _ _ => true
  | .ptrSet _ _ => true
  | .writeAt _ _ => true
  | .readAt _ _ _ => true
  | .writeSeq _ _ => true
  | .readSeq _ _ _ => true
  | .status _ _ _ => true
  | .twbTimeout => true
  | .busFree _ => true
  | .twbAddrWrite _ _ => true
  | .attnMessage _ _ _ => true
  | .attnRetry _ _ _ => true
  | .twbMstGo => true
  | .mstTransfer _ _ _ => true
  | .powerOnReset _ => true
  | .brownout _ => true
  | .pinReset _ => true
  | .clockFault => true
  | .watchdog => true
  | .thermal _ => true
  | .devReset _ _ => true
  | .fuseLoad _ _ => true
  | .imageSelect _ _ => true
  | .powerupCalibration _ => true
  | .startupUnitTest _ _ => true
  | .bootProfileApply => true
  | .deviceReady => true
  | .calApply => true
  | .bgcalCycle _ _ => true
  | .calRun h _ _ => h.wellFormed
  | .calStore h _ => h.wellFormed
  | .calRestore h _ _ => h.wellFormed
  | .eccCorrected _ => true
  | .scrubRead _ _ => true
  | .norRefresh _ => true
  | .checkStart => true
  | .checkCopy => true
  | .checkEnd _ => true
  | .steSlice => true
  | .steYield => true
  | .steRunEnd _ => true
  | .steGoRun => true
  | .steGoStop => true
  | .steRun h region _ count => h.wellFormed && decide (region < 2 ^ 16) && decide (count < 2 ^ 32)
  | .steStop h => h.wellFormed
  | .checkNow h _ => h.wellFormed
  | .eccInject _ _ => true
  | .scanEnable _ _ => true
  | .updGoOffer _ => true
  | .updGoBlock _ => true
  | .updGoVerify => true
  | .updGoActivate => true
  | .updGoConfirm _ => true
  | .updGoAbort => true
  | .updOffer h addr _ => h.wellFormed && decide (addr < 2 ^ 40)
  | .updBlock h index addr _ => h.wellFormed && decide (index < 2 ^ 16) && decide (addr < 2 ^ 40)
  | .updVerify h => h.wellFormed
  | .updActivate h => h.wellFormed
  | .updConfirm h _ => h.wellFormed
  | .updAbort h => h.wellFormed
  | .offerTimeout => true
  | .chainPoll _ => true
  | .chainBlock _ data => (match data with | some l => decide (l.length = 4096) | none => true)
  | .verifyEnd _ => true
  | .standbyReady _ _ => true
  | .handover => true
  | .handback _ => true
  | .autoConfirm _ => true
  | .cpSwap => true
  | .profileSave h profile n addr _ => h.wellFormed && decide (profile < 256) && decide (n < 2 ^ 16) && decide (addr < 2 ^ 40)
  | .profileErase h profile _ => h.wellFormed && decide (profile < 256)
  | .profileSetBoot h profile _ => h.wellFormed && decide (profile < 256)
  | .lcAdvance h target => h.wellFormed && decide (target < 256)
  | .fuseReglock h id b0 b1 b2 _ => h.wellFormed && decide (id &&& 0x1FFF = id) && decide (b0 &&& 0xFFFF00FF = b0) && decide (b1 &&& 0xFFFF00FF = b1) && decide (b2 &&& 0xFFFF00FF = b2)
  | .keyProgram h slot addr => h.wellFormed && decide (slot < 256) && decide (addr < 2 ^ 40)
  | .keyRevoke h slot => h.wellFormed && decide (slot < 256)
  | .presencePress _ => true
  | .initialLowTimeout => true
  | .guardWindowExpire => true
  | .guardClose _ _ => true
  | .sealCheck _ => true
  | .lbPeriodicRecord _ => true
  | .lbEraseDone _ => true
  | .histSample => true
  | .pwrfail _ => true
  | .lbSelWrite _ _ => true
  | .lbSnapshot h _ => h.wellFormed
  | .lbDump h addr => h.wellFormed && decide (addr < 2 ^ 40)
  | .lbRecord h age addr => h.wellFormed && decide (age < 2 ^ 16) && decide (addr < 2 ^ 40)
  | .gpioEdge _ => true
  | .stallMovePlace _ => true
  | .ethLinkChange _ => true
  | .pcieLinkUp _ width => (decide (width = 1) || decide (width = 2) || decide (width = 4))
  | .notReady => true
  | .barTimeEnd _ _ => true

end Sys2Proof
end

