-- ==== Sys2Proof/Certificates/Slice0/Obligations.lean ====
section
/-! DEFINITION. The statements for the provers. The rule numbers at the head of a docstring name the rules that the clauses are
drawn from; a statement gives the clauses written here, and a rule whole only where OBLIGATIONS.json gives it the basis "stated". Where
clauses rest on a reading or a choice of the model's own, the docstring names the entries of the assumption log: such a clause is no
rule of the spec. -/

open Sys2Proof Sys2Proof.Machine

/-! ### The queue and the machine as a whole -/

/-- A step with a command at the front of the queue is that command's effect on the machine with the queue's rest. -/
def Obligations.StepRunsTheFrontCommand : Prop :=
  ∀ (s : State) (c : Instr) (rest : List Instr), step { s with pending := c :: rest } = exec c { s with pending := rest }

/-- Every command, with every operand, in every state, answers a next state and leaves the queue of waiting commands as it is: the manual stops
no operation of the table. A step never stops the machine, whether a command waits or the tick goes on.
Clauses may rest on the readings of log entries 7 and 33. -/
def Obligations.EveryCommandCompletes : Prop :=
  (∀ (i : Instr) (s : State), ∃ t, exec i s = .next t ∧ t.pending = s.pending) ∧ ∀ s : State, s.Goes

/-- The Shed keeps its canonical form (log entry 5): a step from a machine whose device and image hold it so leaves both so. -/
def Obligations.EveryStepKeepsTheShedCanonical : Prop := ∀ s t : State, s.Inv → step s = .next t → t.Inv

/-- The machine after reset has the invariant, Yard time has not started (R48), no register differs from its reset value (R10), no command
waits and nothing is posted, queued or listed in the Shed.
Clauses may rest on the readings of log entries 3 and 9. -/
def Obligations.ResetIsQuiet : Prop :=
  State.reset.Inv ∧ State.reset.pending = [] ∧ State.reset.core.yardRuns = false ∧ State.reset.core.now = 0 ∧
  State.reset.core.posted = [] ∧ State.reset.core.fetched = [] ∧ State.reset.core.shed = [] ∧
  ∀ a, State.reset.core.reg a = resetValue a

/-! ### Pages, events and the ports -/

/-- R22 to R25, R29: a clear leaves the flags that hardware set in the same tick; a force sets them as hardware would; the first 1 written to
LOCK locks the page and captures its check value; a lock is not undone; the comparison reports the first mismatch under lock and nothing else.
Clauses may rest on the readings of log entries 4 and 7. -/
def Obligations.EventFlagsAndPageLocks : Prop :=
  (∀ (s : State) (port : Port) (src : Source) (v : Word), s.core.Free port (sourceEvent src) →
    ∃ t, exec (.eventClear port src v) s = .next t ∧
      t.core.reg (sourceEvent src) =
        s.core.reg (sourceEvent src) &&& ~~~ (v &&& ~~~ Table.get (fun _ => 0) s.core.hwSet (sourceEvent src)) ∧
      s.Frame t [sourceEvent src]) ∧
  (∀ (s : State) (port : Port) (p : Fin 29) (v : Word), s.core.Free port (R.PG_EVENT_FORCE.at p) →
    ∃ t, exec (.eventForce port p v) s = .next t ∧
      t.core.reg (R.PG_EVENT.at p) = s.core.reg (R.PG_EVENT.at p) ||| v ∧
      Table.get (fun _ => 0) t.core.hwSet (R.PG_EVENT.at p) = Table.get (fun _ => 0) s.core.hwSet (R.PG_EVENT.at p) ||| v ∧
      s.Frame t [R.PG_EVENT.at p]) ∧
  (∀ (s : State) (port : Port) (p : Fin 29) (v : Word), s.core.Free port (R.PG_LOCK.at p) → bitOf v 0 = true → s.core.locked p = false →
    ∃ t, exec (.pageLock port p v) s = .next t ∧
      t.core.locked p = true ∧ Table.get (fun _ => 0) t.core.captured p = s.core.pageCrc p ∧
      s.Frame t [R.PG_LOCK.at p] (fun c d => { c with captured := d.captured })) ∧
  (∀ (s : State) (port : Port) (p : Fin 29) (v : Word), s.core.Free port (R.PG_LOCK.at p) → bitOf v 0 = false ∨ s.core.locked p = true →
    ∃ t, exec (.pageLock port p v) s = .next t ∧ s.Frame t []) ∧
  (∀ (s : State) (p : Fin 29), s.core.locked p = true → s.core.pageCrc p ≠ Table.get (fun _ => 0) s.core.captured p →
    bitOf (s.core.reg (R.PG_STATUS.at p)) 3 = false →
    ∃ t, exec (.pageCheckCompare p) s = .next t ∧
      bitOf (t.core.reg (R.PG_STATUS.at p)) 3 = true ∧ t.core.reg (R.PG_EVENT.at p) = s.core.reg (R.PG_EVENT.at p) ||| bit 30 ∧
      s.Frame t [R.PG_STATUS.at p, R.PG_EVENT.at p]) ∧
  (∀ (s : State) (p : Fin 29), s.core.locked p = false ∨ s.core.pageCrc p = Table.get (fun _ => 0) s.core.captured p ∨
    bitOf (s.core.reg (R.PG_STATUS.at p)) 3 = true → exec (.pageCheckCompare p) s = .next s)

/-- R19: ENABLE and FREEZE of a page follow the word written, FREEZE takes what it holds at the end of the tick in which it rises, and a
soft reset returns the page's control word and event enables to their reset values and marks the page as resetting in the next tick.
What pages refuse (ENABLE = 0 and soft resets of R19, R20) sets REFUSED and changes nothing else.
Clauses may rest on the readings of log entries 15, 16 and 17. -/
def Obligations.PageControlFollowsTheWord : Prop :=
  (∀ (s : State) (port : Port) (p : Fin 29) (v : Word), s.core.Free port (R.PG_CTRL.at p) → s.core.ctrlRefused p v = true →
    (∃ t, exec (.pageEnable port p v) s = .next t ∧ t.core.reg (R.PG_EVENT.at p) = s.core.reg (R.PG_EVENT.at p) ||| bit 31 ∧
      s.Frame t [R.PG_EVENT.at p])) ∧
  (∀ (s : State) (port : Port) (p : Fin 29) (v : Word), s.core.Free port (R.PG_CTRL.at p) → s.core.ctrlRefused p v = false →
    bitOf v 1 = false → bitOf v 2 = bitOf (s.core.reg (R.PG_CTRL.at p)) 2 →
    (∃ t, exec (.pageEnable port p v) s = .next t ∧ t.core.reg (R.PG_CTRL.at p) = v &&& 5 ∧ s.Frame t [R.PG_CTRL.at p])) ∧
  (∀ (s : State) (port : Port) (p : Fin 29) (v : Word), s.core.Free port (R.PG_CTRL.at p) → s.core.ctrlRefused p v = false →
    bitOf v 1 = true →
    (∃ t, exec (.pageSoftReset port p v) s = .next t ∧ (s.core.now, p.val) ∈ t.core.resets ∧
      t.core.reg (R.PG_CTRL.at p) = resetValue (R.PG_CTRL.at p) ∧
      t.core.reg (R.PG_EVENT_EN.at p) = resetValue (R.PG_EVENT_EN.at p))) ∧
  (∀ (s : State) (port : Port) (p : Fin 29) (v : Word), s.core.Free port (R.PG_CTRL.at p) → s.core.ctrlRefused p v = false →
    bitOf v 1 = false → bitOf v 2 = true → bitOf (s.core.reg (R.PG_CTRL.at p)) 2 = false →
    (∃ t, exec (.pageFreeze port (.page p) v) s = .next t ∧ t.core.reg (R.PG_CTRL.at p) = v &&& 5 ∧
      t.core.freezing = s.core.freezing ++ [R.PG_CTRL.at p] ∧
      s.Frame t [R.PG_CTRL.at p] (fun c d => { c with freezing := d.freezing }))) ∧
  (∀ (s : State) (port : Port) (n : Fin 256) (v : Word), s.core.Free port (R.ST_CTRL.at n) →
    (s.core.live n = true → bitOf v 0 = true) → (s.core.stState n = 4 → bitOf v 0 = false) →
    bitOf v 1 = false → bitOf v 2 = true → bitOf (s.core.reg (R.ST_CTRL.at n)) 2 = false →
    (∃ t, exec (.pageFreeze port (.stall n) v) s = .next t ∧ bitOf (t.core.reg (R.ST_CTRL.at n)) 2 = true ∧
      t.core.freezing = s.core.freezing ++ [R.ST_CTRL.at n] ∧
      s.Frame t [R.ST_CTRL.at n] (fun c d => { c with freezing := d.freezing })))

/-- R16, R24, R46, R47, R74: a posted write of a register without a rule of its own stores what the register's fields take; a page lock keeps
its RWL fields and reports the attempt; a reserved address stores nothing and is captured; a query of a stall's timestamp selects what the query
registers show, and changes nothing else.
Clauses may rest on the readings of log entries 6, 37 and 42. -/
def Obligations.RegisterWritesStoreLockAndReject : Prop :=
  (∀ (s : State) (port : Port) (a : Nat) (v : Word) (r : RegRow) (h : Nat), s.core.target s.view port a = some (r, h, plainWrite r h) →
    s.core.Free port h → s.core.locked (h / 4096) = false →
    ∃ t, exec (.registerWrite port a v) s = .next t ∧
      t.core.reg h = r.merge (Table.get (fun _ => 0) s.core.hwSet h) (s.core.reg h) v ∧ s.Frame t [h]) ∧
  (∀ (s : State) (port : Port) (a : Nat) (v : Word) (r : RegRow) (h : Nat), s.core.target s.view port a = some (r, h, plainWrite r h) →
    s.core.Free port h → s.core.locked (h / 4096) = true → r.rw = 0 → r.w1c = 0 → r.w1s = 0 →
    v &&& BitVec.ofNat 32 r.rwl ≠ s.core.reg h &&& BitVec.ofNat 32 r.rwl → h ≠ R.PG_EVENT.at (h / 4096) →
    ∃ t, exec (.registerWrite port a v) s = .next t ∧
      t.core.reg (R.PG_EVENT.at (h / 4096)) = s.core.reg (R.PG_EVENT.at (h / 4096)) ||| bit 31 ∧
      s.Frame t [R.PG_EVENT.at (h / 4096)]) ∧
  (∀ (s : State) (port : Port) (a : Nat) (v : Word), s.view.rowAt a = none →
    ∃ t, exec (.registerWrite port a v) s = .next t ∧ bitOf (t.core.reg R.HOST_ERR.at) 2 = true ∧
      (s.core.reg R.HOST_ERR.at = 0 →
        t.core.reg R.HOST_ERR_ADDR.at = BitVec.ofNat 32 (a % 2 ^ 20 + portCode port * 2 ^ 28 + 2 ^ 31)) ∧
      s.Frame t [R.HOST_ERR.at, R.HOST_ERR_ADDR.at, R.PG_EVENT.at 0]) ∧
  (∀ (s : State) (port : Port) (v : Word), s.core.Free port R.TS_QUERY_SEL.at →
    ∃ t, exec (.tsQuery port v) s = .next t ∧
      t.core.reg R.TS_QUERY_SEL.at = R.TS_QUERY_SEL.merge (Table.get (fun _ => 0) s.core.hwSet R.TS_QUERY_SEL.at)
        (s.core.reg R.TS_QUERY_SEL.at) v ∧
      s.Frame t [R.TS_QUERY_SEL.at])

/-- R254: REG_READ answers the value at the start of t_e; REG_WRITE stores like a host write and its completion waits for the value of the
next tick; both complete with ABORTED before READY (R400) and with BAD_OPERAND at a reserved address (R253).
Clauses may rest on the readings of log entries 24, 40 and 41. -/
def Obligations.RegisterCommandsReadAndWrite : Prop :=
  (∀ (s : State) (h : CmdHead) (a : Nat), s.core.ready = true → a < 2 ^ 20 → (s.view.rowAt a).isSome = true →
    ∃ t, exec (.regRead h a) s = .next t ∧
      t.core = s.core.complete 2 h.seq 0 0 s.core.now (leBytes 4 (s.view.portRead a).toNat) ∧
      s.Frame t [] (fun c d => { c with made := d.made })) ∧
  (∀ (s : State) (h : CmdHead) (a : Nat), s.core.ready = true → 2 ^ 20 ≤ a ∨ s.view.rowAt a = none →
    ∃ t, exec (.regRead h a) s = .next t ∧ t.core = s.core.complete 2 h.seq 2 0 s.core.now [] ∧
      s.Frame t [] (fun c d => { c with made := d.made })) ∧
  (∀ (s : State) (h : CmdHead) (a : Nat) (v : Word) (r : RegRow) (x : Nat), s.core.ready = true → a < 2 ^ 20 →
    s.core.target s.view .command a = some (r, x, plainWrite r x) → r.writable ≠ 0 → isGo r = false → goBits r = 0 →
    r.base ≠ R.UPD_CFG.base → s.core.takenBits .command x = 0 → s.core.inReset (x / 4096) = false → s.core.locked (x / 4096) = false →
    ∃ t, exec (.regWrite h a v allBits) s = .next t ∧
      t.core.reg x = r.merge (Table.get (fun _ => 0) s.core.hwSet x) (s.core.reg x) v ∧
      t.core.awaits = s.core.awaits ++ [⟨1, a, h.seq, s.core.now, []⟩] ∧
      s.Frame t [x] (fun c d => { c with awaits := d.awaits })) ∧
  (∀ (s : State) (h : CmdHead) (a : Nat) (v mask : Word), s.core.ready = true → 2 ^ 20 ≤ a ∨ s.core.cmdTarget s.view a = none →
    ∃ t, exec (.regWrite h a v mask) s = .next t ∧ t.core = s.core.complete 1 h.seq 2 0 s.core.now [] ∧
      s.Frame t [] (fun c d => { c with made := d.made })) ∧
  (∀ (s : State) (h : CmdHead), s.core.ready = false →
    ∃ t, exec (.nop h) s = .next t ∧ t.core = s.core.complete 0 h.seq 8 0 s.core.now [] ∧
      s.Frame t [] (fun c d => { c with made := d.made })) ∧
  (∀ (s : State) (h : CmdHead), s.core.ready = true → h.atEffect = false →
    ∃ t, exec (.nop h) s = .next t ∧ t.core = s.core.complete 0 h.seq 0 0 s.core.now [] ∧
      s.Frame t [] (fun c d => { c with made := d.made }))

/-- R33, R497: an EOI marks its vectors to be judged again; enabling MSI-X, or unmasking a vector, clears what pended and judges again. -/
def Obligations.InterruptsAreJudgedAgain : Prop :=
  (∀ (s : State) (port : Port) (v : Word), s.core.Free port R.IRQ_EOI.at →
    ∃ t, exec (.irqEoi port v) s = .next t ∧ t.core.eoi = s.core.eoi ||| (v &&& 0xFF) ∧
      s.Frame t [] (fun c d => { c with eoi := d.eoi })) ∧
  (∀ (s : State),
    ∃ t, exec (.msixReenable .enabled) s = .next t ∧ t.core.busMaster = true ∧ t.core.vecPend = [] ∧
      t.core.again = s.core.again ++ [.enabled] ∧
      s.Frame t [] (fun c d => { c with busMaster := d.busMaster, vecPend := d.vecPend, again := d.again })) ∧
  (∀ (s : State) (v : Fin 72),
    ∃ t, exec (.msixReenable (.unmasked v)) s = .next t ∧ Table.get (fun _ => false) t.core.unmasked v = true ∧
      Table.get (fun _ => false) t.core.vecPend v = false ∧ t.core.again = s.core.again ++ [.unmasked v] ∧
      s.Frame t [] (fun c d => { c with unmasked := d.unmasked, vecPend := d.vecPend, again := d.again }))

/-- R36, R37, R41, R42, R44 to R46: an HRP write with odd parity on all four bytes is posted, any other is discarded and captured; BAR0 takes one
whole word; a read is answered from the start of the tick unless writes wait before it; a poisoned write is reported and discarded; a PCIe reset
drops what PCIe had posted and closes its windows.
Clauses may rest on the readings of log entries 10, 13, 44 and 49. -/
def Obligations.HostPortsCarryWords : Prop :=
  (∀ (s : State) (a : Fin 0x40000) (d : Word) (par : BitVec 4), s.core.portsServe = true → (List.range 4).all (parityGood d par) = true →
    ∃ t, exec (.hrpWriteCycle a d par) s = .next t ∧ t.core.posted = s.core.posted ++ [⟨.hrp, 4 * a.val, d⟩] ∧
      s.Frame t [] (fun c d => { c with posted := d.posted })) ∧
  (∀ (s : State) (a : Fin 0x40000) (d : Word) (par : BitVec 4), s.core.portsServe = true → (List.range 4).all (parityGood d par) = false →
    ∃ t, exec (.hrpWriteCycle a d par) s = .next t ∧ bitOf (t.core.reg R.HOST_ERR.at) 0 = true ∧
      (s.core.reg R.HOST_ERR.at = 0 → t.core.reg R.HOST_ERR_ADDR.at = BitVec.ofNat 32 (4 * a.val + 2 ^ 31)) ∧
      s.Frame t [R.HOST_ERR.at, R.HOST_ERR_ADDR.at, R.PG_EVENT.at 0]) ∧
  (∀ (s : State) (a : Fin 0x40000), s.core.portsServe = true →
    ∃ t, exec (.hrpProto a) s = .next t ∧ bitOf (t.core.reg R.HOST_ERR.at) 1 = true ∧
      s.Frame t [R.HOST_ERR.at, R.HOST_ERR_ADDR.at, R.PG_EVENT.at 0]) ∧
  (∀ (s : State) (a : Fin 0x40000) (d : Word) (par : BitVec 4), s.core.portsServe = false →
    exec (.hrpWriteCycle a d par) s = .next s) ∧
  (∀ (s : State) (a : Fin 0x40000), s.core.portsServe = false → exec (.hrpProto a) s = .next s) ∧
  (∀ (s : State) (a : Fin 0x100000) (v : Word), s.core.linkUp = true →
    ∃ t, exec (.pcieBar0Write a 1 0xF v) s = .next t ∧ t.core.posted = s.core.posted ++ [⟨.pcie, a.val, v⟩] ∧
      s.Frame t [] (fun c d => { c with posted := d.posted })) ∧
  (∀ (s : State) (a : Fin 0x100000) (dw : Nat) (be : BitVec 4) (v : Word), s.core.linkUp = true → ¬(dw = 1 ∧ be = 0xF) →
    ∃ t, exec (.pcieBar0Write a dw be v) s = .next t ∧ bitOf (t.core.reg R.HOST_ERR.at) 4 = true ∧
      (s.core.reg R.HOST_ERR.at = 0 → t.core.reg R.HOST_ERR_ADDR.at = BitVec.ofNat 32 (a.val + 2 ^ 28 + 2 ^ 31)) ∧
      s.Frame t [R.HOST_ERR.at, R.HOST_ERR_ADDR.at, R.PG_EVENT.at 0]) ∧
  (∀ (s : State) (a : Fin 0x100000), s.core.linkUp = true → (∀ x ∈ s.core.posted, x.port ≠ .pcie) → s.core.pcieReads = [] →
    ∃ t, exec (.pcieBar0Read a 1 0xF) s = .next t ∧ t.core.out = s.core.out ++ [.readValue .pcie a.val (s.view.portRead a.val)] ∧
      s.Frame t [] (fun c d => { c with out := d.out })) ∧
  (∀ (s : State) (a : Fin 0x100000), s.core.linkUp = true → (∃ x ∈ s.core.posted, x.port = .pcie) →
    ∃ t, exec (.pcieBar0Read a 1 0xF) s = .next t ∧ t.core.pcieReads = s.core.pcieReads ++ [a.val] ∧
      s.Frame t [] (fun c d => { c with pcieReads := d.pcieReads })) ∧
  (∀ (s : State) (a : Fin 0x100000) (dw : Nat) (be : BitVec 4), s.core.linkUp = true → ¬(dw = 1 ∧ be = 0xF) →
    ∃ t, exec (.pcieBar0Read a dw be) s = .next t ∧ t.core.out = s.core.out ++ [.unsupportedRequest] ∧
      s.Frame t [] (fun c d => { c with out := d.out })) ∧
  (∀ (s : State) (a : Fin 0x100000), s.core.linkUp = true →
    ∃ t, exec (.pciePoisonedWrite true a) s = .next t ∧ t.core.out = s.core.out ++ [.aerReport] ∧
      bitOf (t.core.reg R.HOST_ERR.at) 6 = true ∧
      s.Frame t [R.HOST_ERR.at, R.HOST_ERR_ADDR.at, R.PG_EVENT.at 0] (fun c d => { c with out := d.out })) ∧
  (∀ (s : State) (a : Fin 0x100000), s.core.linkUp = true →
    ∃ t, exec (.pciePoisonedWrite false a) s = .next t ∧ t.core.out = s.core.out ++ [.aerReport] ∧
      s.Frame t [] (fun c d => { c with out := d.out })) ∧
  (∀ (s : State) (kind : PcieResetKind),
    ∃ t, exec (.pcieReset kind) s = .next t ∧ t.core.reg R.SHED_WIN_BASE.at = resetValue R.SHED_WIN_BASE.at ∧
      t.core.posted = s.core.posted.filter (fun x => decide (x.port ≠ .pcie)) ∧ t.core.busMaster = false ∧ t.core.unmasked = [] ∧
      t.core.vecPend = [] ∧ t.core.linkUp = (decide (kind ≠ .linkDown) && s.core.linkUp) ∧
      s.Frame t [R.SHED_WIN_BASE.at] (fun c d => { c with posted := d.posted, busMaster := d.busMaster, unmasked := d.unmasked, vecPend := d.vecPend, linkUp := d.linkUp, bar2Log := d.bar2Log, again := d.again, pcieReads := d.pcieReads }))


/-! ### Tracks and the timetable -/

/-- R51, R56, R58, R67: an accepted edge counts towards lock, locks the track on the QUALIFY-th one with epoch 0 or the armed epoch, and on
a locked track ends the epoch and starts the next at the edge; an edge outside its window is a glitch; no other track changes.
Clauses may rest on the readings of log entries 12, 19, 51 and 52. -/
def Obligations.TrackEdgesLockAndTurnEpochs : Prop :=
  (∀ (s : State) (k : Fin 4) (x e : Nat), s.core.sourceDelivers k = true → (s.core.track k).state = .acquire →
    (s.core.track k).lastEdge = some e →
    (s.core.track k).windowTakes (s.core.trkSrc k) (x - e) (decide (s.core.fld R.ETH_STATUS.at 1 1 = 1)) = true →
    (s.core.track k).qual + 1 < s.core.trkQualify k →
    ∃ t, exec (.trackEdge k x) s = .next t ∧ (t.core.track k).state = .acquire ∧ (t.core.track k).qual = (s.core.track k).qual + 1 ∧
      (t.core.track k).lastEdge = some x ∧ (∀ j : Fin 4, j ≠ k → t.core.track j = s.core.track j) ∧
      s.Frame t [] (fun c d => { c with tracks := d.tracks })) ∧
  (∀ (s : State) (k : Fin 4) (x e : Nat), s.core.sourceDelivers k = true → (s.core.track k).state = .acquire →
    (s.core.track k).lastEdge = some e →
    (s.core.track k).windowTakes (s.core.trkSrc k) (x - e) (decide (s.core.fld R.ETH_STATUS.at 1 1 = 1)) = true →
    s.core.trkQualify k ≤ (s.core.track k).qual + 1 →
    ∃ t, exec (.trackEdge k x) s = .next t ∧ (t.core.track k).state = .locked ∧
      (t.core.track k).epoch = (s.core.track k).armed.getD 0 ∧ (t.core.track k).start16 = x * 65536 ∧ (t.core.track k).armed = none ∧
      t.core.reg (R.PG_EVENT.at 1) = s.core.reg (R.PG_EVENT.at 1) ||| bit k ∧
      (∀ j : Fin 4, j ≠ k → t.core.track j = s.core.track j) ∧
      s.Frame t [R.PG_EVENT.at 1, R.TRK_EPOCH_SET_HI.at k] (fun c d => { c with tracks := d.tracks, tt := d.tt })) ∧
  (∀ (s : State) (k : Fin 4) (x e : Nat), s.core.sourceDelivers k = true → (s.core.track k).state = .locked → s.core.trkSrc k ≠ 6 →
    (s.core.track k).lastEdge = some e →
    (s.core.track k).windowTakes (s.core.trkSrc k) (x - e) (decide (s.core.fld R.ETH_STATUS.at 1 1 = 1)) = true →
    (s.core.track k).grid = false → (s.core.track k).slew = 0 →
    (s.core.track k).len * 65536 ≤ 2 * (x * 65536 - (s.core.track k).start16) → (s.core.track k).epoch < 2 ^ 48 - 1 →
    ∃ t, exec (.trackEdge k x) s = .next t ∧ (t.core.track k).state = .locked ∧
      (t.core.track k).epoch = (s.core.track k).armed.getD ((s.core.track k).epoch + 1) ∧ (t.core.track k).start16 = x * 65536 ∧
      (t.core.track k).len = (x * 65536 - (s.core.track k).start16) / 65536 ∧
      (∀ j : Fin 4, j ≠ k → t.core.track j = s.core.track j) ∧
      s.Frame t [R.TRK_EPOCH_SET_HI.at k, R.SYN0_Y.at, R.SYN0_STATUS.at, R.PG_EVENT.at 2]
        (fun c d => { c with tracks := d.tracks, tt := d.tt })) ∧
  (∀ (s : State) (k : Fin 4) (x e : Nat), s.core.sourceDelivers k = true → (s.core.track k).state = .locked → s.core.trkSrc k ≠ 6 →
    (s.core.track k).lastEdge = some e →
    (s.core.track k).windowTakes (s.core.trkSrc k) (x - e) (decide (s.core.fld R.ETH_STATUS.at 1 1 = 1)) = false →
    ∃ t, exec (.trackEdge k x) s = .next t ∧
      t.core.reg (R.TRK_GLITCH_CNT.at k) = BitVec.ofNat 32 (satAdd 32 (s.core.reg (R.TRK_GLITCH_CNT.at k)).toNat 1) ∧
      t.core.reg (R.PG_EVENT.at 1) = s.core.reg (R.PG_EVENT.at 1) ||| bit (12 + k) ∧
      s.Frame t [R.TRK_GLITCH_CNT.at k, R.PG_EVENT.at 1]) ∧
  (∀ (s : State) (k : Fin 4) (x e : Nat), s.core.sourceDelivers k = true → (s.core.track k).state = .acquire → (s.core.track k).lastEdge = some e →
    (s.core.track k).windowTakes (s.core.trkSrc k) (x - e) (decide (s.core.fld R.ETH_STATUS.at 1 1 = 1)) = false →
    ∃ t, exec (.trackEdge k x) s = .next t ∧ (t.core.track k).state = .acquire ∧
      t.core.reg (R.TRK_GLITCH_CNT.at k) = BitVec.ofNat 32 (satAdd 32 (s.core.reg (R.TRK_GLITCH_CNT.at k)).toNat 1) ∧
      t.core.reg (R.PG_EVENT.at 1) = s.core.reg (R.PG_EVENT.at 1) ||| bit (12 + k) ∧ (t.core.track k).qual = 1 ∧
      (t.core.track k).epoch = (s.core.track k).epoch ∧ (t.core.track k).start16 = (s.core.track k).start16 ∧
      (∀ j : Fin 4, j ≠ k → t.core.track j = s.core.track j) ∧
      s.Frame t [R.TRK_GLITCH_CNT.at k, R.PG_EVENT.at 1] (fun c d => { c with tracks := d.tracks })) ∧
  (∀ (s : State) (k : Fin 4) (x e : Nat), s.core.sourceDelivers k = true → (s.core.track k).state = .requal → (s.core.track k).lastEdge = some e →
    (s.core.track k).windowTakes (s.core.trkSrc k) (x - e) (decide (s.core.fld R.ETH_STATUS.at 1 1 = 1)) = false →
    (s.core.track k).grid = true → (s.core.track k).mean16 ≠ 0 → s.core.time * 65536 < (s.core.track k).start16 + (s.core.track k).mean16 →
    ∃ t, exec (.trackEdge k x) s = .next t ∧ (t.core.track k).state = .coast ∧
      t.core.reg (R.TRK_GLITCH_CNT.at k) = BitVec.ofNat 32 (satAdd 32 (s.core.reg (R.TRK_GLITCH_CNT.at k)).toNat 1) ∧
      bitOf (t.core.reg (R.PG_EVENT.at 1)) (12 + k) = true ∧ bitOf (t.core.reg (R.PG_EVENT.at 1)) (4 + k) = true ∧
      (t.core.track k).epoch = (s.core.track k).epoch ∧ (t.core.track k).start16 = (s.core.track k).start16 ∧
      (∀ j : Fin 4, j ≠ k → t.core.track j = s.core.track j) ∧
      s.Frame t [R.TRK_GLITCH_CNT.at k, R.PG_EVENT.at 1] (fun c d => { c with tracks := d.tracks, tt := d.tt, counts := d.counts })) ∧
  (∀ (s : State) (k : Fin 4) (x : Nat), s.core.sourceDelivers k = false → exec (.trackEdge k x) s = .next s)

/-- R53, R56, R59, R60: a loss makes a locked track coast and is reported; a coasted epoch ends at its length and the next one starts
there; a filled mark turns the epoch of an LF track; a small jump is absorbed by slewing the epoch at B; a hold ends at its instant.
Clauses may rest on the readings of log entries 19, 36, 52, 55 and 80. -/
def Obligations.TracksCoastAndReturn : Prop :=
  (∀ (s : State) (k : Fin 4), s.core.lossDue k = true → (s.core.track k).state = .locked →
    ∃ t, exec (.trackLoss k) s = .next t ∧ (t.core.track k).state = .coast ∧ (t.core.track k).grid = true ∧
      (t.core.track k).jump = none ∧ bitOf (t.core.reg (R.PG_EVENT.at 1)) (4 + k) = true ∧
      (∀ j : Fin 4, j ≠ k → t.core.track j = s.core.track j) ∧
      s.Frame t [R.PG_EVENT.at 1, R.TRK_EPOCH_SET_HI.at k, R.SYN0_Y_HOLD.at, R.SYN0_STATUS.at, R.PG_EVENT.at 2]
        (fun c d => { c with tracks := d.tracks, tt := d.tt, counts := d.counts })) ∧
  (∀ (s : State) (k : Fin 4), s.core.lossDue k = false → exec (.trackLoss k) s = .next s) ∧
  (∀ (s : State) (k : Fin 4), (s.core.track k).state = .coast → s.core.trkSrc k ≠ 6 → (s.core.track k).jump = none →
    s.core.boundaryReached (s.core.track k) = true → (s.core.track k).armed = none → (s.core.track k).epoch < 2 ^ 48 - 1 →
    ∃ t, exec (.epochBoundary k) s = .next t ∧ (t.core.track k).epoch = (s.core.track k).epoch + 1 ∧
      (t.core.track k).start16 = (s.core.track k).start16 + (s.core.track k).plan16 ∧
      (t.core.track k).plan16 = (s.core.track k).coast16 ∧
      (t.core.track k).coastEpochs = min 0xFFFF ((s.core.track k).coastEpochs + 1) ∧
      (∀ j : Fin 4, j ≠ k → t.core.track j = s.core.track j) ∧
      s.Frame t [] (fun c d => { c with tracks := d.tracks, tt := d.tt })) ∧
  (∀ (s : State) (k : Fin 4) (x : Nat), s.core.trkSrc k = 5 → (s.core.track k).hasEpochs = true → (s.core.track k).armed = none →
    (s.core.track k).epoch < 2 ^ 48 - 1 →
    ∃ t, exec (.filledMark k x) s = .next t ∧ (t.core.track k).epoch = (s.core.track k).epoch + 1 ∧
      (t.core.track k).start16 = x * 65536 ∧ (t.core.track k).lossBase = x ∧
      (∀ j : Fin 4, j ≠ k → t.core.track j = s.core.track j) ∧
      s.Frame t [] (fun c d => { c with tracks := d.tracks, tt := d.tt })) ∧
  (∀ (s : State) (k : Fin 4) (d : Int), (s.core.track k).jump = some d → d.natAbs ≤ 16 ∨ s.core.fld (R.TRK_CFG.at k) 4 1 = 1 →
    s.core.boundaryReached (s.core.track k) = true →
    ∃ t, exec (.trackJumpStart k) s = .next t ∧ (t.core.track k).jump = none ∧ (t.core.track k).slew = d ∧
      (t.core.track k).slewStep = max (-16) (min 16 d) ∧
      (t.core.track k).start16 = (s.core.track k).start16 + (s.core.track k).plan16 ∧
      bitOf (t.core.reg (R.PG_EVENT.at 1)) (8 + k) = true ∧
      (∀ j : Fin 4, j ≠ k → t.core.track j = s.core.track j) ∧
      s.Frame t [R.PG_EVENT.at 1, R.TRK_EPOCH_SET_HI.at k] (fun c d => { c with tracks := d.tracks, tt := d.tt })) ∧
  (∀ (s : State) (k : Fin 4) (d : Int), (s.core.track k).jump = some d → 16 < d → s.core.fld (R.TRK_CFG.at k) 4 1 = 0 →
    s.core.boundaryReached (s.core.track k) = true →
    ∃ t, exec (.trackJumpStart k) s = .next t ∧ (t.core.track k).jump = none ∧
      (t.core.track k).holdEnd16 =
        some ((s.core.track k).start16 + (s.core.track k).plan16 + d.natAbs * (s.core.track k).coast16 / 65536) ∧
      (t.core.track k).epoch = (s.core.track k).epoch ∧ bitOf (t.core.reg (R.PG_EVENT.at 1)) (8 + k) = true ∧
      s.Frame t [R.PG_EVENT.at 1] (fun c d => { c with tracks := d.tracks })) ∧
  (∀ (s : State) (k : Fin 4) (e : Nat), (s.core.track k).holdEnd16 = some e → e ≤ s.core.time * 65536 → (s.core.track k).armed = none →
    (s.core.track k).epoch < 2 ^ 48 - 1 →
    ∃ t, exec (.stepHoldEnd k) s = .next t ∧ (t.core.track k).holdEnd16 = none ∧ (t.core.track k).start16 = e ∧
      (t.core.track k).epoch = (s.core.track k).epoch + 1 ∧
      (∀ j : Fin 4, j ≠ k → t.core.track j = s.core.track j) ∧
      s.Frame t [] (fun c d => { c with tracks := d.tracks, tt := d.tt }))

/-- R57, R61, R62: a track that is OFF acquires its new source; OFF is refused while the track is in use; a source with another nominal epoch
is refused; a DAB or LF track that is given another stall coasts; an armed number waits for the next boundary.
Clauses may rest on the readings of log entry 50. -/
def Obligations.TrackSourcesChangeByTheirEpochs : Prop :=
  (∀ (s : State) (port : Port) (k : Fin 4) (v : Word), s.core.Free port (R.TRK_CFG.at k) → s.core.trkSrc k = 0 →
    fieldOf v 0 3 ≠ 0 → fieldOf v 0 3 < 6 → 2 ≤ fieldOf v 16 4 →
    ∃ t, exec (.trkSrcWrite port k v) s = .next t ∧ (t.core.track k).state = .acquire ∧ t.core.trkSrc k = fieldOf v 0 3 ∧
      (∀ j : Fin 4, j ≠ k → t.core.track j = s.core.track j) ∧
      s.Frame t [R.TRK_CFG.at k] (fun c d => { c with tracks := d.tracks })) ∧
  (∀ (s : State) (port : Port) (k : Fin 4) (v : Word), s.core.Free port (R.TRK_CFG.at k) → s.core.trkSrc k ≠ 0 → fieldOf v 0 3 = 0 →
    s.core.trackInUse k = true → 2 ≤ fieldOf v 16 4 →
    ∃ t, exec (.trkSrcWrite port k v) s = .next t ∧ t.core.reg (R.PG_EVENT.at 1) = s.core.reg (R.PG_EVENT.at 1) ||| bit 31 ∧
      s.Frame t [R.PG_EVENT.at 1]) ∧
  (∀ (s : State) (port : Port) (k : Fin 4) (v : Word), s.core.Free port (R.TRK_CFG.at k) → s.core.trkSrc k ≠ 0 →
    fieldOf v 0 3 ≠ 0 → fieldOf v 0 3 < 7 → fieldOf v 0 3 ≠ s.core.trkSrc k → 2 ≤ fieldOf v 16 4 →
    sameNominal (s.core.trkSrc k) (fieldOf v 0 3) (s.core.reg (R.TRK_FREE_LEN.at k)).toNat = false →
    ∃ t, exec (.trkSrcWrite port k v) s = .next t ∧ t.core.reg (R.PG_EVENT.at 1) = s.core.reg (R.PG_EVENT.at 1) ||| bit 31 ∧
      s.Frame t [R.PG_EVENT.at 1]) ∧
  (∀ (s : State) (port : Port) (k : Fin 4) (v : Word), s.core.Free port (R.TRK_CFG.at k) → s.core.trkSrc k = 4 ∨ s.core.trkSrc k = 5 →
    fieldOf v 0 3 = s.core.trkSrc k → 2 ≤ fieldOf v 16 4 → fieldOf v 8 8 ≠ s.core.fld (R.TRK_CFG.at k) 8 8 →
    (s.core.track k).state = .locked →
    ∃ t, exec (.trkStallWrite port k v) s = .next t ∧ (t.core.track k).state = .coast ∧
      t.core.fld (R.TRK_CFG.at k) 8 8 = fieldOf v 8 8 ∧ bitOf (t.core.reg (R.PG_EVENT.at 1)) (4 + k) = true ∧
      (∀ j : Fin 4, j ≠ k → t.core.track j = s.core.track j) ∧
      s.Frame t [R.TRK_CFG.at k, R.PG_EVENT.at 1, R.TRK_EPOCH_SET_HI.at k, R.SYN0_Y_HOLD.at, R.SYN0_STATUS.at, R.PG_EVENT.at 2]
        (fun c d => { c with tracks := d.tracks, tt := d.tt, counts := d.counts })) ∧
  (∀ (s : State) (port : Port) (k : Fin 4) (v : Word), s.core.Free port (R.TRK_EPOCH_SET_HI.at k) → bitOf v 31 = true →
    ∃ t, exec (.trkEpochArm port k v) s = .next t ∧
      (t.core.track k).armed = some ((s.core.reg (R.TRK_EPOCH_SET_LO.at k)).toNat + fieldOf v 0 16 * 2 ^ 32) ∧
      (t.core.track k).epoch = (s.core.track k).epoch ∧
      (∀ j : Fin 4, j ≠ k → t.core.track j = s.core.track j) ∧
      s.Frame t [R.TRK_EPOCH_SET_HI.at k] (fun c d => { c with tracks := d.tracks }))

/-- R65, R66: an ADD that passes its checks takes the lowest free host entry and reports it; one that fails reports the code and adds
nothing; a CANCEL frees a pending host entry and reports NOT_HOST for any other.
Clauses may rest on the readings of log entries 53 and 54. -/
def Obligations.TimetableGosAddAndCancel : Prop :=
  (∀ (s : State) (i : Nat), s.core.ttCheck s.core.ttStaged = 0 → s.core.freeEntry 0 448 = some i →
    ∃ t, exec .ttGoAdd s = .next t ∧
      t.core.entry i = { s.core.ttStaged with valid := true, late := false, failed := false, due := none, mark := none } ∧
      t.core.fld R.TT_RESULT.at 0 9 = i % 512 ∧ t.core.fld R.TT_RESULT.at 12 4 = 0 ∧
      t.core.fld R.TT_RESULT.at 16 8 = (s.core.fld R.TT_RESULT.at 16 8 + 1) % 256 ∧
      s.Frame t [R.TT_RESULT.at] (fun c d => { c with tt := d.tt })) ∧
  (∀ s : State, s.core.ttCheck s.core.ttStaged ≠ 0 →
    ∃ t, exec .ttGoAdd s = .next t ∧ t.core.fld R.TT_RESULT.at 12 4 = s.core.ttCheck s.core.ttStaged ∧
      t.core.fld R.TT_RESULT.at 16 8 = (s.core.fld R.TT_RESULT.at 16 8 + 1) % 256 ∧ s.Frame t [R.TT_RESULT.at]) ∧
  (∀ (s : State) (i : Fin 512), i.val < 448 → (s.core.entry i).valid = true →
    ∃ t, exec (.ttGoCancel i) s = .next t ∧ (t.core.entry i).valid = false ∧ t.core.fld R.TT_RESULT.at 0 9 = i ∧
      t.core.fld R.TT_RESULT.at 12 4 = 0 ∧ t.core.fld R.TT_RESULT.at 16 8 = (s.core.fld R.TT_RESULT.at 16 8 + 1) % 256 ∧
      s.Frame t [R.TT_RESULT.at] (fun c d => { c with tt := d.tt })) ∧
  (∀ (s : State) (i : Fin 512), 448 ≤ i.val ∨ (s.core.entry i).valid = false →
    ∃ t, exec (.ttGoCancel i) s = .next t ∧ t.core.fld R.TT_RESULT.at 12 4 = 5 ∧
      t.core.fld R.TT_RESULT.at 16 8 = (s.core.fld R.TT_RESULT.at 16 8 + 1) % 256 ∧ s.Frame t [R.TT_RESULT.at])

/-- R68, R254: the ring commands add and cancel as the GOs do, with the result in the completion and TT_RESULT untouched; an entry that falls
due fires once, is freed unless it repeats, and reports by its record.
Clauses may rest on the readings of log entries 31 and 53. -/
def Obligations.TimetableCommandsAndFiring : Prop :=
  (∀ (s : State) (h : CmdHead) (pennant : Bool) (action rept target i : Nat) (value mask : Word) (e : TTEntry),
    s.core.ready = true → h.atEffect = false →
    e = { track := h.track, epoch := h.epoch % 2 ^ 32, phase := h.phase % 2 ^ 16, action := action, pennant := pennant,
          rept := rept % 256, target := target % 2 ^ 20, value := value, mask := mask, valid := true } →
    s.core.ttCheck { e with valid := false } = 0 → s.core.freeEntry 0 448 = some i →
    ∃ t, exec (.ttAdd h pennant action rept target value mask) s = .next t ∧ t.core.entry i = e ∧
      t.core.made = (s.core.complete 0x18 h.seq 0 2 s.core.now (leBytes 2 i)).made ∧
      s.Frame t [] (fun c d => { c with tt := d.tt, made := d.made })) ∧
  (∀ (s : State) (h : CmdHead) (i : Nat), s.core.ready = true → h.atEffect = false → i < 448 → (s.core.entry i).valid = true →
    ∃ t, exec (.ttCancel h i) s = .next t ∧ (t.core.entry i).valid = false ∧
      t.core.made = (s.core.complete 0x19 h.seq 0 2 s.core.now []).made ∧
      s.Frame t [] (fun c d => { c with tt := d.tt, made := d.made })) ∧
  (∀ (s : State) (h : CmdHead) (i : Nat), s.core.ready = true → 448 ≤ i ∨ (s.core.entry i).valid = false →
    ∃ t, exec (.ttCancel h i) s = .next t ∧ t.core.made = (s.core.complete 0x19 h.seq 5 2 s.core.now []).made ∧
      s.Frame t [] (fun c d => { c with made := d.made })) ∧
  (∀ (s : State) (i : Fin 512), s.core.entryDue i = true → (s.core.entry i).action ≠ 1 → (s.core.entry i).rept = 0 →
    ∃ t, exec (.ttFire i) s = .next t ∧ (t.core.entry i).valid = false ∧
      (t.core.entry i).late = (s.core.entry i).mark.getD false ∧ (t.core.entry i).failed = false ∧
      t.core.made.length = s.core.made.length + (if (s.core.entry i).pennant = true then 1 else 0) ∧
      s.Frame t [R.PG_EVENT.at 1] (fun c d => { c with tt := d.tt, made := d.made })) ∧
  (∀ (s : State) (i : Fin 512) (d : Core) (ok : Bool), s.core.entryDue i = true → (s.core.entry i).action = 1 → (s.core.entry i).rept = 0 →
    s.core.writeTo s.view .action (s.core.entry i).target (s.core.entry i).value (s.core.entry i).mask = (d, ok) →
    d.entry i = s.core.entry i →
    (s.core.yardRuns = true → d.yardRuns = true) →
    ∃ t, exec (.ttFire i) s = .next t ∧ (t.core.entry i).valid = false ∧ d.KeepsRegs t.core [R.PG_EVENT.at 1] ∧
      (ok = false → bitOf (t.core.reg (R.PG_EVENT.at 1)) 17 = true) ∧ d.KeepsShed t.core) ∧
  (∀ (s : State) (i : Fin 512), s.core.entryDue i = false → exec (.ttFire i) s = .next s)

/-! ### The RF inputs, supervision and pins -/

/-- R83, R80: POWER goes to ON through a wake of 205 or 40960 ticks, leaving ON takes INIT at once, what may not leave ON is refused; the
first valid sample makes the input READY.
Clauses may rest on the readings of log entries 18 and 69. -/
def Obligations.InputsWakeAndSleep : Prop :=
  (∀ (s : State) (port : Port) (i : Fin 3) (v : Word), s.core.Free port (R.RF_CTRL.at i) →
    fieldOf v 0 2 = 2 → s.core.power i < 2 → bitOf v 2 = bitOf (s.core.reg (R.RF_CTRL.at i)) 2 →
    ∃ t, exec (.rfPowerWrite port i v) s = .next t ∧ t.core.power i = 2 ∧ t.core.fld (R.PG_STATUS.at (3 + i)) 16 2 = 2 ∧
      bitOf (t.core.reg (R.PG_STATUS.at (3 + i))) 18 = true ∧
      (t.core.rf i).wake = some (s.core.now + 1 + (if s.core.power i = 0 then 40960 else 205)) ∧
      s.Frame t [R.RF_CTRL.at i, R.PG_STATUS.at (3 + i)] (fun c d => { c with rfs := d.rfs })) ∧
  (∀ (s : State) (port : Port) (i : Fin 3) (v : Word), s.core.Free port (R.RF_CTRL.at i) →
    fieldOf v 0 2 < 2 → s.core.power i = 2 → s.core.powerRefused i (fieldOf v 0 2) = false → bitOf v 2 = false →
    bitOf (s.core.reg (R.RF_CTRL.at i)) 2 = false →
    ∃ t, exec (.rfPowerWrite port i v) s = .next t ∧ t.core.power i = fieldOf v 0 2 ∧
      t.core.setting i = s.core.fld (R.RF_SETTING.at i) 0 5 ∧ bitOf (t.core.reg (R.PG_STATUS.at (3 + i))) 0 = false ∧
      s.Frame t [R.RF_CTRL.at i, R.PG_STATUS.at (3 + i), R.RF_SETTING.at i] (fun c d => { c with rfs := d.rfs, cal := d.cal })) ∧
  (∀ (s : State) (port : Port) (i : Fin 3) (v : Word), s.core.Free port (R.RF_CTRL.at i) →
    s.core.powerRefused i (fieldOf v 0 2) = true →
    ∃ t, exec (.rfPowerWrite port i v) s = .next t ∧
      t.core.reg (R.PG_EVENT.at (3 + i)) = s.core.reg (R.PG_EVENT.at (3 + i)) ||| bit 31 ∧ s.Frame t [R.PG_EVENT.at (3 + i)]) ∧
  (∀ (s : State) (i : Fin 3) (w : Nat), s.runs (3 + i) = true → (s.core.rf i).wake = some w → w ≤ s.core.now →
    s.core.samplesFlow = true →
    ∃ t, exec (.rfWakeDone i) s = .next t ∧ bitOf (t.core.reg (R.PG_STATUS.at (3 + i))) 0 = true ∧
      bitOf (t.core.reg (R.PG_STATUS.at (3 + i))) 18 = false ∧ (t.core.rf i).wake = none ∧
      s.Frame t [R.PG_STATUS.at (3 + i)] (fun c d => { c with rfs := d.rfs })) ∧
  (∀ (s : State) (i : Fin 3) (w : Nat), (s.core.rf i).wake = none ∨ ((s.core.rf i).wake = some w ∧ s.core.now < w) →
    exec (.rfWakeDone i) s = .next s)

/-- R92: AUTO is taken when no host step is pending and refused otherwise; leaving AUTO cancels the AGC's uncommitted steps, and a committed one lands. -/
def Obligations.AgcModeChanges : Prop :=
  (∀ (s : State) (port : Port) (i : Fin 3) (v : Word), s.core.Free port (R.RF_CTRL.at i) →
    fieldOf v 0 2 = s.core.power i → s.core.power i ≠ 3 → bitOf v 2 = true → bitOf (s.core.reg (R.RF_CTRL.at i)) 2 = false →
    (∀ x ∈ (s.core.rf i).steps, x.agc = true) →
    ∃ t, exec (.agcModeWrite port i v) s = .next t ∧ bitOf (t.core.reg (R.RF_CTRL.at i)) 2 = true ∧ (t.core.rf i).quiet = 0 ∧
      (t.core.rf i).steps = (s.core.rf i).steps ∧ s.Frame t [R.RF_CTRL.at i] (fun c d => { c with rfs := d.rfs })) ∧
  (∀ (s : State) (port : Port) (i : Fin 3) (v : Word), s.core.Free port (R.RF_CTRL.at i) →
    bitOf v 2 = true → bitOf (s.core.reg (R.RF_CTRL.at i)) 2 = false → (∃ x ∈ (s.core.rf i).steps, x.agc = false) →
    ∃ t, exec (.agcModeWrite port i v) s = .next t ∧
      t.core.reg (R.PG_EVENT.at (3 + i)) = s.core.reg (R.PG_EVENT.at (3 + i)) ||| bit 31 ∧ s.Frame t [R.PG_EVENT.at (3 + i)]) ∧
  (∀ (s : State) (port : Port) (i : Fin 3) (v : Word), s.core.Free port (R.RF_CTRL.at i) →
    fieldOf v 0 2 = s.core.power i → s.core.power i ≠ 3 → bitOf v 2 = false → bitOf (s.core.reg (R.RF_CTRL.at i)) 2 = true →
    (∀ x ∈ (s.core.rf i).steps, x.seq = none) →
    ∃ t, exec (.agcModeWrite port i v) s = .next t ∧ bitOf (t.core.reg (R.RF_CTRL.at i)) 2 = false ∧ (t.core.rf i).want = none ∧
      (t.core.rf i).steps = (s.core.rf i).steps.filter (fun x => !x.agc || s.core.stepCommitted x) ∧
      s.Frame t [R.RF_CTRL.at i] (fun c d => { c with rfs := d.rfs })) ∧
  (∀ (s : State) (i : Fin 3) (x : RfStep) (d : Nat), s.runs (3 + i) = true → s.core.samplesFlow = true → bitOf (s.core.reg (R.RF_CTRL.at i)) 2 = false →
    (s.core.rf i).steps = [x] → x.agc = true → x.committed = true → x.due = some d → d ≤ s.core.now → x.seq = none → x.setting < 32 →
    (s.core.rf i).want = none →
    ∃ t, exec (.gainStepLand i) s = .next t ∧ t.core.setting i = x.setting ∧ (t.core.rf i).steps = [] ∧
      s.Frame t [R.RF_SETTING.at i, R.STEP_LAST_TICK.at i, R.STEP_LAST.at i, R.STEP_CNT.at i, R.PG_EVENT.at (3 + i)] (fun c d => { c with rfs := d.rfs }))

/-- R89, R254: a gain step that passes its checks is pending until it lands, at the tick after next when it is to be made at once; one that
fails reports the code of the check.
Clauses may rest on the readings of log entry 54. -/
def Obligations.GainStepsArePlaced : Prop :=
  (∀ (s : State) (i : Fin 3) (x : RfStep), s.runs (3 + i) = true → s.core.fld (R.STEP_CTL.at i) 18 1 = 1 →
    x = { setting := s.core.fld (R.STEP_CTL.at i) 24 5, track := s.core.fld (R.STEP_CTL.at i) 16 2,
          epoch := (s.core.reg (R.STEP_EPOCH.at i)).toNat, phase := s.core.fld (R.STEP_CTL.at i) 0 16, seq := none,
          due := some (s.core.now + 2), waiting := false } → s.core.stepCheck i x = 0 →
    ∃ t, exec (.stepGoAdd i) s = .next t ∧ (t.core.rf i).steps = (s.core.rf i).steps ++ [x] ∧
      t.core.fld (R.STEP_RESULT.at i) 0 4 = 0 ∧
      t.core.fld (R.STEP_RESULT.at i) 16 8 = (s.core.fld (R.STEP_RESULT.at i) 16 8 + 1) % 256 ∧
      s.Frame t [R.STEP_RESULT.at i] (fun c d => { c with rfs := d.rfs })) ∧
  (∀ (s : State) (i : Fin 3), s.runs (3 + i) = true → s.core.power i ≠ 2 →
    ∃ t, exec (.stepGoAdd i) s = .next t ∧ t.core.fld (R.STEP_RESULT.at i) 0 4 = 6 ∧
      t.core.fld (R.STEP_RESULT.at i) 16 8 = (s.core.fld (R.STEP_RESULT.at i) 16 8 + 1) % 256 ∧ s.Frame t [R.STEP_RESULT.at i]) ∧
  (∀ (s : State) (i : Fin 3), s.runs (3 + i) = true → (∀ x ∈ (s.core.rf i).steps, x.seq = none) →
    ∃ t, exec (.stepGoCancelAll i) s = .next t ∧
      (t.core.rf i).steps = (s.core.rf i).steps.filter (fun x => s.core.stepCommitted x) ∧
      t.core.fld (R.STEP_RESULT.at i) 0 4 = (if (s.core.rf i).steps.any (fun x => s.core.stepCommitted x) = true then 7 else 0) ∧
      s.Frame t [R.STEP_RESULT.at i] (fun c d => { c with rfs := d.rfs })) ∧
  (∀ (s : State) (h : CmdHead) (i : Fin 3) (setting : Nat) (x : RfStep), s.core.ready = true → h.now = true → h.atEffect = false →
    x = { setting := setting, track := h.track, epoch := h.epoch % 2 ^ 32, phase := h.phase % 65536, seq := none,
          due := some (s.core.now + 2), waiting := false } → s.core.stepCheck i x = 0 →
    ∃ t, exec (.stepAdd h (3 + i) setting) s = .next t ∧ (t.core.rf i).steps = (s.core.rf i).steps ++ [x] ∧
      t.core.made = (s.core.complete 0x1A h.seq 0 3 s.core.now (leBytes 4 (s.core.now + 2))).made ∧
      s.Frame t [] (fun c d => { c with rfs := d.rfs, made := d.made })) ∧
  (∀ (s : State) (h : CmdHead) (page setting : Nat), s.core.ready = true → page < 3 ∨ 5 < page →
    ∃ t, exec (.stepAdd h page setting) s = .next t ∧ t.core.made = (s.core.complete 0x1A h.seq 2 0 s.core.now []).made ∧
      s.Frame t [] (fun c d => { c with made := d.made }))

/-- R86, R88, R93: a step commits in the tick before it is due, when its analogue command leaves, and lands on the first sample of its tick:
SETTING, STEP_LAST, STEP_CNT and STEP_LANDED follow.
Clauses may rest on the readings of log entry 54. -/
def Obligations.GainStepsCommitAndLand : Prop :=
  (∀ (s : State) (i : Fin 3) (x : RfStep), s.runs (3 + i) = true → s.core.samplesFlow = true → s.core.committing i = some x →
    ∃ t, exec (.gainStepCommit i) s = .next t ∧
      t.core.out = s.core.out ++ [.gainCommand i x.setting (samplesPerTick i - s.core.fld (R.STEP_LAT.at i) 0 10)] ∧
      (∀ y ∈ (t.core.rf i).steps, y.committed = true ∨ y ∈ (s.core.rf i).steps) ∧
      s.Frame t [] (fun c d => { c with rfs := d.rfs, out := d.out })) ∧
  (∀ (s : State) (i : Fin 3), s.core.committing i = none → exec (.gainStepCommit i) s = .next s) ∧
  (∀ (s : State) (i : Fin 3) (x : RfStep) (d : Nat), s.runs (3 + i) = true → s.core.samplesFlow = true →
    (s.core.rf i).steps = [x] → x.committed = true → x.due = some d → d ≤ s.core.now → x.seq = none → x.setting < 32 →
    (s.core.rf i).want = none →
    ∃ t, exec (.gainStepLand i) s = .next t ∧ t.core.setting i = x.setting ∧ (t.core.rf i).steps = [] ∧
      (t.core.rf i).landed = s.core.now ∧ t.core.reg (R.STEP_LAST_TICK.at i) = BitVec.ofNat 32 s.core.now ∧
      t.core.reg (R.STEP_CNT.at i) = BitVec.ofNat 32 (satAdd 32 (s.core.reg (R.STEP_CNT.at i)).toNat 1) ∧
      bitOf (t.core.reg (R.PG_EVENT.at (3 + i))) 1 = true ∧
      s.Frame t [R.RF_SETTING.at i, R.STEP_LAST_TICK.at i, R.STEP_LAST.at i, R.STEP_CNT.at i, R.PG_EVENT.at (3 + i)]
        (fun c d => { c with rfs := d.rfs })) ∧
  (∀ (s : State) (i : Fin 3), s.core.samplesFlow = true → (∀ x ∈ (s.core.rf i).steps, x.committed = false) →
    exec (.gainStepLand i) s = .next s)

/-- R90, R94, R126, R479, R488: a clip is counted, reported and shown to the stalls that draw on the input; the tone takes an INDEX and a LEVEL
within range and refuses others, and any write while calibration owns it; a window ends at every multiple of 1024 ticks with the levels of the
inputs that are ON, one more band overview and the supervision's extremes; GPIO_IN follows the pins.
Clauses may rest on the readings of log entries 8 and 68. -/
def Obligations.ClipsTonesAndWindowsAreShown : Prop :=
  (∀ (s : State) (i : Fin 3) (n : Nat), s.runs (3 + i) = true → 0 < n → s.core.samplesFlow = true → s.core.inputOn i = true →
    s.core.agcOn i = false →
    ∃ t, exec (.adcClip i n) s = .next t ∧
      t.core.reg (R.CLIP_CNT.at i) = BitVec.ofNat 32 (satAdd 32 (s.core.reg (R.CLIP_CNT.at i)).toNat n) ∧
      bitOf (t.core.reg (R.PG_EVENT.at (3 + i))) 0 = true ∧ (t.core.rf i).clips = true ∧
      s.Frame t ([R.CLIP_CNT.at i, R.PG_EVENT.at (3 + i)] ++ (List.range 256).map (fun m => R.ST_EVENT.at m))
        (fun c d => { c with rfs := d.rfs })) ∧
  (∀ (s : State) (i : Fin 3) (n : Nat), s.core.inputOn i = false → exec (.adcClip i n) s = .next s) ∧
  (∀ (s : State) (port : Port) (i : Fin 3) (v : Word), s.core.Free port (R.TONE_CTRL.at i) →
    bitOf (s.core.reg (R.TONE_CTRL.at i)) 1 = false → fieldOf v 12 4 ≤ 10 →
    (if i.val = 0 then 32 else 128) ≤ fieldOf v 4 8 → fieldOf v 4 8 ≤ (if i.val = 0 then 44 else 146) →
    ∃ t, exec (.toneCtrlWrite port i v) s = .next t ∧ bitOf (t.core.reg (R.TONE_CTRL.at i)) 0 = bitOf v 0 ∧
      t.core.fld (R.TONE_CTRL.at i) 4 8 = fieldOf v 4 8 ∧ t.core.fld (R.TONE_CTRL.at i) 12 4 = fieldOf v 12 4 ∧
      s.Frame t [R.TONE_CTRL.at i]) ∧
  (∀ (s : State) (port : Port) (i : Fin 3) (v : Word), s.core.Free port (R.TONE_CTRL.at i) →
    bitOf (s.core.reg (R.TONE_CTRL.at i)) 1 = true ∨ 10 < fieldOf v 12 4 →
    ∃ t, exec (.toneCtrlWrite port i v) s = .next t ∧
      t.core.reg (R.PG_EVENT.at (3 + i)) = s.core.reg (R.PG_EVENT.at (3 + i)) ||| bit 31 ∧ s.Frame t [R.PG_EVENT.at (3 + i)]) ∧
  (∀ (s : State) (w : LevelWin) (i : Fin 3) (p q : Nat), s.core.now % 1024 = 0 → 0 < s.core.now → s.core.enabled (3 + i) = true →
    s.core.enabled 6 = true → s.core.samplesFlow = true → s.core.inputOn i = true → w.rf[i.val]? = some (p, q) →
    ∃ t, exec (.levelWindowEnd w) s = .next t ∧ t.core.reg (R.RF_LEVEL.at i) = BitVec.ofNat 32 (p % 65536 + 65536 * (q % 65536)) ∧
      t.core.reg R.BIN_LEVEL_SEQ.at = s.core.reg R.BIN_LEVEL_SEQ.at + 1 ∧ (t.core.rf i).clips = false ∧
      s.core.KeepsPages t.core [3, 4, 5, 6, 0x11, 0x12, 0x1B] ∧ s.core.KeepsShed t.core) ∧
  (∀ (s : State) (w : LevelWin), s.core.now % 1024 ≠ 0 → exec (.levelWindowEnd w) s = .next s) ∧
  (∀ (s : State) (l : BitVec 16), s.runs 0x1C = true →
    ∃ t, exec (.gpioEdge l) s = .next t ∧ t.core.reg R.GPIO_IN.at = l.setWidth 32 ∧
      (∀ b : Fin 16, l.getLsbD b = true → bitOf (s.core.reg R.GPIO_IN.at) b = false → bitOf (s.core.reg R.GPIO_EDGE.at) b = true →
        bitOf (t.core.reg (R.PG_EVENT.at 0x1C)) b = true) ∧
      (∀ b : Fin 16, l.getLsbD b = false → bitOf (s.core.reg R.GPIO_IN.at) b = true →
        bitOf (s.core.reg R.GPIO_EDGE.at) (16 + b) = true → bitOf (t.core.reg (R.PG_EVENT.at 0x1C)) b = true) ∧
      s.Frame t [R.GPIO_IN.at, R.PG_EVENT.at 0x1C])


/-! ### The Stable -/

/-- R129 to R131, R144: an OPEN that passes its checks takes the lowest free unit and is OPENING until its due instant, a CLOSE waits for
its instant, a MOVE binds its target unit for 32 ticks; one that fails leaves only its code.
Clauses may rest on the readings of log entries 54 and 59. -/
def Obligations.StallGosAreCheckedAndPlaced : Prop :=
  (∀ (s : State) (u : Nat), s.runs 7 = true → s.core.fld R.OPEN_CTL.at 18 1 = 1 → s.core.freeUnits.head? = some u →
    s.core.openCheck s.core.openSel true (s.core.fld R.OPEN_CTL.at 16 2) (s.core.reg R.OPEN_EPOCH.at).toNat
      (s.core.fld R.OPEN_CTL.at 0 16) = 0 →
    ∃ t, exec .openGoOpen s = .next t ∧ t.core.stState s.core.openSel = 1 ∧ t.core.unitOf s.core.openSel = u ∧
      t.core.unit u = ⟨1, s.core.openSel⟩ ∧
      t.core.sched = s.core.sched ++ [{ stall := s.core.openSel, opens := true, due := some (s.core.now + 6), track := s.core.fld R.OPEN_CTL.at 16 2, epoch := (s.core.reg R.OPEN_EPOCH.at).toNat, phase := s.core.fld R.OPEN_CTL.at 0 16 }] ∧
      t.core.fld R.OPEN_RESULT.at 0 4 = 0 ∧ t.core.fld R.OPEN_RESULT.at 8 8 = s.core.openSel ∧
      t.core.fld R.OPEN_RESULT.at 16 8 = (s.core.fld R.OPEN_RESULT.at 16 8 + 1) % 256 ∧
      s.core.KeepsStalls t.core s.core.openSel ∧ s.core.KeepsShed t.core) ∧
  (∀ (s : State) (code : Nat), s.runs 7 = true → code ≠ 0 →
    s.core.openCheck s.core.openSel (decide (s.core.fld R.OPEN_CTL.at 18 1 = 1)) (s.core.fld R.OPEN_CTL.at 16 2)
      (s.core.reg R.OPEN_EPOCH.at).toNat (s.core.fld R.OPEN_CTL.at 0 16) = code →
    ∃ t, exec .openGoOpen s = .next t ∧ t.core.fld R.OPEN_RESULT.at 0 4 = code ∧
      t.core.fld R.OPEN_RESULT.at 16 8 = (s.core.fld R.OPEN_RESULT.at 16 8 + 1) % 256 ∧
      (7 ≤ code → bitOf (t.core.reg (R.PG_EVENT.at 7)) 0 = true) ∧ s.Frame t [R.OPEN_RESULT.at, R.PG_EVENT.at 7]) ∧
  (∀ s : State, s.runs 7 = true → s.core.fld R.OPEN_CTL.at 18 1 = 1 → s.core.stState s.core.openSel ≠ 0 →
    s.core.stState s.core.openSel ≠ 6 → s.core.sched.length < 64 →
    ∃ t, exec .openGoClose s = .next t ∧
      t.core.sched = s.core.sched ++ [{ stall := s.core.openSel, opens := false, due := some s.core.now, track := s.core.fld R.OPEN_CTL.at 16 2, epoch := (s.core.reg R.OPEN_EPOCH.at).toNat, phase := s.core.fld R.OPEN_CTL.at 0 16 }] ∧
      t.core.fld R.OPEN_RESULT.at 0 4 = 0 ∧ s.Frame t [R.OPEN_RESULT.at] (fun c d => { c with sched := d.sched })) ∧
  (∀ s : State, s.runs 7 = true → s.core.stState s.core.openSel = 0 ∨ s.core.stState s.core.openSel = 6 →
    ∃ t, exec .openGoClose s = .next t ∧ t.core.fld R.OPEN_RESULT.at 0 4 = 1 ∧ s.Frame t [R.OPEN_RESULT.at]) ∧
  (∀ (s : State) (u i : Nat), s.runs 7 = true → s.core.stState s.core.openSel = 2 ∨ s.core.stState s.core.openSel = 3 →
    s.core.hsState s.core.openSel ≠ 4 → s.core.freeUnits.head? = some u → s.core.ownEntry false = some i →
    ∃ t, exec .openGoMove s = .next t ∧ t.core.stState s.core.openSel = 5 ∧ t.core.unit u = ⟨1, s.core.openSel⟩ ∧
      (t.core.stallRec s.core.openSel).move = some ⟨s.core.unitOf s.core.openSel, u, s.core.now, s.core.now + 32, 2,
        s.core.stState s.core.openSel, i⟩ ∧
      t.core.fld R.OPEN_RESULT.at 0 4 = 0 ∧ s.core.KeepsStalls t.core s.core.openSel ∧ s.core.KeepsShed t.core) ∧
  (∀ s : State, s.runs 7 = true → s.core.stState s.core.openSel = 0 →
    ∃ t, exec .openGoMove s = .next t ∧ t.core.fld R.OPEN_RESULT.at 0 4 = 1 ∧ s.Frame t [R.OPEN_RESULT.at])

/-- R141, R254: the ring commands write the slot and open, close, move or retune, and their completions carry the code and the result.
Clauses may rest on the readings of log entries 35 and 61. -/
def Obligations.StallCommandsAct : Prop :=
  (∀ (s : State) (h : CmdHead) (n : Fin 256) (cls ant : Nat) (run : Bool) (freq preset : Word) (route u : Nat),
    s.core.ready = true → h.now = true → h.atEffect = false → s.core.stState n = 0 →
    (∀ a ∈ [R.ST_CLASS.at n, R.ST_FREQ.at n, R.ST_ANT.at n, R.ST_PRESET.at n, R.ST_ROUTE.at n, R.ST_CTRL.at n],
      s.core.takenBits .command a = 0) →
    (s.core.writeSlot n cls ant run freq preset route).openCheck n true h.track (h.epoch % 2 ^ 32) (h.phase % 65536) = 0 →
    s.core.freeUnits.head? = some u →
    ∃ t, exec (.stallOpen h n cls ant run freq preset route) s = .next t ∧ t.core.stState n = 1 ∧ t.core.unitOf n = u ∧
      t.core.reg (R.ST_FREQ.at n) = freq ∧ t.core.cls n = cls % 16 ∧ t.core.reg (R.ST_PRESET.at n) = preset &&& 0xFFFF1F03 ∧
      bitOf (t.core.reg (R.ST_CTRL.at n)) 0 = run ∧
      t.core.made.getLast? = (s.core.complete 0x10 h.seq 0 1 s.core.now
        (leBytes 4 (s.core.now + 6) ++ leBytes 2 (t.core.unitsUsed - (s.core.writeSlot n cls ant run freq preset route).unitsUsed) ++
          leBytes 2 u)).made.getLast? ∧
      s.core.KeepsStalls t.core n ∧ s.core.KeepsShed t.core) ∧
  (∀ (s : State) (h : CmdHead) (n : Fin 256) (cls ant : Nat) (run : Bool) (freq preset : Word) (route : Nat),
    s.core.ready = true → s.core.stState n ≠ 0 →
    (∀ a ∈ [R.ST_CLASS.at n, R.ST_FREQ.at n, R.ST_ANT.at n, R.ST_PRESET.at n, R.ST_ROUTE.at n, R.ST_CTRL.at n],
      s.core.takenBits .command a = 0) →
    ∃ t, exec (.stallOpen h n cls ant run freq preset route) s = .next t ∧
      t.core.made = (s.core.complete 0x10 h.seq 1 1 s.core.now []).made ∧ s.Frame t [] (fun c d => { c with made := d.made })) ∧
  (∀ (s : State) (h : CmdHead) (n : Fin 256), s.core.ready = true → h.now = true → h.atEffect = false → s.core.stState n ≠ 0 →
    s.core.stState n ≠ 6 → s.core.sched.length < 64 → 0 < s.core.now →
    ∃ t, exec (.stallClose h n) s = .next t ∧
      t.core.sched = s.core.sched ++ [{ stall := n, opens := false, due := some s.core.now, track := h.track, epoch := h.epoch % 2 ^ 32, phase := h.phase % 65536 }] ∧
      t.core.made = (s.core.complete 0x11 h.seq 0 1 s.core.now (leBytes 4 (s.core.now + 1))).made ∧
      s.Frame t [] (fun c d => { c with sched := d.sched, made := d.made })) ∧
  (∀ (s : State) (h : CmdHead) (n : Fin 256) (u i : Nat), s.core.ready = true → h.atEffect = false →
    s.core.stState n = 2 ∨ s.core.stState n = 3 → s.core.hsState n ≠ 4 → s.core.freeUnits.head? = some u →
    s.core.ownEntry false = some i →
    ∃ t, exec (.stallMove h n) s = .next t ∧ t.core.stState n = 5 ∧
      (t.core.stallRec n).move = some ⟨s.core.unitOf n, u, s.core.now, s.core.now + 32, 2, s.core.stState n, i⟩ ∧
      t.core.made.getLast? = (s.core.complete 0x12 h.seq 0 1 s.core.now
        (leBytes 4 (s.core.now + 32) ++ leBytes 2 0 ++ leBytes 2 u)).made.getLast? ∧
      s.core.KeepsStalls t.core n ∧ s.core.KeepsShed t.core) ∧
  (∀ (s : State) (h : CmdHead) (n : Fin 256) (ant : Nat) (freq : Word), s.core.ready = true → s.core.stState n = 3 → s.core.cls n = 1 →
    (s.core.stallRec n).move = none → s.core.hsState n = 0 → ant % 4 < 3 → (freqRange 1 0).1 ≤ freq.toNat → freq.toNat ≤ (freqRange 1 0).2 →
    (∀ a ∈ [R.ST_FREQ.at n, R.ST_ANT.at n, R.ST_PRESET.at n], s.core.takenBits .command a = 0) →
    ∃ t, exec (.stallRetune h n ant freq 0) s = .next t ∧ t.core.reg (R.ST_FREQ.at n) = freq ∧ t.core.stState n = 2 ∧
      (t.core.stallRec n).syncAt = some (s.core.now + 1) ∧ t.core.fld (R.ST_ANT.at n) 0 3 = ant % 8 ∧
      t.core.made.getLast? = (s.core.complete 0x13 h.seq 0 1 s.core.now (leBytes 4 (s.core.now + 1))).made.getLast? ∧
      s.core.KeepsStalls t.core n ∧ s.core.KeepsShed t.core) ∧
  (∀ (s : State) (h : CmdHead) (n : Fin 256) (ant : Nat) (freq : Word) (iq : Nat), s.core.ready = true → s.core.stState n = 0 →
    (∀ a ∈ [R.ST_FREQ.at n, R.ST_ANT.at n, R.ST_PRESET.at n], s.core.takenBits .command a = 0) →
    ∃ t, exec (.stallRetune h n ant freq iq) s = .next t ∧ t.core.made = (s.core.complete 0x13 h.seq 1 1 s.core.now []).made ∧
      s.Frame t [] (fun c d => { c with made := d.made }))

/-- R119, R120, R131 to R134: at its instant an opening leaves OPENING for SETTLING or STOPPED, a closing drains and then frees the stall;
a settled stall runs; a synchronising reset begins its SETTLE. No other stall changes its state.
Clauses may rest on the readings of log entries 56, 57 and 58. -/
def Obligations.StallsOpenSettleAndClose : Prop :=
  (∀ (s : State) (n : Fin 256), s.runs 7 = true → (s.core.takeDue n true).isSome = true → s.core.stState n = 1 →
    bitOf (s.image.reg (R.ST_CTRL.at n)) 0 = true → (s.core.stallRec n).syncAt = none →
    ∃ t, exec (.stallOpenDue n) s = .next t ∧ t.core.stState n = 2 ∧ (t.core.stallRec n).syncAt = some (s.core.now + 1) ∧
      t.core.reg (R.D_START_LO.at n) = BitVec.ofNat 32 (s.core.now + 1) ∧ t.core.sched.length + 1 = s.core.sched.length ∧
      s.core.KeepsStalls t.core n ∧ s.core.KeepsShed t.core) ∧
  (∀ (s : State) (n : Fin 256), s.runs 7 = true → (s.core.takeDue n true).isSome = true → s.core.stState n = 1 →
    bitOf (s.image.reg (R.ST_CTRL.at n)) 0 = false →
    ∃ t, exec (.stallOpenDue n) s = .next t ∧ t.core.stState n = 4 ∧ t.core.sched.length + 1 = s.core.sched.length ∧
      s.core.KeepsStalls t.core n ∧ s.core.KeepsShed t.core) ∧
  (∀ (s : State) (n : Fin 256), s.runs 7 = true → (s.core.takeDue n false).isSome = true → s.core.stState n = 3 →
    (s.core.stallRec n).openedAt ≠ some s.core.now →
    ∃ t, exec (.stallCloseEffect n) s = .next t ∧ t.core.stState n = 6 ∧
      (t.core.stallRec n).drainBy = some (s.core.now + (if s.core.cls n = 3 ∨ s.core.cls n = 4 ∨ s.core.cls n = 5 then 51200 else 64)) ∧
      (∀ e ∈ t.core.sched, e.stall ≠ n.val) ∧ s.core.KeepsStalls t.core n ∧ s.core.KeepsShed t.core) ∧
  (∀ (s : State) (n : Fin 256), s.runs 7 = true → s.core.stState n = 6 →
    ∃ t, exec (.stallClosingDone n) s = .next t ∧ t.core.stState n = 0 ∧ t.core.unitOf n = 0 ∧
      t.core.reg (R.ST_LEVEL_FINE.at n) = resetValue (R.ST_LEVEL_FINE.at n) ∧ s.core.KeepsStalls t.core n ∧ s.core.KeepsShed t.core) ∧
  (∀ (s : State) (n : Fin 256), s.core.stState n ≠ 6 → exec (.stallClosingDone n) s = .next s) ∧
  (∀ (s : State) (n : Fin 256), s.runs 6 = true → s.core.settling n = true → s.core.settleTick n = s.core.now →
    (s.core.stallRec n).syncAt = none → s.core.stState n = 2 →
    ∃ t, exec (.settleEnd n) s = .next t ∧ t.core.stState n = 3 ∧ t.core.settling n = false ∧ s.core.KeepsStalls t.core n ∧
      s.core.KeepsShed t.core) ∧
  (∀ (s : State) (n : Fin 256), s.core.settling n = false ∨ s.core.settleTick n ≠ s.core.now → exec (.settleEnd n) s = .next s) ∧
  (∀ (s : State) (n : Fin 256), (s.core.stallRec n).syncAt = some s.core.now → s.core.stState n ≠ 0 →
    ∃ t, exec (.syncReset n) s = .next t ∧ t.core.settling n = true ∧ (t.core.stallRec n).tr = s.core.now ∧
      (t.core.stallRec n).syncAt = none ∧ t.core.reg (R.D_W_A.at n) = 0x7FFF ∧ t.core.reg (R.D_W_B.at n) = 0 ∧
      s.core.KeepsStalls t.core n) ∧
  (∀ (s : State) (n : Fin 256), (s.core.stallRec n).syncAt = none → exec (.syncReset n) s = .next s)

/-- R143 to R146: a move completes at M with its state on the target unit, one that waits is placed when a unit is free, a stall in FAULT
restarts on a free unit, and the checking stall takes the highest free unit.
Clauses may rest on the readings of log entries 59, 60 and 63. -/
def Obligations.UnitsAreMovedAndRebound : Prop :=
  (∀ (s : State) (n : Fin 256) (m : Move), s.runs 7 = true → (s.core.stallRec n).move = some m → m.m ≤ s.core.now →
    s.core.stState n = 5 → m.prior = 2 ∨ m.prior = 3 → m.tgt < 512 → (s.core.awaits = []) →
    ∃ t, exec (.stallMoveComplete n) s = .next t ∧ t.core.unitOf n = m.tgt ∧ t.core.stState n = m.prior ∧
      (t.core.stallRec n).move = none ∧
      t.core.reg R.MOVE_CNT.at = BitVec.ofNat 32 (satAdd 32 (s.core.reg R.MOVE_CNT.at).toNat 1) ∧
      t.core.reg R.MOVE_LAST_TICK.at = BitVec.ofNat 32 (s.core.now + 1) ∧ s.core.KeepsStalls t.core n ∧ s.core.KeepsShed t.core) ∧
  (∀ (s : State) (n : Fin 256), (s.core.stallRec n).move = none → exec (.stallMoveComplete n) s = .next s) ∧
  (∀ (s : State) (n : Fin 256) (cause u i : Nat), s.runs 7 = true → (s.core.stallRec n).retry = some cause →
    (s.core.stallRec n).retryAt ≤ s.core.now → s.core.freeUnits.head? = some u → s.core.ownEntry false = some i →
    s.core.stState n = 2 ∨ s.core.stState n = 3 → s.core.hsState n ≠ 4 →
    ∃ t, exec (.stallMovePlace n) s = .next t ∧ t.core.stState n = 5 ∧ t.core.unit u = ⟨1, n⟩ ∧
      (t.core.stallRec n).move = some ⟨s.core.unitOf n, u, s.core.now, s.core.now + 32, cause, s.core.stState n, i⟩ ∧
      (t.core.stallRec n).retry = none ∧ s.core.KeepsStalls t.core n ∧ s.core.KeepsShed t.core) ∧
  (∀ (s : State) (n : Fin 256), (s.core.stallRec n).retry = none → exec (.stallMovePlace n) s = .next s) ∧
  (∀ (s : State) (n : Fin 256) (u : Nat), s.runs 7 = true → s.core.freeUnits.head? = some u → s.core.stState n = 7 →
    s.core.fld R.STABLE_CFG.at 0 1 = 1 → (s.core.stallRec n).stoppedAt < s.core.now → bitOf (s.core.reg (R.ST_CTRL.at n)) 0 = true →
    ∃ t, exec (.faultRecover n) s = .next t ∧ t.core.stState n = 2 ∧ t.core.unitOf n = u ∧ t.core.unit u = ⟨1, n⟩ ∧
      (t.core.stallRec n).syncAt = some (s.core.now + 8) ∧ s.core.KeepsStalls t.core n ∧ s.core.KeepsShed t.core) ∧
  (∀ (s : State) (n : Fin 256), s.core.stState n ≠ 7 → exec (.faultRecover n) s = .next s) ∧
  (∀ (s : State) (u : Nat), s.runs 7 = true → s.core.freeUnits.getLast? = some u → s.core.unitInUse 2 = none →
    2 ≤ s.image.freeUnits.length → 2 ≤ s.core.freeUnits.length → s.core.ready = true →
    ∃ t, exec .checkUnitTake s = .next t ∧ t.core.unit u = ⟨2, 0⟩ ∧ t.core.fld R.CHECK_STATUS.at 16 9 = u ∧
      t.core.checkSuspended = false ∧
      s.Frame t [R.CHECK_STATUS.at] (fun c d => { c with units := d.units, checkSuspended := d.checkSuspended })) ∧
  (∀ s : State, (s.core.unitInUse 2).isSome = true → exec .checkUnitTake s = .next s)

/-- R27, R119, R134, R135, R140, R141, R147: a CLOSED stall takes its words as written; on a running stall a new frequency, antenna mode or
RESYNC resets it in the next tick, RUN = 0 stops it, and a class is refused; RUN = 1 starts a STOPPED stall.
Clauses may rest on the readings of log entries 58, 62 and 132. -/
def Obligations.StallWordsAreWritten : Prop :=
  (∀ (s : State) (port : Port) (n : Fin 256) (v : Word), s.core.Free port (R.ST_FREQ.at n) → s.core.stState n = 0 →
    ∃ t, exec (.stFreqWrite port n v) s = .next t ∧ t.core.reg (R.ST_FREQ.at n) = v ∧ s.Frame t [R.ST_FREQ.at n]) ∧
  (∀ (s : State) (port : Port) (n : Fin 256) (v : Word), s.core.Free port (R.ST_FREQ.at n) → s.core.stState n = 3 →
    (s.core.stallRec n).move = none → s.core.hsState n = 0 →
    (freqRange (s.core.cls n) (s.core.iqCode n)).1 ≤ v.toNat → v.toNat ≤ (freqRange (s.core.cls n) (s.core.iqCode n)).2 →
    ∃ t, exec (.stFreqWrite port n v) s = .next t ∧ t.core.reg (R.ST_FREQ.at n) = v ∧ t.core.stState n = 2 ∧
      (t.core.stallRec n).syncAt = some (s.core.now + 1) ∧ s.core.KeepsStalls t.core n ∧ s.core.KeepsShed t.core) ∧
  (∀ (s : State) (port : Port) (n : Fin 256) (v : Word), s.core.Free port (R.ST_FREQ.at n) → s.core.stState n = 1 →
    ∃ t, exec (.stFreqWrite port n v) s = .next t ∧ t.core.reg (R.ST_EVENT.at n) = s.core.reg (R.ST_EVENT.at n) ||| bit 31 ∧
      s.Frame t [R.ST_EVENT.at n]) ∧
  (∀ (s : State) (port : Port) (n : Fin 256) (v : Word), s.core.Free port (R.ST_ANT.at n) → s.core.stState n = 0 → fieldOf v 0 2 ≠ 3 →
    ∃ t, exec (.stAntWrite port n v) s = .next t ∧ t.core.reg (R.ST_ANT.at n) = v &&& 7 ∧ s.Frame t [R.ST_ANT.at n]) ∧
  (∀ (s : State) (port : Port) (n : Fin 256) (v : Word), s.core.Free port (R.ST_ANT.at n) → fieldOf v 0 2 = 3 →
    ∃ t, exec (.stAntWrite port n v) s = .next t ∧ t.core.reg (R.ST_EVENT.at n) = s.core.reg (R.ST_EVENT.at n) ||| bit 31 ∧
      s.Frame t [R.ST_EVENT.at n]) ∧
  (∀ (s : State) (port : Port) (n : Fin 256) (v : Word), s.core.Free port (R.ST_ANT.at n) → s.core.stState n = 3 → s.core.cls n = 1 →
    (s.core.stallRec n).move = none → s.core.hsState n = 0 → fieldOf v 0 2 ≠ 3 → fieldOf v 0 2 ≠ s.core.fld (R.ST_ANT.at n) 0 2 →
    s.core.iqCode n = 0 →
    ∃ t, exec (.stAntWrite port n v) s = .next t ∧ t.core.reg (R.ST_ANT.at n) = v &&& 7 ∧ t.core.stState n = 2 ∧
      (t.core.stallRec n).syncAt = some (s.core.now + 1) ∧ s.core.KeepsStalls t.core n ∧ s.core.KeepsShed t.core) ∧
  (∀ (s : State) (port : Port) (n : Fin 256) (v : Word), s.core.Free port (R.ST_PRESET.at n) → s.core.stState n = 0 →
    ∃ t, exec (.stPresetWrite port n v) s = .next t ∧ t.core.reg (R.ST_PRESET.at n) = v &&& 0xFFFF1F03 ∧ s.Frame t [R.ST_PRESET.at n]) ∧
  (∀ (s : State) (port : Port) (n : Fin 256) (v : Word), s.core.Free port (R.ST_PRESET.at n) → s.core.stState n = 1 →
    ∃ t, exec (.stPresetWrite port n v) s = .next t ∧ t.core.reg (R.ST_EVENT.at n) = s.core.reg (R.ST_EVENT.at n) ||| bit 31 ∧
      s.Frame t [R.ST_EVENT.at n]) ∧
  (∀ (s : State) (port : Port) (n : Fin 256) (v : Word), s.core.Free port (R.ST_CLASS.at n) → s.core.stState n = 0 →
    ∃ t, exec (.stClassWrite port n v) s = .next t ∧ t.core.reg (R.ST_CLASS.at n) = v &&& 0xF ∧
      (v &&& 0xF = 1 → t.core.reg (R.FM_CFG.at n) = 0x1030) ∧
      s.Frame t [R.ST_CLASS.at n, R.FM_CFG.at n, R.FM_STATUS.at n, R.FM_MPX.at n, R.FM_PATH.at n, R.FIR_CTL.at n]) ∧
  (∀ (s : State) (port : Port) (n : Fin 256) (v : Word), s.core.Free port (R.ST_CLASS.at n) → s.core.stState n ≠ 0 →
    ∃ t, exec (.stClassWrite port n v) s = .next t ∧ t.core.reg (R.ST_EVENT.at n) = s.core.reg (R.ST_EVENT.at n) ||| bit 31 ∧
      s.Frame t [R.ST_EVENT.at n]) ∧
  (∀ (s : State) (port : Port) (n : Fin 256) (v : Word), s.core.Free port (R.ST_ROUTE.at n) → s.core.stState n = 0 → fieldOf v 0 6 ≠ 1 →
    ∃ t, exec (.stRouteWrite port n v) s = .next t ∧ t.core.reg (R.ST_ROUTE.at n) = v &&& 0xFF3F ∧ s.Frame t [R.ST_ROUTE.at n]) ∧
  (∀ (s : State) (port : Port) (n : Fin 256) (v : Word), s.core.Free port (R.ST_ROUTE.at n) → s.core.stState n ≠ 0 →
    s.core.stState n ≠ 4 →
    ∃ t, exec (.stRouteWrite port n v) s = .next t ∧ t.core.reg (R.ST_EVENT.at n) = s.core.reg (R.ST_EVENT.at n) ||| bit 31 ∧
      s.Frame t [R.ST_EVENT.at n]) ∧
  (∀ (s : State) (port : Port) (n : Fin 256) (v : Word), s.core.Free port (R.ST_CTRL.at n) → s.core.live n = true → bitOf v 0 = false →
    ∃ t, exec (.stallRun port n v) s = .next t ∧ t.core.stState n = 4 ∧ bitOf (t.core.reg (R.ST_CTRL.at n)) 0 = false ∧
      s.core.KeepsStalls t.core n ∧ s.core.KeepsShed t.core) ∧
  (∀ (s : State) (port : Port) (n : Fin 256) (v : Word), s.core.Free port (R.ST_CTRL.at n) → s.core.stState n = 4 → bitOf v 0 = true →
    ∃ t, exec (.stallRun port n v) s = .next t ∧ t.core.stState n = 2 ∧ (t.core.stallRec n).syncAt = some (s.core.now + 1) ∧
      t.core.reg (R.D_START_LO.at n) = BitVec.ofNat 32 (s.core.now + 1) ∧ s.core.KeepsStalls t.core n ∧ s.core.KeepsShed t.core) ∧
  (∀ (s : State) (port : Port) (n : Fin 256) (v : Word), s.core.Free port (R.ST_CTRL.at n) → s.core.stState n = 2 ∨ s.core.stState n = 3 →
    bitOf v 0 = true → bitOf v 1 = true →
    ∃ t, exec (.stallResync port n v) s = .next t ∧ t.core.stState n = 2 ∧ (t.core.stallRec n).syncAt = some (s.core.now + 1) ∧
      bitOf (t.core.reg (R.ST_CTRL.at n)) 1 = true ∧ s.core.KeepsStalls t.core n ∧ s.core.KeepsShed t.core)

/-! ### The channeliser -/

/-- R114 to R116: a window selects a stall; its filter set is written while the stall stands CLOSED or STOPPED, and refused otherwise with the
stall's REFUSED and the window's count; the DC corrector is for IQ taps alone.
Clauses may rest on the readings of log entries 37 and 67. -/
def Obligations.FilterSetsAreLoadedThroughWindows : Prop :=
  (∀ (s : State) (port : Port) (w : Fin 4) (v : Word), s.core.Free port (R.WIN_SEL.at w) →
    ∃ t, exec (.winSelWrite port w v) s = .next t ∧ t.core.fld (R.WIN_SEL.at w) 0 8 = fieldOf v 0 8 ∧ s.Frame t [R.WIN_SEL.at w]) ∧
  (∀ (s : State) (port : Port) (w : Fin 4) (v : Word) (n : Nat), s.winStall w = n → s.core.Free port (R.FIR_CTL.at n) →
    s.image.stState n = 0 ∨ s.image.stState n = 4 → firCtlBad (s.core.cls n) v = false →
    ∃ t, exec (.firCtlWrite port w v) s = .next t ∧
      t.core.reg (R.FIR_CTL.at n) = R.FIR_CTL.merge 0 (s.core.reg (R.FIR_CTL.at n)) v ∧
      bitOf (t.core.reg (R.WIN_STATUS.at w)) 5 = false ∧ s.Frame t [R.FIR_CTL.at n, R.WIN_STATUS.at w]) ∧
  (∀ (s : State) (port : Port) (w : Fin 4) (v : Word) (n : Nat), s.winStall w = n → s.core.Free port (R.FIR_CTL.at n) →
    (s.image.stState n ≠ 0 ∧ s.image.stState n ≠ 4) ∨ firCtlBad (s.core.cls n) v = true →
    ∃ t, exec (.firCtlWrite port w v) s = .next t ∧ bitOf (t.core.reg (R.WIN_STATUS.at w)) 5 = true ∧
      t.core.fld (R.WIN_STATUS.at w) 16 16 = min 0xFFFF (s.core.fld (R.WIN_STATUS.at w) 16 16 + 1) ∧
      t.core.reg (R.ST_EVENT.at n) = s.core.reg (R.ST_EVENT.at n) ||| bit 31 ∧ s.Frame t [R.WIN_STATUS.at w, R.ST_EVENT.at n]) ∧
  (∀ (s : State) (port : Port) (w : Fin 4) (j : Fin 64) (v : Word) (n : Nat), s.winStall w = n → s.core.Free port (R.COEF.at n j) →
    s.image.stState n = 0 ∨ s.image.stState n = 4 →
    ∃ t, exec (.coefWrite port w j v) s = .next t ∧ t.core.fld (R.COEF.at n j) 0 18 = fieldOf v 0 18 ∧
      bitOf (t.core.reg (R.WIN_STATUS.at w)) 5 = false ∧ s.Frame t [R.COEF.at n j, R.WIN_STATUS.at w]) ∧
  (∀ (s : State) (port : Port) (w : Fin 4) (j : Fin 64) (v : Word) (n : Nat), s.winStall w = n → s.core.Free port (R.COEF.at n j) →
    s.image.stState n ≠ 0 → s.image.stState n ≠ 4 →
    ∃ t, exec (.coefWrite port w j v) s = .next t ∧ bitOf (t.core.reg (R.WIN_STATUS.at w)) 5 = true ∧
      t.core.reg (R.ST_EVENT.at n) = s.core.reg (R.ST_EVENT.at n) ||| bit 31 ∧ s.Frame t [R.WIN_STATUS.at w, R.ST_EVENT.at n]) ∧
  (∀ (s : State) (port : Port) (n : Fin 256) (v : Word), s.core.Free port (R.CH_CFG.at n) → bitOf v 0 = false ∨ s.core.cls n = 7 →
    ∃ t, exec (.dcCfgWrite port n v) s = .next t ∧ bitOf (t.core.reg (R.CH_CFG.at n)) 0 = bitOf v 0 ∧ s.Frame t [R.CH_CFG.at n]) ∧
  (∀ (s : State) (port : Port) (n : Fin 256) (v : Word), s.core.Free port (R.CH_CFG.at n) → bitOf v 0 = true → s.core.cls n ≠ 7 →
    ∃ t, exec (.dcCfgWrite port n v) s = .next t ∧ t.core.reg (R.ST_EVENT.at n) = s.core.reg (R.ST_EVENT.at n) ||| bit 31 ∧
      s.Frame t [R.ST_EVENT.at n])

/-- R118: detector words are taken for FM and AM stalls and refused for others; a block that completes a run of blocks at or above THR turns
the detector ON and reports a TONE record; one that does not leaves its state.
Clauses may rest on the readings of log entries 37 and 66. -/
def Obligations.DetectorsFollowTheirBlocks : Prop :=
  (∀ (s : State) (port : Port) (w i : Fin 4) (v : Word) (n : Nat), s.winStall w = n → s.core.Free port (R.DET_THR.at n i) →
    s.core.cls n = 1 ∨ s.core.cls n = 2 →
    ∃ t, exec (.detectorCfgWrite port w i 2 v) s = .next t ∧ t.core.fld (R.DET_THR.at n i) 0 16 = fieldOf v 0 16 ∧
      bitOf (t.core.reg (R.WIN_STATUS.at w)) 5 = false ∧ s.Frame t [R.DET_THR.at n i, R.WIN_STATUS.at w]) ∧
  (∀ (s : State) (port : Port) (w i : Fin 4) (v : Word) (n : Nat), s.winStall w = n → s.core.Free port (R.DET_FREQ.at n i) →
    s.core.cls n = 1 ∨ s.core.cls n = 2 → fieldOf v 0 24 < (if s.core.cls n = 1 then 3072000 else 384000) →
    ∃ t, exec (.detectorCfgWrite port w i 1 v) s = .next t ∧ t.core.fld (R.DET_FREQ.at n i) 0 24 = fieldOf v 0 24 ∧
      s.Frame t [R.DET_FREQ.at n i, R.WIN_STATUS.at w]) ∧
  (∀ (s : State) (port : Port) (w i : Fin 4) (v : Word) (n : Nat), s.winStall w = n → s.core.Free port (R.DET_CFG.at n i) →
    s.core.cls n = 1 ∨ s.core.cls n = 2 → fieldOf v 4 4 ≠ 0 → fieldOf v 8 4 ≠ 0 → 63 ≤ fieldOf v 16 16 →
    s.core.ratesFit n { s.core.rateCfg n with dets := (s.core.rateCfg n).dets.set i (R.DET_CFG.merge 0 (s.core.reg (R.DET_CFG.at n i)) v) } = true →
    ∃ t, exec (.detectorCfgWrite port w i 0 v) s = .next t ∧
      t.core.reg (R.DET_CFG.at n i) = R.DET_CFG.merge 0 (s.core.reg (R.DET_CFG.at n i)) v ∧
      s.Frame t [R.DET_CFG.at n i, R.WIN_STATUS.at w] (fun c d => { c with stalls := d.stalls })) ∧
  (∀ (s : State) (port : Port) (w i : Fin 4) (v : Word) (n : Nat), s.winStall w = n → s.core.Free port (R.DET_THR.at n i) →
    s.core.cls n ≠ 1 → s.core.cls n ≠ 2 →
    ∃ t, exec (.detectorCfgWrite port w i 2 v) s = .next t ∧ bitOf (t.core.reg (R.WIN_STATUS.at w)) 5 = true ∧
      t.core.reg (R.ST_EVENT.at n) = s.core.reg (R.ST_EVENT.at n) ||| bit 31 ∧ s.Frame t [R.WIN_STATUS.at w, R.ST_EVENT.at n]) ∧
  (∀ (s : State) (n : Fin 256) (i : Fin 4) (r : BitVec 16) (stamp : Nat), s.runs 6 = true → (s.core.det n i).running = true →
    s.core.live n = true → s.core.settling n = false → bitOf (s.core.reg (R.DET_RESULT.at n i)) 16 = false →
    bitOf (s.core.reg (R.DET_CFG.at n i)) 0 = true → ((s.core.det n i).thr.extractLsb' 0 16).sle r = true →
    fieldOf (s.core.det n i).cfg 4 4 ≤ (s.core.det n i).hits + 1 →
    ∃ t, exec (.detectorBlockEnd n i r stamp) s = .next t ∧ bitOf (t.core.reg (R.DET_RESULT.at n i)) 16 = true ∧
      t.core.fld (R.DET_RESULT.at n i) 0 16 = r.toNat ∧ (t.core.det n i).misses = 0 ∧
      t.core.made.length = s.core.made.length + 1 ∧ (∀ p ∈ t.core.made.getLast?, p.typ = 0x06 ∧ p.source = n.val ∧ p.stamp = stamp) ∧
      s.Frame t [R.DET_RESULT.at n i] (fun c d => { c with stalls := d.stalls, made := d.made })) ∧
  (∀ (s : State) (n : Fin 256) (i : Fin 4) (r : BitVec 16) (stamp : Nat), s.runs 6 = true → (s.core.det n i).running = true →
    s.core.live n = true → s.core.settling n = false → bitOf (s.core.reg (R.DET_RESULT.at n i)) 16 = false →
    bitOf (s.core.reg (R.DET_CFG.at n i)) 0 = true → ((s.core.det n i).thr.extractLsb' 0 16).sle r = false →
    fieldOf (s.core.det n i).cfg 4 4 ≠ 0 →
    ∃ t, exec (.detectorBlockEnd n i r stamp) s = .next t ∧ bitOf (t.core.reg (R.DET_RESULT.at n i)) 16 = false ∧
      (t.core.det n i).hits = 0 ∧ s.Frame t [R.DET_RESULT.at n i] (fun c d => { c with stalls := d.stalls })) ∧
  (∀ (s : State) (n : Fin 256) (i : Fin 4) (r : BitVec 16) (stamp : Nat), (s.core.det n i).running = false →
    exec (.detectorBlockEnd n i r stamp) s = .next s)

/-- R101, R122 to R125, R137, R147: saturation is counted and shown; a fast level, a gait window's level and quality, and the combiner's
weights are published with their words, and nothing is published before its time.
Clauses may rest on the readings of log entries 22, 64 and 65. -/
def Obligations.LevelsArePublished : Prop :=
  (∀ (s : State) (b : Bool) (k : Fin 192) (n : Nat), s.runs 6 = true → 0 < n → s.core.inputOn (if b then 2 else 1) = true →
    ∃ t, exec (.binSat b k n []) s = .next t ∧
      t.core.reg (if b then R.BIN_SAT_B.at else R.BIN_SAT_A.at) =
        BitVec.ofNat 32 (satAdd 32 (s.core.reg (if b then R.BIN_SAT_B.at else R.BIN_SAT_A.at)).toNat n) ∧
      bitOf (t.core.reg (R.PG_EVENT.at 6)) 0 = true ∧
      s.Frame t ([if b then R.BIN_SAT_B.at else R.BIN_SAT_A.at, R.PG_EVENT.at 6] ++ (List.range 256).map (fun m => R.ST_EVENT.at m))) ∧
  (∀ (s : State) (b : Bool) (k : Fin 192) (n : Fin 256) (e : Fin 9), s.runs 6 = true → s.core.live n = true →
    ∃ t, exec (.binSat b k 0 [(n, e)]) s = .next t ∧
      t.core.reg R.CH_SAT_LAST.at = BitVec.ofNat 32 (n.val + 2 ^ 8 * e.val + 2 ^ 31) ∧ (t.core.stallRec n).sat = true ∧
      bitOf (t.core.reg (R.PG_EVENT.at 6)) 1 = true ∧
      s.Frame t [R.CH_SAT_CNT.at, R.PG_EVENT.at 6, R.CH_SAT_LAST.at] (fun c d => { c with stalls := d.stalls })) ∧
  (∀ (s : State) (n : Fin 256) (a b : BitVec 16) (g : ChainCfg), s.runs 6 = true → s.core.chain n = some g → s.core.live n = true →
    fastDue g (s.core.stallRec n).tr s.core.now = true → s.core.antMode n ≠ 2 →
    ∃ t, exec (.fastLevelPublish n a b) s = .next t ∧ t.core.fld (R.ST_LEVEL_FAST.at n) 0 16 = a.toNat ∧
      bitOf (t.core.reg (R.ST_LEVEL_FAST.at n)) 18 = true ∧
      t.core.fld (R.ST_LEVEL_FAST.at n) 24 8 = (s.core.fld (R.ST_LEVEL_FAST.at n) 24 8 + 1) % 256 ∧
      s.Frame t [R.ST_LEVEL_FAST.at n]) ∧
  (∀ (s : State) (n : Fin 256) (a b : BitVec 16), s.core.live n = false → exec (.fastLevelPublish n a b) s = .next s) ∧
  (∀ (s : State) (n : Fin 256) (w : GaitWin) (e gait count : Nat) (part : Bool), s.runs 6 = true → s.core.live n = true →
    (s.core.stallRec n).lastWin = none → s.core.gaitDue n s.core.now = some (e, gait, count, part) → 0 < count → gait < 4 →
    s.core.antMode n ≠ 2 → s.core.cls n = 6 →
    ∃ t, exec (.gaitWindowPublish n w) s = .next t ∧ t.core.fld (R.ST_LEVEL_FINE.at n) 0 16 = w.levelA.toNat ∧
      t.core.fld (R.ST_LEVEL_FINE.at n) 16 2 = gait ∧ bitOf (t.core.reg (R.ST_LEVEL_FINE.at n)) 18 = true ∧
      bitOf (t.core.reg (R.ST_LEVEL_FINE.at n)) 19 = part ∧
      t.core.fld (R.ST_LEVEL_FINE.at n) 24 8 = (s.core.fld (R.ST_LEVEL_FINE.at n) 24 8 + 1) % 256 ∧
      (∀ q ∈ w.quality, t.core.fld (R.ST_QUALITY.at n) 0 16 = q.toNat) ∧
      s.Frame t [R.ST_LEVEL_FINE.at n, R.D_LEVEL_A.at n, R.D_LEVEL_B.at n, R.ST_QUALITY.at n, R.ST_EVENT.at n]
        (fun c d => { c with stalls := d.stalls })) ∧
  (∀ (s : State) (n : Fin 256) (w : GaitWin), s.core.stState n = 0 → exec (.gaitWindowPublish n w) s = .next s) ∧
  (∀ (s : State) (n : Fin 256) (a b : Word) (g : ChainCfg) (e count : Nat) (part : Bool), s.runs 7 = true →
    s.core.chain n = some g → s.core.windowDue n (gaitLength (weightGait g)) s.core.now = some (e, count, part) → 256 ≤ count →
    s.core.live n = true → s.core.antMode n = 2 → bitOf (s.core.reg (R.ST_ANT.at n)) 2 = false → a.toNat < 0x8000 →
    ∃ t, exec (.mrcWeightUpdate n a b) s = .next t ∧ t.core.reg (R.D_W_A.at n) = a ∧ t.core.reg (R.D_W_B.at n) = b ∧
      s.Frame t [R.D_W_A.at n, R.D_W_B.at n]) ∧
  (∀ (s : State) (n : Fin 256) (a b : Word), s.core.antMode n ≠ 2 → exec (.mrcWeightUpdate n a b) s = .next s)

/-! ### The FM and AM engines -/

/-- R156 to R158, R172: a block read in sync is counted by what it was, the fourth block of a group that began with its block A makes the
group pennant, twelve blocks in a row without a codeword end the sync; a scout learns the PI of two agreeing block-A words.
Clauses may rest on the readings of log entries 21 and 73. -/
def Obligations.RdsBlocksMakeGroups : Prop :=
  (∀ (s : State) (n : Fin 256) (k : Fin 4) (b : BitVec 26) (er : Bool) (i stamp : Nat), s.core.rdsOn n k = true →
    (((s.core.fmRec n).stream k).block b.toNat er i (s.core.fld (R.FM_CFG.at n) 11 3)).acquired = true →
    ∃ t, exec (.rdsBlock (.stall n) k b er i stamp) s = .next t ∧ bitOf (t.core.reg (R.FM_STATUS.at n)) (9 + k) = true ∧
      s.Frame t [R.FM_STATUS.at n] (fun c d => { c with fm := d.fm })) ∧
  (∀ (s : State) (n : Fin 256) (k : Fin 4) (b : BitVec 26) (er : Bool) (i stamp pos w : Nat) (cp : Bool), s.core.rdsOn n k = true →
    (((s.core.fmRec n).stream k).block b.toNat er i (s.core.fld (R.FM_CFG.at n) 11 3)).acquired = false →
    (((s.core.fmRec n).stream k).block b.toNat er i (s.core.fld (R.FM_CFG.at n) 11 3)).read = some (pos, w, 0, cp) →
    (((s.core.fmRec n).stream k).block b.toNat er i (s.core.fld (R.FM_CFG.at n) 11 3)).lost = false → pos ≠ 3 → k = 0 →
    ∃ t, exec (.rdsBlock (.stall n) k b er i stamp) s = .next t ∧
      t.core.reg (R.ST_COUNTER.at n 0) = BitVec.ofNat 32 (satAdd 32 (s.core.reg (R.ST_COUNTER.at n 0)).toNat 1) ∧
      t.core.made = s.core.made ∧ s.Frame t [R.ST_COUNTER.at n 0] (fun c d => { c with fm := d.fm })) ∧
  (∀ (s : State) (n : Fin 256) (b : BitVec 26) (er : Bool) (i stamp w st : Nat) (cp : Bool) (x : RdsStream), s.core.rdsOn n 1 = true →
    ((s.core.fmRec n).stream 1).block b.toNat er i (s.core.fld (R.FM_CFG.at n) 11 3) =
      { stream := x, read := some (3, w, st, cp), acquired := false, lost := false } →
    x.open_ = true → x.words.length = 4 → (∃ e ∈ x.words, e.2 < 2) →
    ∃ t, exec (.rdsBlock (.stall n) 1 b er i stamp) s = .next t ∧ t.core.made.length = s.core.made.length + 1 ∧
      (∀ p ∈ t.core.made.getLast?, p.typ = 0x02 ∧ p.source = n.val ∧ p.sub = 1 ∧ p.stamp = stamp ∧
        p.payload.take 8 = x.words.flatMap (fun e => leBytes 2 e.1)) ∧
      s.Frame t ((List.range 16).map (fun j => R.ST_COUNTER.at n j)) (fun c d => { c with fm := d.fm, made := d.made })) ∧
  (∀ (s : State) (n : Fin 256) (k : Fin 4) (b : BitVec 26) (er : Bool) (i stamp : Nat), s.core.rdsOn n k = false →
    exec (.rdsBlock (.stall n) k b er i stamp) s = .next s) ∧
  (∀ (s : State) (j : Fin 64) (b : BitVec 26) (er : Bool) (i stamp w st : Nat) (cp : Bool), (s.core.scout j).use = 1 ∨ (s.core.scout j).use = 2 →
    ((s.core.scout j).rds.block b.toNat er i (s.core.fld (R.FM_CFG.at (s.core.scout j).stall) 11 3)).read = some (0, w, st, cp) →
    st < 2 → (s.core.scout j).pi ≠ some w →
    ∃ t, exec (.rdsBlock (.scout j) 0 b er i stamp) s = .next t ∧ (t.core.scout j).pi = some w ∧
      s.Frame t [] (fun c d => { c with scouts := d.scouts }))

/-- R153, R154, R160, R161, R169: impulses and pilot losses are counted, PILOT follows a deviation of 3.0 kHz or more, MPX power is shown over
at most 60 windows, and a whole histogram period makes sixteen pennants.
Clauses may rest on the readings of log entries 75 and 76. -/
def Obligations.FmFiguresAreShown : Prop :=
  (∀ (s : State) (n : Fin 256), s.core.fmLive n = true → bitOf (s.core.reg (R.FM_CFG.at n)) 4 = true →
    ∃ t, exec (.noiseBlank n) s = .next t ∧
      t.core.reg (R.ST_COUNTER.at n 9) = BitVec.ofNat 32 (satAdd 32 (s.core.reg (R.ST_COUNTER.at n 9)).toNat 1) ∧
      s.Frame t [R.ST_COUNTER.at n 9]) ∧
  (∀ (s : State) (n : Fin 256), s.core.fmLive n = false → exec (.noiseBlank n) s = .next s) ∧
  (∀ (s : State) (n : Fin 256) (d : BitVec 8), s.core.fmLive n = true → 96 ≤ d.toNat → bitOf (s.core.reg (R.FM_STATUS.at n)) 0 = false →
    ∃ t, exec (.pilotChange n true d) s = .next t ∧ bitOf (t.core.reg (R.FM_STATUS.at n)) 0 = true ∧
      t.core.fld (R.FM_MPX.at n) 24 8 = d.toNat ∧ s.Frame t [R.FM_STATUS.at n, R.FM_MPX.at n]) ∧
  (∀ (s : State) (n : Fin 256) (d : BitVec 8), s.core.fmLive n = true → bitOf (s.core.reg (R.FM_STATUS.at n)) 0 = true →
    ∃ t, exec (.pilotChange n false d) s = .next t ∧ bitOf (t.core.reg (R.FM_STATUS.at n)) 0 = false ∧
      t.core.reg (R.ST_COUNTER.at n 10) = BitVec.ofNat 32 (satAdd 32 (s.core.reg (R.ST_COUNTER.at n 10)).toNat 1) ∧
      s.Frame t [R.FM_STATUS.at n, R.FM_MPX.at n, R.ST_COUNTER.at n 10]) ∧
  (∀ (s : State) (n : Fin 256) (d : BitVec 8), d.toNat < 96 → exec (.pilotChange n true d) s = .next s) ∧
  (∀ (s : State) (n : Fin 256) (p : BitVec 16) (d q : BitVec 8), s.core.fmLive n = true → bitOf (s.core.reg (R.FM_CFG.at n)) 15 = false →
    ∃ t, exec (.mpxPowerUpdate n true p d q) s = .next t ∧ t.core.fld (R.FM_MPX.at n) 0 16 = p.toNat ∧
      bitOf (t.core.reg (R.FM_MPX.at n)) 16 = true ∧ bitOf (t.core.reg (R.FM_MPX.at n)) 18 = (0#16).slt p ∧
      t.core.fld (R.FM_MPX.at n) 24 8 = d.toNat ∧ (t.core.fmRec n).mpxWindows = min 60 ((s.core.fmRec n).mpxWindows + 1) ∧
      s.Frame t [R.FM_MPX.at n] (fun c d => { c with fm := d.fm })) ∧
  (∀ (s : State) (n : Fin 256) (p : BitVec 16) (d q : BitVec 8), s.core.fmLive n = false →
    exec (.mpxPowerUpdate n true p d q) s = .next s) ∧
  (∀ (s : State) (n : Fin 256) (bins : List Nat) (stamp : Nat), s.core.fmLive n = true → s.core.fld (R.FM_CFG.at n) 16 12 ≠ 0 →
    s.core.fld (R.FM_CFG.at n) 16 12 * 49152000 ≤ stamp → stamp % (s.core.fld (R.FM_CFG.at n) 16 12 * 49152000) = 0 →
    (s.core.fmRec n).histFrom ≤ stamp - s.core.fld (R.FM_CFG.at n) 16 12 * 49152000 →
    ∃ t, exec (.devHistPeriodEnd n bins stamp) s = .next t ∧ t.core.made.length = s.core.made.length + 16 ∧
      (∀ p ∈ t.core.made.drop s.core.made.length, p.typ = 0x05 ∧ p.source = n.val ∧ p.stamp = stamp) ∧
      t.core.reg (R.ST_COUNTER.at n 13) = BitVec.ofNat 32 (satAdd 32 (s.core.reg (R.ST_COUNTER.at n 13)).toNat 1) ∧
      s.Frame t [R.ST_COUNTER.at n 13] (fun c d => { c with made := d.made }))

/-- R163, R166, R167: the AM carrier lock changes are shown, counted when lost and reported; AMSS sync takes two clean blocks in turn, a block
in sync is counted and makes its pennant.
Clauses may rest on the readings of log entries 21 and 74. -/
def Obligations.AmCarrierAndAmssAreFollowed : Prop :=
  (∀ (s : State) (n : Fin 256) (cfo level : BitVec 16) (stamp : Nat), s.core.amLive n = true →
    bitOf (s.core.reg (R.AM_STATUS.at n)) 0 = false →
    ∃ t, exec (.carrierLockChange n true cfo level stamp) s = .next t ∧ bitOf (t.core.reg (R.AM_STATUS.at n)) 0 = true ∧
      bitOf (t.core.reg (R.AM_STATUS.at n)) 2 = false ∧ t.core.fld (R.AM_STATUS.at n) 16 16 = cfo.toNat ∧
      t.core.made.length = s.core.made.length + 1 ∧ (∀ p ∈ t.core.made.getLast?, p.typ = 0x09 ∧ p.source = n.val ∧ p.stamp = stamp) ∧
      s.Frame t [R.AM_STATUS.at n, R.AM_CARRIER.at n] (fun c d => { c with made := d.made })) ∧
  (∀ (s : State) (n : Fin 256) (cfo level : BitVec 16) (stamp : Nat), s.core.amLive n = true →
    bitOf (s.core.reg (R.AM_STATUS.at n)) 0 = true →
    ∃ t, exec (.carrierLockChange n false cfo level stamp) s = .next t ∧ bitOf (t.core.reg (R.AM_STATUS.at n)) 0 = false ∧
      bitOf (t.core.reg (R.AM_STATUS.at n)) 2 = decide (s.core.fld (R.AM_CFG.at n) 0 2 ≠ 0) ∧
      t.core.reg (R.ST_COUNTER.at n 5) = BitVec.ofNat 32 (satAdd 32 (s.core.reg (R.ST_COUNTER.at n 5)).toNat 1) ∧
      s.Frame t [R.AM_STATUS.at n, R.AM_CARRIER.at n, R.ST_COUNTER.at n 5] (fun c d => { c with made := d.made })) ∧
  (∀ (s : State) (n : Fin 256) (lock : Bool) (cfo level : BitVec 16) (stamp : Nat), bitOf (s.core.reg (R.AM_STATUS.at n)) 0 = lock →
    exec (.carrierLockChange n lock cfo level stamp) s = .next s) ∧
  (∀ (s : State) (n : Fin 256) (kind : BitVec 8) (info : BitVec 40) (stamp k : Nat), s.core.amLive n = true →
    bitOf (s.core.reg (R.AM_CFG.at n)) 2 = true → bitOf (s.core.reg (R.AM_STATUS.at n)) 0 = true →
    bitOf (s.core.reg (R.AM_STATUS.at n)) 1 = false → (s.core.amRec n).prev = some k → k ≠ kind.toNat →
    ∃ t, exec (.amssBlock n kind 0 info stamp) s = .next t ∧ bitOf (t.core.reg (R.AM_STATUS.at n)) 1 = true ∧
      t.core.made.length = s.core.made.length + 1 ∧
      s.Frame t [R.AM_STATUS.at n] (fun c d => { c with am := d.am, made := d.made })) ∧
  (∀ (s : State) (n : Fin 256) (kind : BitVec 8) (info : BitVec 40) (stamp : Nat), s.core.amLive n = true →
    bitOf (s.core.reg (R.AM_CFG.at n)) 2 = true → bitOf (s.core.reg (R.AM_STATUS.at n)) 0 = true →
    bitOf (s.core.reg (R.AM_STATUS.at n)) 1 = true →
    ∃ t, exec (.amssBlock n kind 0 info stamp) s = .next t ∧
      t.core.reg (R.ST_COUNTER.at n 0) = BitVec.ofNat 32 (satAdd 32 (s.core.reg (R.ST_COUNTER.at n 0)).toNat 1) ∧
      t.core.reg (R.ST_COUNTER.at n 3) = BitVec.ofNat 32 (satAdd 32 (s.core.reg (R.ST_COUNTER.at n 3)).toNat 1) ∧
      t.core.made.length = s.core.made.length + 1 ∧
      (∀ p ∈ t.core.made.getLast?, p.typ = 0x08 ∧ p.sub = kind.toNat ∧ p.stamp = stamp ∧ p.payload.take 5 = leBytes 5 info.toNat) ∧
      s.Frame t [R.ST_COUNTER.at n 0, R.ST_COUNTER.at n 3] (fun c d => { c with am := d.am, made := d.made }))

/-- R168 to R170: the class words of an FM or AM stall are taken while it is CLOSED (within the queue's rate), and refused while it is OPENING
or CLOSING; a reserved value is refused.
Clauses may rest on the readings of log entries 37 and 74. -/
def Obligations.AnalogueClassWordsAreWritten : Prop :=
  (∀ (s : State) (port : Port) (n : Fin 256) (v : Word), s.core.Free port (R.FM_CFG.at n) → s.core.cls n = 1 → s.core.stState n = 0 →
    fmCfgBad v = false →
    s.core.ratesFit n { s.core.rateCfg n with word := R.FM_CFG.merge 0 (s.core.reg (R.FM_CFG.at n)) v } = true →
    ∃ t, exec (.fmCfgWrite port n v) s = .next t ∧ t.core.reg (R.FM_CFG.at n) = R.FM_CFG.merge 0 (s.core.reg (R.FM_CFG.at n)) v ∧
      s.Frame t [R.FM_CFG.at n, R.FM_STATUS.at n] (fun c d => { c with fm := d.fm })) ∧
  (∀ (s : State) (port : Port) (n : Fin 256) (v : Word), s.core.Free port (R.FM_CFG.at n) → s.core.cls n = 1 →
    s.core.stState n = 1 ∨ s.core.stState n = 6 ∨ fmCfgBad v = true →
    ∃ t, exec (.fmCfgWrite port n v) s = .next t ∧ t.core.reg (R.ST_EVENT.at n) = s.core.reg (R.ST_EVENT.at n) ||| bit 31 ∧
      s.Frame t [R.ST_EVENT.at n]) ∧
  (∀ (s : State) (port : Port) (n : Fin 256) (v : Word), s.core.Free port (R.AM_CFG.at n) → s.core.cls n = 2 → s.core.stState n = 0 →
    s.core.ratesFit n { s.core.rateCfg n with word := R.AM_CFG.merge 0 (s.core.reg (R.AM_CFG.at n)) v } = true →
    bitOf (s.core.reg (R.AM_STATUS.at n)) 1 = false →
    ∃ t, exec (.amCfgWrite port n v) s = .next t ∧ t.core.reg (R.AM_CFG.at n) = R.AM_CFG.merge 0 (s.core.reg (R.AM_CFG.at n)) v ∧
      s.Frame t [R.AM_CFG.at n, R.AM_STATUS.at n]) ∧
  (∀ (s : State) (port : Port) (n : Fin 256) (v : Word), s.core.Free port (R.AM_CFG.at n) → s.core.cls n = 2 →
    s.core.stState n = 1 ∨ s.core.stState n = 6 →
    ∃ t, exec (.amCfgWrite port n v) s = .next t ∧ t.core.reg (R.ST_EVENT.at n) = s.core.reg (R.ST_EVENT.at n) ||| bit 31 ∧
      s.Frame t [R.ST_EVENT.at n])

/-! ### DAB, DRM, timecode and the listening set -/

/-- R176, R177: the DAB engine enters COARSE, FRAME with an empty service table, and ENSEMBLE, and leaves them, only by the moves R176 allows;
each change reports DAB_STATE; a frame that passes gives its null symbol to the track that names the stall, another is counted missing.
Clauses may rest on the readings of log entry 78. -/
def Obligations.DabSyncFollowsTheFrames : Prop :=
  (∀ (s : State) (n : Fin 256) (cfo : BitVec 16) (stamp : Nat), s.core.dabLive n = true → s.core.dabSync n = 0 →
    ∃ t, exec (.dabSyncChange n 1 cfo stamp) s = .next t ∧ t.core.dabSync n = 1 ∧ t.core.fld (R.DAB_CIF.at n) 16 16 = cfo.toNat ∧
      (t.core.dabRec n).miss = 0 ∧ (∀ p ∈ t.core.made.getLast?, p.typ = 0x11 ∧ p.source = n.val ∧ p.stamp = stamp) ∧
      t.core.made.length = s.core.made.length + 1 ∧
      s.Frame t [R.DAB_STATUS.at n, R.DAB_CIF.at n] (fun c d => { c with dab := d.dab, made := d.made })) ∧
  (∀ (s : State) (n : Fin 256) (cfo : BitVec 16) (stamp : Nat), s.core.dabLive n = true → s.core.dabSync n = 1 → 2 ≤ (s.core.dabRec n).passes →
    ∃ t, exec (.dabSyncChange n 2 cfo stamp) s = .next t ∧ t.core.dabSync n = 2 ∧ (∀ i : Fin 64, t.core.svcValid n i = false) ∧
      (t.core.dabRec n).subs = [] ∧ t.core.fld (R.DAB_STATUS.at n) 8 7 = 0 ∧ t.core.made.length = s.core.made.length + 1) ∧
  (∀ (s : State) (n : Fin 256) (cfo : BitVec 16) (stamp : Nat), s.core.dabLive n = true → s.core.dabSync n = 2 →
    s.core.dabMoveOk n 3 = true →
    ∃ t, exec (.dabSyncChange n 3 cfo stamp) s = .next t ∧ t.core.dabSync n = 3 ∧ bitOf (t.core.reg (R.DAB_STATUS.at n)) 2 = true ∧
      t.core.made.length = s.core.made.length + 1 ∧ s.Frame t [R.DAB_STATUS.at n, R.DAB_CIF.at n] (fun c d => { c with made := d.made })) ∧
  (∀ (s : State) (n : Fin 256) (cfo : BitVec 16) (stamp : Nat), s.core.dabLive n = true → 2 ≤ s.core.dabSync n →
    3 ≤ (s.core.dabRec n).miss → (∀ k : Fin 4, s.core.trkSrc k ≠ 4) →
    ∃ t, exec (.dabSyncChange n 0 cfo stamp) s = .next t ∧ t.core.dabSync n = 0 ∧ bitOf (t.core.reg (R.DAB_STATUS.at n)) 2 = false ∧
      (t.core.reg (Core.sideAddr n 0x8C)).toNat = satAdd 32 (s.core.reg (Core.sideAddr n 0x8C)).toNat 1 ∧
      s.Frame t [R.DAB_STATUS.at n, R.DAB_CIF.at n, Core.sideAddr n 0x8C] (fun c d => { c with dab := d.dab, made := d.made })) ∧
  (∀ (s : State) (n : Fin 256) (goal : Fin 4) (cfo : BitVec 16) (stamp : Nat), s.core.dabMoveOk n goal = false →
    exec (.dabSyncChange n goal cfo stamp) s = .next s) ∧
  (∀ (s : State) (n : Fin 256) (instant cif : Nat), s.core.dabLive n = true → 2 ≤ s.core.dabSync n →
    ∃ t, exec (.dabFrameStart n instant false cif) s = .next t ∧ (t.core.dabRec n).miss = (s.core.dabRec n).miss + 1 ∧
      t.core.fld (R.DAB_CIF.at n) 0 13 = (cif + 3) % 5000 ∧
      (t.core.reg (Core.sideAddr n 0x88)).toNat = satAdd 32 (s.core.reg (Core.sideAddr n 0x88)).toNat 1 ∧
      s.Frame t [R.DAB_CIF.at n, Core.sideAddr n 0x88] (fun c d => { c with dab := d.dab })) ∧
  (∀ (s : State) (n : Fin 256) (instant cif : Nat), s.core.dabLive n = true → 2 ≤ s.core.dabSync n →
    (∀ k : Fin 4, s.core.trkSrc k ≠ 4 ∨ s.core.fld (R.TRK_CFG.at k) 8 8 ≠ n) →
    ∃ t, exec (.dabFrameStart n instant true cif) s = .next t ∧ (t.core.dabRec n).miss = 0 ∧
      (t.core.dabRec n).cifs = (s.core.dabRec n).cifs + 4 ∧ t.core.fld (R.DAB_CIF.at n) 0 13 = (cif + 3) % 5000 ∧
      s.Frame t [R.DAB_CIF.at n] (fun c d => { c with dab := d.dab })) ∧
  (∀ (s : State) (n : Fin 256) (k : Fin 4) (instant cif : Nat), s.core.dabLive n = true → 2 ≤ s.core.dabSync n → s.core.trkSrc k = 4 →
    s.core.fld (R.TRK_CFG.at k) 8 8 = n → (∀ j : Fin 4, j ≠ k → s.core.trkSrc j ≠ 4) →
    ∃ t, exec (.dabFrameStart n instant true cif) s = .next t ∧
      t.core = ((s.core.setDab n { s.core.dabRec n with miss := 0, settled := (s.core.dabRec n).settled + 1, cifs := (s.core.dabRec n).cifs + 4, fic := [], ficAl := false, ficAlarm := false, ficClear := false }).setFld (R.DAB_CIF.at n) 0 13 ((cif + 3) % 5000)).edge k instant) ∧
  (∀ (s : State) (n : Fin 256) (instant cif : Nat) (b : Bool), s.core.dabSync n = 0 → exec (.dabFrameStart n instant b cif) s = .next s)

/-- R179, R180, R182 to R184: FIBs are counted, and what FIGs say enters the tables of the engine; a reconfiguration takes the announced
organisation; TII windows and alarms are reported.
Clauses may rest on the readings of log entries 23, 78 and 79. -/
def Obligations.FicIsReadAndReported : Prop :=
  (∀ (s : State) (n : Fin 256) (i : Fin 11) (bytes : List Byte) (figs : List Fig) (stamp : Nat), s.core.dabLive n = true →
    2 ≤ s.core.dabSync n → fibGood bytes = false →
    ∃ t, exec (.fibDecode n (i.castSucc) bytes figs stamp) s = .next t ∧ (t.core.dabRec n).fic = (s.core.dabRec n).fic ++ bytes ∧
      (t.core.reg (Core.sideAddr n 0x84)).toNat = satAdd 32 (s.core.reg (Core.sideAddr n 0x84)).toNat 1 ∧
      s.Frame t [Core.sideAddr n 0x84] (fun c d => { c with dab := d.dab })) ∧
  (∀ (s : State) (n : Fin 256) (i : Fin 11) (bytes data : List Byte) (eid : BitVec 16) (cif : Nat) (al : Bool) (stamp : Nat),
    s.core.dabLive n = true → 2 ≤ s.core.dabSync n → fibGood bytes = true → s.core.fld (R.DAB_CFG.at n) 0 2 = 2 →
    ∃ t, exec (.fibDecode n (i.castSucc) bytes [⟨0, 0, data, .ensemble eid cif al none⟩] stamp) s = .next t ∧
      t.core.fld (R.DAB_STATUS.at n) 16 16 = eid.toNat ∧ t.core.fld (R.DAB_CIF.at n) 0 13 = cif % 5000 ∧ (t.core.dabRec n).fig00 = true ∧
      (t.core.reg (Core.sideAddr n 0x80)).toNat = satAdd 32 (s.core.reg (Core.sideAddr n 0x80)).toNat 1 ∧
      s.Frame t [Core.sideAddr n 0x80, R.DAB_STATUS.at n, R.DAB_CIF.at n] (fun c d => { c with dab := d.dab })) ∧
  (∀ (s : State) (n : Fin 256) (i : Fin 11) (bytes data : List Byte) (stamp : Nat), s.core.dabLive n = true → 2 ≤ s.core.dabSync n →
    fibGood bytes = true → s.core.fld (R.DAB_CFG.at n) 0 2 = 0 → 0 < data.length →
    ∃ t, exec (.fibDecode n (i.castSucc) bytes [⟨0, 0, data, .other⟩] stamp) s = .next t ∧
      t.core.made.length = s.core.made.length + (data.length + 13) / 14 ∧
      (∀ p ∈ t.core.made.drop s.core.made.length, p.typ = 0x10 ∧ p.source = n.val ∧ p.stamp = stamp) ∧
      (t.core.reg (Core.sideAddr n 0x90)).toNat = satAdd 32 (s.core.reg (Core.sideAddr n 0x90)).toNat ((data.length + 13) / 14) ∧
      s.Frame t [Core.sideAddr n 0x80, Core.sideAddr n 0x90] (fun c d => { c with dab := d.dab, made := d.made })) ∧
  (∀ (s : State) (n : Fin 256) (stamp apply : Nat) (conf : List (Nat × SubCh)), s.core.dabLive n = true → 2 ≤ s.core.dabSync n →
    (s.core.dabRec n).next = some (apply, conf) → (s.core.dabRec n).nextSvc = [] → (∀ i : Fin 64, s.core.svcValid n i = false) →
    s.core.decodes = [] →
    ∃ t, exec (.dabReconfig n stamp) s = .next t ∧ (t.core.dabRec n).next = none ∧
      t.core.fld (R.DAB_STATUS.at n) 8 7 = (t.core.dabRec n).count % 128 ∧
      (t.core.reg (Core.sideAddr n 0xA8)).toNat = satAdd 32 (s.core.reg (Core.sideAddr n 0xA8)).toNat 1 ∧
      t.core.made.length = s.core.made.length + 1 ∧
      s.Frame t [R.DAB_STATUS.at n, Core.sideAddr n 0xA8] (fun c d => { c with dab := d.dab, made := d.made })) ∧
  (∀ (s : State) (n : Fin 256) (stamp : Nat), (s.core.dabRec n).next = none → exec (.dabReconfig n stamp) s = .next s) ∧
  (∀ (s : State) (n : Fin 256) (pairs : List (Fin 70 × Fin 24 × BitVec 16 × Word)) (cif stamp : Nat), s.core.dabLive n = true →
    bitOf (s.core.reg (R.DAB_CFG.at n)) 3 = true → cif % (4 * s.core.fld (R.DAB_CFG.at n) 4 4) = 0 → s.core.dabSync n = 3 →
    (s.core.dabRec n).tiiBroken = false →
    ∃ t, exec (.tiiWindowEnd n pairs cif stamp) s = .next t ∧ t.core.made.length = s.core.made.length + min 24 pairs.length ∧
      t.core.fld (R.DAB_TII.at n) 0 8 = min 24 pairs.length ∧
      (t.core.reg (Core.sideAddr n 0xAC)).toNat = satAdd 32 (s.core.reg (Core.sideAddr n 0xAC)).toNat 1 ∧
      s.Frame t [R.DAB_TII.at n, Core.sideAddr n 0xAC] (fun c d => { c with dab := d.dab, made := d.made })) ∧
  (∀ (s : State) (n : Fin 256) (stamp : Nat), s.core.dabLive n = true → bitOf (s.core.reg (R.DAB_CFG.at n)) 16 = true →
    bitOf (s.core.reg (R.DAB_STATUS.at n)) 3 = false → (s.core.dabRec n).ficAl = true → (s.core.dabRec n).ficAlarm = true →
    ∃ t, exec (.alarmStart n stamp) s = .next t ∧ bitOf (t.core.reg (R.DAB_STATUS.at n)) 3 = true ∧
      t.core.made.length = s.core.made.length + 2 ∧
      (∀ p ∈ (t.core.made.drop s.core.made.length).head?, p.typ = 0x12 ∧ p.alert = true ∧ p.sub = 1 ∧ p.due = some (stamp + fineMs 2)) ∧
      s.Frame t [R.DAB_STATUS.at n, Core.sideAddr n 0xB0] (fun c d => { c with made := d.made })) ∧
  (∀ (s : State) (n : Fin 256) (stamp : Nat), bitOf (s.core.reg (R.DAB_CFG.at n)) 16 = false → exec (.alarmStart n stamp) s = .next s) ∧
  (∀ (s : State) (n : Fin 256) (stamp : Nat), s.core.dabLive n = true → bitOf (s.core.reg (R.DAB_STATUS.at n)) 3 = true →
    (s.core.dabRec n).ficClear = true ∨ (s.core.dabRec n).alarmAt + 2 * ticksPerSecond ≤ s.core.now →
    ∃ t, exec (.alarmEnd n stamp) s = .next t ∧ bitOf (t.core.reg (R.DAB_STATUS.at n)) 3 = false ∧
      t.core.made.length = s.core.made.length + 2 ∧
      (∀ p ∈ (t.core.made.drop s.core.made.length).head?, p.typ = 0x12 ∧ p.alert = true ∧ p.sub = 0) ∧
      s.Frame t [R.DAB_STATUS.at n] (fun c d => { c with made := d.made }))

/-- R180, R181, R187, R193, R194, R263: a native frame that reaches its bay in time is stored whole where the bay stands, the rest of the Shed
unchanged, and each subscription of it gets one descriptor; one that does not fit goes to the start of the bay behind a filler.
Clauses may rest on the readings of log entry 77. -/
def Obligations.NativeFramesAreStored : Prop :=
  (∀ (s : State) (n : Fin 256) (k : Fin 64) (index : Nat) (err : Bool) (payload bytes : List Byte) (stamp a : Nat) (o : SubCh),
    s.core.dabLive n = true → s.core.dabSync n = 3 → (s.core.dabRec n).sub k = some o → o.plus = false → (s.core.dabRec n).full k = true →
    payload.length = 3 * o.rate → s.core.time ≤ stamp + s.core.delay n 0 + fineMs 50 →
    frameBytes stamp n (if o.packet then 3 else 1) k (b2n err + (s.core.dabRec n).frameFlags k) ((s.core.dabRec n).seqOf k) (index % 5000) 0 payload = bytes →
    n * 0x2800000 + (s.core.bay (stallBay n 0)).written % frameRing = a →
    (s.core.bay (stallBay n 0)).written % frameRing + bytes.length ≤ frameRing →
    ∃ t, exec (.mscFrame n k index err payload stamp) s = .next t ∧ t.core.shedRead a bytes.length = bytes ∧
      (t.core.bay (stallBay n 0)).written = (s.core.bay (stallBay n 0)).written + bytes.length ∧
      (t.core.dabRec n).seqOf k = ((s.core.dabRec n).seqOf k + 1) % 65536 ∧
      t.core.made.length = s.core.made.length + (s.core.subsOf (fun x => decide (x.kind = 0) && decide (x.source = n) && (decide (x.sel = 0xFF) || decide (x.sel = k)))).length ∧
      (t.core.reg (Core.sideAddr n 0x94)).toNat = satAdd 32 (s.core.reg (Core.sideAddr n 0x94)).toNat 1 ∧
      s.StoreFrame t ([Core.sideAddr n 0x94] ++ if err then [Core.sideAddr n 0x98] else []) [(a, bytes.length)] (fun c d => { c with dab := d.dab, bays := d.bays, shed := d.shed, shedBad := d.shedBad, shedCe := d.shedCe, made := d.made })) ∧
  (∀ (s : State) (n : Fin 256) (k : Fin 64) (index : Nat) (err : Bool) (payload bytes : List Byte) (stamp off : Nat) (o : SubCh),
    s.core.dabLive n = true → s.core.dabSync n = 3 → (s.core.dabRec n).sub k = some o → o.plus = false → (s.core.dabRec n).full k = true →
    payload.length = 3 * o.rate → s.core.time ≤ stamp + s.core.delay n 0 + fineMs 50 →
    frameBytes stamp n (if o.packet then 3 else 1) k (b2n err + (s.core.dabRec n).frameFlags k) ((s.core.dabRec n).seqOf k) (index % 5000) 0 payload = bytes →
    (s.core.bay (stallBay n 0)).written % frameRing = off → frameRing < off + bytes.length → bytes.length ≤ off →
    ∃ t, exec (.mscFrame n k index err payload stamp) s = .next t ∧ t.core.shedRead (n * 0x2800000) bytes.length = bytes ∧
      t.core.shedRead (n * 0x2800000 + off) (frameRing - off) = fillerBytes n (frameRing - off) ∧
      (t.core.bay (stallBay n 0)).written = (s.core.bay (stallBay n 0)).written + (frameRing - off) + bytes.length ∧
      s.core.KeepsShedOutside t.core [(n * 0x2800000, bytes.length), (n * 0x2800000 + off, frameRing - off)]) ∧
  (∀ (s : State) (n : Fin 256) (k : Fin 64) (index cor : Nat) (err : Bool) (payload bytes : List Byte) (stamp a : Nat) (o : SubCh),
    s.core.dabLive n = true → s.core.dabSync n = 3 → (s.core.dabRec n).sub k = some o → o.plus = true → (s.core.dabRec n).full k = true →
    payload.length = 110 * (o.rate / 8) → s.core.time ≤ stamp + s.core.delay n 0 + fineMs 50 →
    frameBytes stamp n 2 k (b2n err + (s.core.dabRec n).frameFlags k) ((s.core.dabRec n).seqOf k) (index % 5000) (min 255 cor) payload = bytes →
    n * 0x2800000 + (s.core.bay (stallBay n 0)).written % frameRing = a →
    (s.core.bay (stallBay n 0)).written % frameRing + bytes.length ≤ frameRing →
    ∃ t, exec (.dabSuperframe n k index cor err payload stamp) s = .next t ∧ t.core.shedRead a bytes.length = bytes ∧
      (t.core.reg (Core.sideAddr n (if err then 0xA4 else 0x9C))).toNat = satAdd 32 (s.core.reg (Core.sideAddr n (if err then 0xA4 else 0x9C))).toNat 1 ∧
      (t.core.reg (Core.sideAddr n 0xA0)).toNat = satAdd 32 (s.core.reg (Core.sideAddr n 0xA0)).toNat cor ∧
      s.StoreFrame t ([Core.sideAddr n 0x94, Core.sideAddr n 0xA0] ++ if err then [Core.sideAddr n 0xA4, Core.sideAddr n 0x98] else [Core.sideAddr n 0x9C]) [(a, bytes.length)] (fun c d => { c with dab := d.dab, bays := d.bays, shed := d.shed, shedBad := d.shedBad, shedCe := d.shedCe, made := d.made })) ∧
  (∀ (s : State) (n : Fin 256) (k : Fin 4) (mer : Int) (thr : Nat) (payload bytes : List Byte) (stamp a : Nat),
    s.core.drmLive n = true → s.core.drmSync n = 4 → (s.core.drmRec n).streams.contains k.val = true →
    s.core.time ≤ stamp + s.core.delay n 0 + fineMs 50 →
    frameBytes stamp n 0x10 k (b2n (decide (mer < (thr * 256 : Nat))) + 8 * b2n (!(s.core.drmRec n).started.contains k.val)) (Table.get (fun _ => 0) (s.core.drmRec n).seqs k) ((s.core.drmRec n).frames % 65536) 0 payload = bytes →
    n * 0x2800000 + (s.core.bay (stallBay n 0)).written % frameRing = a →
    (s.core.bay (stallBay n 0)).written % frameRing + bytes.length ≤ frameRing →
    ∃ t, exec (.drmMscFrame n k mer thr payload stamp) s = .next t ∧ t.core.shedRead a bytes.length = bytes ∧
      (t.core.reg (Core.sideAddr n 0x98)).toNat = satAdd 32 (s.core.reg (Core.sideAddr n 0x98)).toNat 1 ∧
      s.StoreFrame t ([Core.sideAddr n 0x98] ++ if mer < (thr * 256 : Nat) then [Core.sideAddr n 0x9C] else []) [(a, bytes.length)] (fun c d => { c with drm := d.drm, bays := d.bays, shed := d.shed, shedBad := d.shedBad, shedCe := d.shedCe, made := d.made }))

/-- R186 to R188: the DRM engine moves by R186 and counts a changed mode; a FAC that passes shows what it says, one without reference cells is
counted; an SDC that passes gives the service table.
Clauses may rest on the readings of log entry 78. -/
def Obligations.DrmFollowsFacAndSdc : Prop :=
  (∀ (s : State) (n : Fin 256) (mode : Fin 5) (cfo : BitVec 16) (stamp : Nat), s.core.drmLive n = true → s.core.drmSync n = 0 →
    s.core.drmMoveOk n 1 mode = true → (s.core.drmRec n).lastMode ≠ 7 → (s.core.drmRec n).lastMode ≠ mode →
    ∃ t, exec (.drmSyncChange n 1 mode cfo stamp) s = .next t ∧ t.core.drmSync n = 1 ∧ t.core.fld (R.DRM_STATUS.at n) 3 3 = mode ∧
      t.core.fld (R.DRM_STATUS.at n) 16 16 = cfo.toNat ∧
      (t.core.reg (Core.sideAddr n 0xA0)).toNat = satAdd 32 (s.core.reg (Core.sideAddr n 0xA0)).toNat 1 ∧
      (∀ p ∈ t.core.made.getLast?, p.typ = 0x16 ∧ p.sub = 3 ∧ p.stamp = stamp) ∧ t.core.made.length = s.core.made.length + 1 ∧
      s.Frame t [R.DRM_STATUS.at n, Core.sideAddr n 0xA0] (fun c d => { c with drm := d.drm, made := d.made })) ∧
  (∀ (s : State) (n : Fin 256) (mode : Fin 5) (cfo : BitVec 16) (stamp : Nat), s.core.drmLive n = true → 2 ≤ s.core.drmSync n →
    s.core.drmMoveOk n 0 mode = true →
    ∃ t, exec (.drmSyncChange n 0 mode cfo stamp) s = .next t ∧ t.core.drmSync n = 0 ∧ t.core.fld (R.DRM_STATUS.at n) 3 3 = 7 ∧
      (t.core.reg (Core.sideAddr n 0x8C)).toNat = satAdd 32 (s.core.reg (Core.sideAddr n 0x8C)).toNat 1 ∧
      s.Frame t [R.DRM_STATUS.at n, Core.sideAddr n 0x8C] (fun c d => { c with drm := d.drm, made := d.made })) ∧
  (∀ (s : State) (n : Fin 256) (goal mode : Fin 5) (cfo : BitVec 16) (stamp : Nat), s.core.drmMoveOk n goal mode = false →
    exec (.drmSyncChange n goal mode cfo stamp) s = .next s) ∧
  (∀ (s : State) (n : Fin 256) (f : FacIn) (stamp : Nat), s.core.drmLive n = true → 2 ≤ s.core.drmSync n → f.ref = true → f.ok = true →
    s.core.cls n = 5 → bitOf (s.core.reg (R.DRM_CFG.at n)) 1 = false → bitOf (s.core.reg (R.DRM_STATUS.at n)) 10 = false →
    ∃ t, exec (.drmFac n f stamp) s = .next t ∧ t.core.fld (R.DRM_STATUS.at n) 6 3 = f.occ ∧ t.core.fld (R.DRM_SERVICE.at n) 0 24 = f.sid.toNat ∧
      bitOf (t.core.reg (R.DRM_STATUS.at n)) 9 = f.long ∧ (t.core.drmRec n).facPass = (s.core.drmRec n).facPass + 1 ∧
      (t.core.reg (Core.sideAddr n 0x80)).toNat = satAdd 32 (s.core.reg (Core.sideAddr n 0x80)).toNat 1 ∧
      s.Frame t [R.DRM_STATUS.at n, R.DRM_SERVICE.at n, Core.sideAddr n 0x80] (fun c d => { c with drm := d.drm, made := d.made })) ∧
  (∀ (s : State) (n : Fin 256) (f : FacIn) (stamp : Nat), s.core.drmLive n = true → 2 ≤ s.core.drmSync n → f.ref = false →
    ∃ t, exec (.drmFac n f stamp) s = .next t ∧ (t.core.drmRec n).refMiss = (s.core.drmRec n).refMiss + 1 ∧
      s.Frame t [Core.sideAddr n 0x88] (fun c d => { c with drm := d.drm })) ∧
  (∀ (s : State) (n : Fin 256) (bytes : List Byte) (i k : Fin 4) (sid : BitVec 24) (x : SvcComp) (rate stamp : Nat),
    s.core.drmLive n = true → 3 ≤ s.core.drmSync n → bitOf (s.core.reg (R.DRM_CFG.at n)) 2 = false →
    ∃ t, exec (.drmSdc n true bytes [(i, sid, x, rate)] [k] stamp) s = .next t ∧ (t.core.reg (R.SVC_SID.at n i)).toNat = sid.toNat ∧
      t.core.svcValid n i = true ∧ t.core.fld (R.SVC_INFO.at n i) 8 3 = x.codec ∧ (t.core.drmRec n).streams = [k.val] ∧
      (t.core.drmRec n).sdcOk = true ∧
      s.Frame t [R.SVC_SID.at n i, R.SVC_INFO.at n i, Core.sideAddr n 0x90] (fun c d => { c with drm := d.drm })) ∧
  (∀ (s : State) (n : Fin 256) (bytes : List Byte) (services : List (Fin 4 × BitVec 24 × SvcComp × Nat)) (streams : List (Fin 4)) (stamp : Nat),
    s.core.drmLive n = true → 3 ≤ s.core.drmSync n → bitOf (s.core.reg (R.DRM_CFG.at n)) 2 = true →
    ∃ t, exec (.drmSdc n false bytes services streams stamp) s = .next t ∧
      (t.core.reg (Core.sideAddr n 0x94)).toNat = satAdd 32 (s.core.reg (Core.sideAddr n 0x94)).toNat 1 ∧
      t.core.made.length = s.core.made.length + (bytes.length + 13) / 14 ∧ s.Frame t [Core.sideAddr n 0x94] (fun c d => { c with made := d.made }))

/-- R191, R192, R203, R205: three edges a second apart start MARK; a later mark within 20 ms of a whole second is taken, its second counted
and the tracks given it; a minute mark gives MINUTE; a gap is counted; three marks missing lose the sync; a minute that passes its checks and
follows the last one is VALID; a new STATION searches again.
Clauses may rest on the readings of log entry 80. -/
def Obligations.TimeMarksAreFollowed : Prop :=
  (∀ (s : State) (n : Fin 256) (x a b : Nat) (sign : Bool) (jitter : BitVec 16), s.core.tcLive n = true → s.core.tcSync n = 0 →
    (s.core.tcRec n).edges = [a, b] → threeEdges [a, b, x] = true → (∀ k : Fin 4, s.core.trkSrc k ≠ 5) →
    ∃ t, exec (.tcMark n x sign jitter) s = .next t ∧ t.core.tcSync n = 1 ∧ (t.core.tcRec n).mark = x ∧
      t.core.reg (R.TC_MARK_LO.at n) = BitVec.ofNat 32 x ∧ (∀ p ∈ t.core.made.getLast?, p.typ = 0x1A ∧ p.stamp = x) ∧
      t.core.made.length = s.core.made.length + 1 ∧
      s.Frame t [R.TC_STATUS.at n, R.TC_MARK_LO.at n] (fun c d => { c with tc := d.tc, made := d.made })) ∧
  (∀ (s : State) (n : Fin 256) (x : Nat) (jitter : BitVec 16), s.core.tcLive n = true → s.core.tcSync n ≠ 0 →
    (s.core.tcRec n).mark < x → (secondsFrom (s.core.tcRec n).mark x).2.natAbs ≤ 983040 → (∀ k : Fin 4, s.core.trkSrc k ≠ 5) →
    bitOf (s.core.reg (R.TC_CFG.at n)) 3 = false →
    ∃ t, exec (.tcMark n x false jitter) s = .next t ∧ t.core.tcSync n = s.core.tcSync n ∧ (t.core.tcRec n).mark = x ∧
      t.core.fld (R.TC_STATUS.at n) 2 6 = min 60 (s.core.fld (R.TC_STATUS.at n) 2 6 + (secondsFrom (s.core.tcRec n).mark x).1) ∧
      t.core.fld (R.TC_STATUS.at n) 16 16 = jitter.toNat ∧ t.core.reg (R.TC_MARK_LO.at n) = BitVec.ofNat 32 x ∧
      (t.core.reg (Core.sideAddr n 0x80)).toNat = satAdd 32 (s.core.reg (Core.sideAddr n 0x80)).toNat 1 ∧
      (t.core.reg (Core.sideAddr n 0x84)).toNat = satAdd 32 (s.core.reg (Core.sideAddr n 0x84)).toNat ((secondsFrom (s.core.tcRec n).mark x).1 - 1) ∧
      s.Frame t [R.TC_STATUS.at n, R.TC_MARK_LO.at n, Core.sideAddr n 0x80, Core.sideAddr n 0x84] (fun c d => { c with tc := d.tc })) ∧
  (∀ (s : State) (n : Fin 256) (x : Nat) (jitter : BitVec 16), s.core.tcLive n = true → s.core.tcSync n = 1 →
    (s.core.tcRec n).mark < x → (secondsFrom (s.core.tcRec n).mark x).2.natAbs ≤ 983040 → (∀ k : Fin 4, s.core.trkSrc k ≠ 5) →
    ∃ t, exec (.tcMark n x true jitter) s = .next t ∧ t.core.tcSync n = 2 ∧ t.core.fld (R.TC_STATUS.at n) 2 6 = 0 ∧
      s.Frame t [R.TC_STATUS.at n, R.TC_MARK_LO.at n, Core.sideAddr n 0x80, Core.sideAddr n 0x84] (fun c d => { c with tc := d.tc, made := d.made })) ∧
  (∀ (s : State) (n : Fin 256) (x : Nat) (sign : Bool) (jitter : BitVec 16), s.core.tcSync n ≠ 0 →
    x ≤ (s.core.tcRec n).mark ∨ 983040 < (secondsFrom (s.core.tcRec n).mark x).2.natAbs → exec (.tcMark n x sign jitter) s = .next s) ∧
  (∀ (s : State) (n : Fin 256) (x : Nat), s.core.tcLive n = true → s.core.gapSecond n = true →
    ∃ t, exec (.tcGap n x) s = .next t ∧ bitOf (t.core.reg (R.TC_STATUS.at n)) 8 = true ∧
      t.core.fld (R.TC_STATUS.at n) 2 6 = (s.core.fld (R.TC_STATUS.at n) 2 6 + 1) % 64 ∧ (t.core.tcRec n).mark = x ∧
      (t.core.reg (Core.sideAddr n 0x88)).toNat = satAdd 32 (s.core.reg (Core.sideAddr n 0x88)).toNat 1 ∧
      s.Frame t [R.TC_STATUS.at n, Core.sideAddr n 0x88] (fun c d => { c with tc := d.tc })) ∧
  (∀ (s : State) (n : Fin 256) (x : Nat), s.core.gapSecond n = false → exec (.tcGap n x) s = .next s) ∧
  (∀ (s : State) (n : Fin 256), s.core.tcLive n = true → 1 ≤ s.core.tcSync n →
    (s.core.tcRec n).mark + 3 * fineSecond + 983040 ≤ s.core.time → (∀ k : Fin 4, s.core.trkSrc k ≠ 5) →
    ∃ t, exec (.tcMarkLoss n) s = .next t ∧ t.core.tcSync n = 0 ∧
      (t.core.reg (Core.sideAddr n 0x84)).toNat = satAdd 32 (s.core.reg (Core.sideAddr n 0x84)).toNat 3 ∧
      (t.core.reg (Core.sideAddr n 0x8C)).toNat = satAdd 32 (s.core.reg (Core.sideAddr n 0x8C)).toNat 1 ∧
      t.core.made.length = s.core.made.length + 1 ∧
      s.Frame t [R.TC_STATUS.at n, Core.sideAddr n 0x84, Core.sideAddr n 0x8C] (fun c d => { c with tc := d.tc, made := d.made })) ∧
  (∀ (s : State) (n : Fin 256), s.core.time < (s.core.tcRec n).mark + 3 * fineSecond + 983040 → exec (.tcMarkLoss n) s = .next s) ∧
  (∀ (s : State) (n : Fin 256) (m : TcMinuteIn) (stamp p : Nat), s.core.tcLive n = true → s.core.tcSync n = 2 →
    minutePasses (s.core.fld (R.TC_CFG.at n) 0 3) m = true → (s.core.tcRec n).minute = some p → p + 1 = minuteNumber m →
    1 ≤ (s.core.tcRec n).run → bitOf (s.core.reg (R.TC_CFG.at n)) 4 = false →
    ∃ t, exec (.tcMinute n m stamp) s = .next t ∧ t.core.tcSync n = 3 ∧ bitOf (t.core.reg (R.TC_TIME.at n)) 31 = true ∧
      t.core.fld (R.TC_TIME.at n) 0 6 = m.minute ∧ t.core.fld (R.TC_TIME.at n) 6 5 = m.hour ∧ t.core.fld (R.TC_TIME.at n) 11 5 = m.day ∧
      s.Frame t [R.TC_STATUS.at n, R.TC_TIME.at n, Core.sideAddr n 0x90] (fun c d => { c with tc := d.tc, made := d.made })) ∧
  (∀ (s : State) (n : Fin 256) (m : TcMinuteIn) (stamp : Nat), s.core.tcLive n = true → 2 ≤ s.core.tcSync n →
    (s.core.tcRec n).minute = none → bitOf (s.core.reg (R.TC_CFG.at n)) 4 = false →
    ∃ t, exec (.tcMinute n m stamp) s = .next t ∧ bitOf (t.core.reg (R.TC_TIME.at n)) 31 = false ∧ (t.core.tcRec n).run = 0 ∧
      (t.core.reg (Core.sideAddr n 0x94)).toNat = satAdd 32 (s.core.reg (Core.sideAddr n 0x94)).toNat 1 ∧
      s.Frame t [R.TC_TIME.at n, Core.sideAddr n 0x94] (fun c d => { c with tc := d.tc })) ∧
  (∀ (s : State) (port : Port) (n : Fin 256) (v : Word), s.core.Free port (R.TC_CFG.at n) → s.core.cls n = 6 →
    s.core.classWordShut n = false → fieldOf v 0 3 < 4 → fieldOf v 0 3 = s.core.fld (R.TC_CFG.at n) 0 3 →
    ∃ t, exec (.tcCfgWrite port n v) s = .next t ∧ t.core.fld (R.TC_CFG.at n) 0 5 = fieldOf v 0 5 ∧ s.Frame t [R.TC_CFG.at n]) ∧
  (∀ (s : State) (port : Port) (n : Fin 256) (v : Word), s.core.Free port (R.TC_CFG.at n) → s.core.cls n = 6 →
    s.core.classWordShut n = false → fieldOf v 0 3 < 4 → fieldOf v 0 3 ≠ s.core.fld (R.TC_CFG.at n) 0 3 → (∀ k : Fin 4, s.core.trkSrc k ≠ 5) →
    ∃ t, exec (.tcCfgWrite port n v) s = .next t ∧ t.core.fld (R.TC_CFG.at n) 0 5 = fieldOf v 0 5 ∧ t.core.tcSync n = 0 ∧
      s.Frame t [R.TC_CFG.at n, R.TC_STATUS.at n] (fun c d => { c with tc := d.tc, made := d.made })) ∧
  (∀ (s : State) (port : Port) (n : Fin 256) (v : Word), s.core.Free port (R.TC_CFG.at n) → s.core.cls n = 6 →
    s.core.classWordShut n = true ∨ 4 ≤ fieldOf v 0 3 →
    ∃ t, exec (.tcCfgWrite port n v) s = .next t ∧ t.core.reg (R.ST_EVENT.at n) = s.core.reg (R.ST_EVENT.at n) ||| bit 31 ∧
      s.Frame t [R.ST_EVENT.at n])

/-- R196 to R198, R200, R254: ADD takes the lowest free decode and a core with room, DROP frees it, each by GO word and by ring command; a frame
of an admitted decode is counted, and one that its codec's core cannot decode in time is a missed deadline.
Clauses may rest on the readings of log entry 81. -/
def Obligations.DecodesAreAddedAndDropped : Prop :=
  (∀ (s : State) (n sid comp i codec d k : Nat), s.core.fld R.LS_STAGE_CTL.at 0 8 = n → (s.core.reg R.LS_STAGE_SID.at).toNat = sid →
    s.core.fld R.LS_STAGE_CTL.at 16 4 = comp → s.core.fld R.LS_STAGE_CTL.at 8 8 = 0xFF → s.core.addCheck n sid comp 0xFF = 0 →
    s.core.service n sid comp = some i → s.core.fld (R.SVC_INFO.at n i) 8 3 = codec →
    (List.range 64).find? (fun e => decide (s.core.decodeState e = 0)) = some d → s.core.coreWithRoom (codecUnits codec) = some k →
    ∃ t, exec .lsGoAdd s = .next t ∧ (t.core.reg (R.LS_SID.at d)).toNat = sid ∧ t.core.decodeState d = 1 ∧ t.core.fld (R.LS_CTL.at d) 0 8 = n ∧
      t.core.fld (R.LS_CTL.at d) 16 4 = comp ∧ t.core.fld (R.LS_CTL.at d) 20 3 = codec ∧ t.core.fld (R.LS_CTL.at d) 24 3 = k ∧
      t.core.fld R.LS_RESULT.at 0 4 = 0 ∧ t.core.fld R.LS_RESULT.at 8 6 = d ∧
      t.core.fld R.LS_RESULT.at 16 8 = (s.core.fld R.LS_RESULT.at 16 8 + 1) % 256 ∧
      s.Frame t [R.LS_SID.at d, R.LS_CTL.at d, R.LS_FRAMES.at d, R.LS_STAT.at d, R.LS_RESULT.at] (fun c e => { c with decs := e.decs, bays := e.bays })) ∧
  (∀ (s : State) (code : Nat), s.core.addCheck (s.core.fld R.LS_STAGE_CTL.at 0 8) (s.core.reg R.LS_STAGE_SID.at).toNat (s.core.fld R.LS_STAGE_CTL.at 16 4) (s.core.fld R.LS_STAGE_CTL.at 8 8) = code → code ≠ 0 →
    ∃ t, exec .lsGoAdd s = .next t ∧ t.core.fld R.LS_RESULT.at 0 4 = code ∧
      t.core.fld R.LS_RESULT.at 16 8 = (s.core.fld R.LS_RESULT.at 16 8 + 1) % 256 ∧ s.Frame t [R.LS_RESULT.at]) ∧
  (∀ (s : State) (d : Fin 64), s.core.decodeState d ≠ 0 → (s.core.dec d).owner = none → s.core.memberOf 1 d = none →
    ∃ t, exec (.lsGoDrop d) s = .next t ∧ t.core.decodeState d = 0 ∧ t.core.reg (R.LS_SID.at d) = 0 ∧ t.core.fld R.LS_RESULT.at 0 4 = 0 ∧
      s.Frame t [R.LS_SID.at d, R.LS_CTL.at d, R.LS_RESULT.at] (fun c e => { c with decs := e.decs })) ∧
  (∀ (s : State) (d : Fin 64), s.core.decodeState d = 0 →
    ∃ t, exec (.lsGoDrop d) s = .next t ∧ t.core.fld R.LS_RESULT.at 0 4 = 1 ∧ s.Frame t [R.LS_RESULT.at]) ∧
  (∀ (s : State) (h : CmdHead) (n : Fin 256) (comp i codec d k : Nat) (sid : Word), s.core.ready = true → comp < 16 →
    s.core.addCheck n sid.toNat comp 0xFF = 0 → s.core.service n sid.toNat comp = some i → s.core.fld (R.SVC_INFO.at n i) 8 3 = codec →
    (List.range 64).find? (fun e => decide (s.core.decodeState e = 0)) = some d → s.core.coreWithRoom (codecUnits codec) = some k →
    ∃ t, exec (.lsAdd h n 0xFF comp sid) s = .next t ∧ t.core.reg (R.LS_SID.at d) = sid ∧ t.core.decodeState d = 1 ∧
      t.core.fld (R.LS_CTL.at d) 24 3 = k ∧
      t.core.made = (s.core.complete 0x20 h.seq 0 4 s.core.now (leBytes 1 d ++ leBytes 1 k)).made ∧
      s.Frame t [R.LS_SID.at d, R.LS_CTL.at d, R.LS_FRAMES.at d, R.LS_STAT.at d] (fun c e => { c with decs := e.decs, bays := e.bays, made := e.made })) ∧
  (∀ (s : State) (h : CmdHead) (d : Fin 64), s.core.ready = true → s.core.decodeState d ≠ 0 → (s.core.dec d).owner = none →
    s.core.memberOf 1 d = none →
    ∃ t, exec (.lsDrop h d) s = .next t ∧ t.core.decodeState d = 0 ∧ t.core.made = (s.core.complete 0x21 h.seq 0 4 s.core.now []).made ∧
      s.Frame t [R.LS_SID.at d, R.LS_CTL.at d] (fun c e => { c with decs := e.decs, made := e.made })) ∧
  (∀ (s : State) (h : CmdHead) (d : Nat), s.core.ready = true → 64 ≤ d →
    ∃ t, exec (.lsDrop h d) s = .next t ∧ t.core.made = (s.core.complete 0x21 h.seq 1 4 s.core.now []).made ∧
      s.Frame t [] (fun c e => { c with made := e.made })) ∧
  (∀ (s : State) (d : Fin 64) (n stamp : Nat) (bad : Bool) (codec : Fin 5), s.core.fld (R.LS_CTL.at d) 0 8 = n → s.core.cls n = 3 →
    s.core.decodeState d = 1 ∨ s.core.decodeState d = 2 → (s.core.service n (s.core.reg (R.LS_SID.at d)).toNat (s.core.fld (R.LS_CTL.at d) 16 4)).isSome = true →
    s.core.fld (R.LS_CTL.at d) 20 3 = codec → codec ≠ 0 → codec ≠ 4 →
    ∃ t, exec (.decodeFrame d stamp bad codec false) s = .next t ∧ t.core.decodeState d = 2 ∧
      (t.core.reg (R.LS_FRAMES.at d)).toNat = satAdd 32 (s.core.reg (R.LS_FRAMES.at d)).toNat 1 ∧
      t.core.fld (R.LS_STAT.at d) 0 16 = (if bad then satAdd 16 (s.core.fld (R.LS_STAT.at d) 0 16) 1 else s.core.fld (R.LS_STAT.at d) 0 16) ∧
      (t.core.dec d).last = stamp ∧ s.Frame t [R.LS_CTL.at d, R.LS_FRAMES.at d, R.LS_STAT.at d] (fun c e => { c with decs := e.decs })) ∧
  (∀ (s : State) (d : Fin 64) (stamp : Nat) (bad : Bool) (codec : Fin 5) (o : Bool), s.core.decodeState d = 0 →
    exec (.decodeFrame d stamp bad codec o) s = .next s)

/-! ### Hoist -/

/-- R214 to R219: a free scout visits the first candidate wanted, or the stall is counted starved once; a visit ends in the release of its scout
or in qualification; a stall in WATCH seeks after DWELL windows below SEEK_THR; HOLD ends at its tick.
Clauses may rest on the readings of log entries 8 and 83. -/
def Obligations.ScoutsVisitAndHoistWatches : Prop :=
  (∀ (s : State) (n e i : Nat), s.runs 8 = true → s.core.visitsWanted.head? = some (n, e) → s.core.freeScout = some i →
    s.core.scoutRoom = true →
    ∃ t, exec .scoutVisitStart s = .next t ∧ (t.core.scout i).use = 1 ∧ (t.core.scout i).stall = n ∧ (t.core.scout i).entry = e ∧
      (t.core.scout i).freq = (s.core.reg (R.AFE_TARGET.at n e)).toNat ∧ (t.core.scout i).tr = s.core.now + 1 ∧ t.core.candState n e = 2 ∧
      t.core.starved = none ∧ s.Frame t [R.AFE_STATE.at n e] (fun c d => { c with scouts := d.scouts, hoists := d.hoists, starved := d.starved })) ∧
  (∀ (s : State) (v : Nat × Nat), s.runs 8 = true → s.core.visitsWanted.head? = some v →
    s.core.freeScout = none ∨ s.core.scoutRoom = false → s.core.starved ≠ some v →
    ∃ t, exec .scoutVisitStart s = .next t ∧ (t.core.reg R.CNT_STARVE.at).toNat = satAdd 32 (s.core.reg R.CNT_STARVE.at).toNat 1 ∧
      bitOf (t.core.reg (R.PG_EVENT.at 8)) 2 = true ∧ t.core.starved = some v ∧
      s.Frame t [R.CNT_STARVE.at, R.PG_EVENT.at 8] (fun c d => { c with starved := d.starved })) ∧
  (∀ s : State, s.core.visitsWanted = [] → exec .scoutVisitStart s = .next s) ∧
  (∀ (s : State) (i : Fin 64) (n e : Nat), s.runs 8 = true → (s.core.scout i).use = 1 → (s.core.scout i).stall = n →
    (s.core.scout i).entry = e → s.core.fld R.HOIST_CFG.at 8 4 ≤ (s.core.scout i).windows →
    (s.core.scout i).mean < s.core.curMargin n + s.core.hyst n → bitOf (s.core.reg (R.HS_CTL.at n)) 7 = false → s.core.candState n e = 2 →
    n < 256 → e < 40 →
    ∃ t, exec (.scoutVisitEnd i) s = .next t ∧ (t.core.scout i).use = 0 ∧ t.core.candState n e = 1 ∧
      t.core.fld (R.AFE_MEAS.at n e) 0 16 = codeOf 16 (s.core.scout i).mean ∧
      (t.core.reg R.CNT_VISIT.at).toNat = satAdd 32 (s.core.reg R.CNT_VISIT.at).toNat 1 ∧
      s.Frame t [R.AFE_STATE.at n e, R.AFE_MEAS.at n e, R.HS_CNT_VISIT.at n, R.CNT_VISIT.at] (fun c d => { c with scouts := d.scouts, hoists := d.hoists })) ∧
  (∀ (s : State) (i : Fin 64) (n e : Nat), s.runs 8 = true → (s.core.scout i).use = 1 → (s.core.scout i).stall = n →
    (s.core.scout i).entry = e → s.core.fld R.HOIST_CFG.at 8 4 ≤ (s.core.scout i).windows →
    s.core.curMargin n + s.core.hyst n ≤ (s.core.scout i).mean → bitOf (s.core.reg (R.HS_CTL.at n)) 7 = false → n < 256 → e < 40 →
    ∃ t, exec (.scoutVisitEnd i) s = .next t ∧ (t.core.scout i).use = 2 ∧ t.core.candState n e = 3 ∧
      t.core.fld (R.AFE_MEAS.at n e) 0 16 = codeOf 16 (s.core.scout i).mean ∧
      s.Frame t [R.AFE_STATE.at n e, R.AFE_MEAS.at n e, R.HS_CNT_VISIT.at n, R.CNT_VISIT.at] (fun c d => { c with scouts := d.scouts })) ∧
  (∀ (s : State) (i : Fin 64), (s.core.scout i).use ≠ 1 → exec (.scoutVisitEnd i) s = .next s) ∧
  (∀ (s : State) (i : Fin 64) (n e first : Nat), s.runs 8 = true → (s.core.scout i).use = 2 → (s.core.scout i).stall = n →
    (s.core.scout i).entry = e → (s.core.scout i).since = some first → (s.core.scout i).ident = 0 → s.core.idPassed n e = false →
    s.core.candState n e = 3 → first + s.core.fld (R.HS_DWELL.at n) 24 8 * 10240 ≤ s.core.now →
    bitOf (s.core.reg (R.HS_CTL.at n)) 7 = false →
    ∃ t, exec (.idTimeout i) s = .next t ∧ (t.core.scout i).use = 0 ∧ t.core.candState n e = 1 ∧
      s.Frame t [R.AFE_STATE.at n e] (fun c d => { c with scouts := d.scouts, hoists := d.hoists })) ∧
  (∀ (s : State) (i : Fin 64), (s.core.scout i).since = none → exec (.idTimeout i) s = .next s) ∧
  (∀ (s : State) (n : Fin 256) (v : Int) (stamp : Nat), s.runs 8 = true → s.core.hsState n = 1 → s.core.cls n = 1 → s.core.stState n = 3 →
    s.core.hsSrc n = false → (∀ e : Fin 40, s.core.afKind n e = 0 ∧ s.core.candState n e = 0) → -127 * 256 ≤ v → v < 127 * 256 →
    v - 3072 < s.core.seekThr n → s.core.fld (R.HS_DWELL.at n) 0 8 ≤ (s.core.hoist n).below + 1 →
    ∃ t, exec (.hoistWindow n ⟨some v, [], [], stamp⟩) s = .next t ∧ t.core.hsState n = 2 ∧ t.core.curMargin n = v - 3072 ∧
      (t.core.hoist n).below = 0 ∧ s.Frame t [R.HS_MARGIN.at n, R.HS_STATUS.at n] (fun c d => { c with hoists := d.hoists })) ∧
  (∀ (s : State) (n : Fin 256) (v : Int) (stamp : Nat), s.runs 8 = true → s.core.hsState n = 1 → s.core.cls n = 1 → s.core.stState n = 3 →
    s.core.hsSrc n = false → (∀ e : Fin 40, s.core.afKind n e = 0 ∧ s.core.candState n e = 0) → s.core.seekThr n ≤ v - 3072 →
    0 < s.core.fld (R.HS_DWELL.at n) 0 8 →
    ∃ t, exec (.hoistWindow n ⟨some v, [], [], stamp⟩) s = .next t ∧ t.core.hsState n = 1 ∧ (t.core.hoist n).below = 0 ∧
      s.Frame t [R.HS_MARGIN.at n] (fun c d => { c with hoists := d.hoists })) ∧
  (∀ (s : State) (n : Fin 256) (w : HoistWin), s.core.hsState n = 0 → exec (.hoistWindow n w) s = .next s) ∧
  (∀ (s : State) (n : Fin 256) (h : Nat), s.runs 8 = true → s.core.hsState n = 5 → (s.core.hoist n).holdEnd = some h → h ≤ s.core.now →
    ∃ t, exec (.holdEnd n) s = .next t ∧ t.core.hsState n = 1 ∧ (t.core.hoist n).holdEnd = none ∧
      s.Frame t [R.HS_STATUS.at n] (fun c d => { c with hoists := d.hoists })) ∧
  (∀ (s : State) (n : Fin 256), (s.core.hoist n).holdEnd = none → exec (.holdEnd n) s = .next s)

/-- R220 to R225, R227, R230: an alignment that passes places the switch 32 ticks on, one that fails is counted and the last one abandons the hoist;
at tick H a LINK hoist gives the stream to the decode and a FOLLOW hoist takes the scout's chain and frequency; HOLD begins.
Clauses may rest on the readings of log entry 84. -/
def Obligations.AlignmentLeadsToTheSwitch : Prop :=
  (∀ (s : State) (n : Fin 256) (w : AlignWin) (i : Nat), s.runs 8 = true → s.core.hsState n = 3 → (s.core.hoist n).passed = false →
    (s.core.hoist n).kind = 1 → s.core.fld (R.HS_THR.at n) 24 8 ≤ w.rho → w.unique = true → w.loud = true →
    s.core.inRange n (signedOf 32 (s.core.reg (R.HS_OFS.at n)).toNat + alignDelta w.d w.oldStamp w.newStamp) false = true →
    s.core.ownEntry false = some i → s.core.stState n = 3 → s.core.hsCand n < 40 →
    ∃ t, exec (.alignWindow n w) s = .next t ∧ t.core.hsState n = 4 ∧ (t.core.hoist n).h = some (s.core.now + 32) ∧
      (t.core.hoist n).delta = alignDelta w.d w.oldStamp w.newStamp ∧ t.core.candState n (s.core.hsCand n) = 6 ∧
      (t.core.entry i).valid = true ∧ (t.core.entry i).action = 9 ∧ (t.core.entry i).due = some (s.core.now + 32) ∧
      s.Frame t [R.HS_STATUS.at n, R.AFE_STATE.at n (s.core.hsCand n)] (fun c d => { c with hoists := d.hoists, tt := d.tt })) ∧
  (∀ (s : State) (n : Fin 256) (w : AlignWin), s.runs 8 = true → s.core.hsState n = 3 → (s.core.hoist n).passed = false →
    w.rho < s.core.fld (R.HS_THR.at n) 24 8 ∨ w.unique = false ∨ w.loud = false →
    (s.core.hoist n).tries + 1 < s.core.fld R.HOIST_CFG.at 24 4 →
    ∃ t, exec (.alignWindow n w) s = .next t ∧ (t.core.hoist n).tries = (s.core.hoist n).tries + 1 ∧
      (t.core.reg (R.HS_CNT_ALIGN_FAIL.at n)).toNat = satAdd 32 (s.core.reg (R.HS_CNT_ALIGN_FAIL.at n)).toNat 1 ∧
      s.Frame t [R.HS_CNT_ALIGN_FAIL.at n] (fun c d => { c with hoists := d.hoists })) ∧
  (∀ (s : State) (n : Fin 256) (w : AlignWin), s.runs 8 = true → s.core.hsState n = 3 → (s.core.hoist n).passed = false →
    (s.core.hoist n).kind = 1 → (s.core.hoist n).h = none → s.core.scoutsOf n = [] →
    w.rho < s.core.fld (R.HS_THR.at n) 24 8 → w.loud = true → s.core.fld R.HOIST_CFG.at 24 4 ≤ (s.core.hoist n).tries + 1 →
    s.core.hsCand n < 40 → (s.core.hoist n).prior < 3 →
    ∃ t, exec (.alignWindow n w) s = .next t ∧ t.core.hsState n = (s.core.hoist n).prior ∧ (t.core.hoist n).kind = 0 ∧
      t.core.candState n (s.core.hsCand n) = 8 ∧ t.core.fld (R.HS_LAST.at n) 4 4 = 2 ∧
      t.core.made.length = s.core.made.length + 2 ∧ s.core.KeepsStalls t.core 256 ∧ s.core.KeepsShed t.core) ∧
  (∀ (s : State) (n : Fin 256) (w : AlignWin), s.core.hsState n ≠ 3 → exec (.alignWindow n w) s = .next s) ∧
  (∀ (s : State) (n : Fin 256), s.runs 8 = true → s.core.hsState n = 4 → (s.core.hoist n).h = some s.core.now →
    (s.core.hoist n).kind = 2 → s.core.currentCand n = none → s.core.hsCand n < 40 → (s.core.hoist n).rescue = false →
    ∃ t, exec (.hoistSwitch n) s = .next t ∧ t.core.hsState n = 5 ∧ t.core.hsSrc n = true ∧ t.core.candState n (s.core.hsCand n) = 7 ∧
      t.core.reg (R.HS_OFS_FM.at n) = s.core.reg (R.HS_OFS.at n) ∧
      t.core.reg (R.HS_OFS.at n) = BitVec.ofNat 32 (codeOf 32 (s.core.hoist n).ofsNew) ∧
      (t.core.hoist n).holdEnd = some (s.core.now + s.core.fld (R.HS_DWELL.at n) 16 8 * 102400) ∧
      (t.core.reg R.CNT_DONE.at).toNat = satAdd 32 (s.core.reg R.CNT_DONE.at).toNat 1 ∧ t.core.made.length = s.core.made.length + 2 ∧
      s.Frame t [R.HS_STATUS.at n, R.AFE_STATE.at n (s.core.hsCand n), R.HS_OFS_FM.at n, R.HS_OFS.at n, R.HS_DELTA.at n, R.HS_GAIN.at n, R.HS_LAST.at n, R.HS_LAST_TICK.at n, R.ST_EVENT.at n, R.HS_CNT_DONE.at n, R.CNT_DONE.at, R.PG_EVENT.at 8] (fun c d => { c with hoists := d.hoists, tt := d.tt, made := d.made, counts := d.counts })) ∧
  (∀ (s : State) (n : Fin 256) (i : Nat), s.runs 8 = true → s.core.hsState n = 4 → (s.core.hoist n).h = some s.core.now →
    (s.core.hoist n).kind = 1 → s.core.currentCand n = none → s.core.hsCand n < 40 →
    (s.core.scoutsOf n).find? (fun j => decide ((s.core.scout j).use = 2)) = some i →
    ∃ t, exec (.hoistSwitch n) s = .next t ∧ t.core.hsState n = 5 ∧
      t.core.reg (R.ST_FREQ.at n) = s.core.reg (R.AFE_TARGET.at n (s.core.hsCand n)) ∧ (t.core.scout i).use = 0 ∧
      (t.core.stallRec n).tr = (s.core.scout i).tr ∧ t.core.reg (R.HS_OFS.at n) = BitVec.ofNat 32 (codeOf 32 (s.core.hoist n).ofsNew) ∧
      s.core.KeepsStalls t.core 256 ∧ s.core.KeepsShed t.core) ∧
  (∀ (s : State) (n : Fin 256), s.core.hsState n ≠ 3 → s.core.hsState n ≠ 4 → exec (.hoistSwitch n) s = .next s) ∧
  (∀ (s : State) (n : Fin 256) (x : Nat), s.runs 8 = true → (s.core.hoist n).fadeEnd = some x → x ≤ s.core.now →
    s.core.memberOf 1 (s.core.hsDec n) = none →
    ∃ t, exec (.hoistFadeEnd n) s = .next t ∧ t.core.decodeState (s.core.hsDec n) = 0 ∧ t.core.hsDec n = 0 ∧ (t.core.hoist n).fadeEnd = none ∧
      s.Frame t [R.LS_SID.at (s.core.hsDec n), R.LS_CTL.at (s.core.hsDec n), R.HS_STATUS.at n] (fun c d => { c with hoists := d.hoists, decs := d.decs })) ∧
  (∀ (s : State) (n : Fin 256), (s.core.hoist n).fadeEnd = none → exec (.hoistFadeEnd n) s = .next s)

/-- R208, R211, R213, R217, R226, R231, R232: the host turns Hoist on and off and commands it; entries are written, aged and unbarred; a host measurement
takes a scout and publishes its words.
Clauses may rest on the readings of log entries 82, 83 and 85. -/
def Obligations.HoistIsCommanded : Prop :=
  (∀ (s : State) (port : Port) (n : Fin 256) (v : Word), s.core.Free port (R.HS_CTL.at n) → bitOf v 0 = true →
    bitOf (s.core.reg (R.HS_CTL.at n)) 0 = false → s.core.cls n = 1 → s.core.stState n = 3 → s.core.hsState n = 0 → bitOf v 1 = false →
    fieldOf v 2 2 ≠ 3 →
    ∃ t, exec (.hsEnWrite port n v) s = .next t ∧ t.core.hsState n = 1 ∧
      t.core.reg (R.HS_CTL.at n) = R.HS_CTL.merge 0 (s.core.reg (R.HS_CTL.at n)) v ∧ s.Frame t [R.HS_CTL.at n, R.HS_STATUS.at n]) ∧
  (∀ (s : State) (port : Port) (n : Fin 256) (v : Word), s.core.Free port (R.HS_CTL.at n) → bitOf v 0 = true →
    bitOf (s.core.reg (R.HS_CTL.at n)) 0 = false → s.core.cls n ≠ 1 →
    ∃ t, exec (.hsEnWrite port n v) s = .next t ∧ t.core.reg (R.ST_EVENT.at n) = s.core.reg (R.ST_EVENT.at n) ||| bit 31 ∧
      s.Frame t [R.ST_EVENT.at n]) ∧
  (∀ (s : State) (port : Port) (n : Fin 256) (v : Word), s.core.Free port (R.HS_CTL.at n) → bitOf v 0 = false →
    bitOf (s.core.reg (R.HS_CTL.at n)) 0 = true → s.core.hsState n = 1 ∨ s.core.hsState n = 2 → (s.core.hoist n).kind = 0 →
    s.core.hsSrc n = false → s.core.scoutsOf n = [] → bitOf v 1 = false → fieldOf v 2 2 ≠ 3 →
    ∃ t, exec (.hsEnWrite port n v) s = .next t ∧ t.core.hsState n = 0 ∧ bitOf (t.core.reg (R.HS_CTL.at n)) 0 = false ∧
      s.Frame t [R.HS_CTL.at n, R.HS_STATUS.at n]) ∧
  (∀ (s : State) (n : Fin 256), s.runs 8 = true → s.core.hsState n = 1 →
    ∃ t, exec (.hsSeekNow n) s = .next t ∧ t.core.hsState n = 2 ∧ t.core.fld (R.HS_STATUS.at n) 20 4 = 0 ∧
      t.core.fld (R.HS_STATUS.at n) 24 8 = (s.core.fld (R.HS_STATUS.at n) 24 8 + 1) % 256 ∧
      s.Frame t [R.HS_STATUS.at n] (fun c d => { c with hoists := d.hoists })) ∧
  (∀ (s : State) (n : Fin 256), s.runs 8 = true → s.core.hsState n ≠ 1 →
    ∃ t, exec (.hsSeekNow n) s = .next t ∧ t.core.hsState n = s.core.hsState n ∧ t.core.fld (R.HS_STATUS.at n) 20 4 = 1 ∧
      s.Frame t [R.HS_STATUS.at n]) ∧
  (∀ (s : State) (n : Fin 256) (e : Fin 64) (i : Nat), s.runs 8 = true → s.core.hsState n = 1 → e.val < 40 → s.core.afKind n e = 1 →
    s.core.afBlocked n e = false → s.core.candState n e = 1 → s.core.hsSrc n = false → s.core.idPassed n e = true → s.core.scoutsOf n = [] →
    s.core.freeScout = some i → s.core.scoutRoom = true →
    ∃ t, exec (.hsGoto n e) s = .next t ∧ t.core.hsState n = 3 ∧ t.core.hsCand n = e ∧ t.core.candState n e = 5 ∧ (t.core.scout i).use = 2 ∧
      (t.core.scout i).entry = e ∧ (t.core.hoist n).kind = 1 ∧ t.core.fld (R.HS_STATUS.at n) 20 4 = 0 ∧
      s.Frame t [R.HS_STATUS.at n, R.AFE_STATE.at n e] (fun c d => { c with hoists := d.hoists, scouts := d.scouts })) ∧
  (∀ (s : State) (n : Fin 256) (e : Fin 64), s.runs 8 = true → s.core.hsState n = 1 → 40 ≤ e.val ∨ s.core.afKind n e = 0 →
    ∃ t, exec (.hsGoto n e) s = .next t ∧ t.core.fld (R.HS_STATUS.at n) 20 4 = 2 ∧ s.Frame t [R.HS_STATUS.at n]) ∧
  (∀ (s : State) (n : Fin 256), s.runs 8 = true → s.core.hsSrc n = true → s.core.hsState n = 1 → s.core.memberOf 0 n = none →
    ∃ t, exec (.hsReturn n) s = .next t ∧ t.core.hsState n = 3 ∧ (t.core.hoist n).kind = 3 ∧ t.core.fld (R.HS_STATUS.at n) 20 4 = 0 ∧
      s.Frame t [R.HS_STATUS.at n] (fun c d => { c with hoists := d.hoists })) ∧
  (∀ (s : State) (n : Fin 256), s.runs 8 = true → s.core.hsSrc n = false →
    ∃ t, exec (.hsReturn n) s = .next t ∧ t.core.fld (R.HS_STATUS.at n) 20 4 = 1 ∧ s.Frame t [R.HS_STATUS.at n]) ∧
  (∀ (s : State) (n : Fin 256), s.runs 8 = true → s.core.hsState n = 3 → (s.core.hoist n).kind = 3 → (s.core.hoist n).h = none →
    (s.core.hoist n).prior = 1 → s.core.scoutsOf n = [] →
    ∃ t, exec (.hsCancel n) s = .next t ∧ t.core.hsState n = 1 ∧ (t.core.hoist n).kind = 0 ∧ t.core.fld (R.HS_LAST.at n) 4 4 = 1 ∧
      t.core.fld (R.HS_STATUS.at n) 20 4 = 0 ∧ (t.core.reg R.CNT_ABANDON.at).toNat = satAdd 32 (s.core.reg R.CNT_ABANDON.at).toNat 1 ∧
      s.Frame t [R.HS_STATUS.at n, R.HS_LAST.at n, R.HS_LAST_TICK.at n, R.ST_EVENT.at n, R.HS_CNT_ABANDON.at n, R.CNT_ABANDON.at, R.PG_EVENT.at 8] (fun c d => { c with hoists := d.hoists, made := d.made })) ∧
  (∀ (s : State) (n : Fin 256), s.runs 8 = true → s.core.hsState n ≠ 3 → s.core.hsState n ≠ 4 →
    ∃ t, exec (.hsCancel n) s = .next t ∧ t.core.fld (R.HS_STATUS.at n) 20 4 = 3 ∧ s.Frame t [R.HS_STATUS.at n]) ∧
  (∀ (s : State) (h : CmdHead) (n : Fin 256) (ops entry : Nat), s.core.ready = true → ops % 2 = 1 → s.core.hsState n = 1 →
    ∃ t, exec (.hoistCmd h n ops entry) s = .next t ∧ t.core.hsState n = 2 ∧ t.core.made = (s.core.complete 0x22 h.seq 0 5 s.core.now []).made ∧
      s.Frame t [R.HS_STATUS.at n] (fun c d => { c with hoists := d.hoists, made := d.made })) ∧
  (∀ (s : State) (h : CmdHead) (n : Fin 256) (ops entry : Nat), s.core.ready = true → ops % 16 = 0 →
    ∃ t, exec (.hoistCmd h n ops entry) s = .next t ∧ t.core.made = (s.core.complete 0x22 h.seq 3 5 s.core.now []).made ∧
      s.Frame t [] (fun c d => { c with made := d.made })) ∧
  (∀ (s : State) (n : Fin 256) (e : Fin 40), s.runs 8 = true → 8 ≤ e.val → s.core.afKind n e ≠ 0 → s.core.afBlocked n e = false →
    s.core.candState n e = 1 → s.core.scoutsOf n = [] →
    (s.core.cand n e).confirmed + s.core.fld R.HOIST_AGE.at 0 16 * ticksPerSecond ≤ s.core.now →
    ∃ t, exec (.afEntryAge n e) s = .next t ∧ t.core.afKind n e = 0 ∧ t.core.candState n e = 0 ∧ t.core.reg (R.AFE_TARGET.at n e) = 0 ∧
      s.Frame t [R.AFE_TARGET.at n e, R.AFE_CTL.at n e, R.AFE_MEAS.at n e, R.AFE_STATE.at n e] (fun c d => { c with hoists := d.hoists })) ∧
  (∀ (s : State) (n : Fin 256) (e : Fin 40), e.val < 8 ∨ s.core.candState n e = 7 → exec (.afEntryAge n e) s = .next s) ∧
  (∀ (s : State) (n : Fin 256) (e : Fin 40) (x : Nat), s.runs 8 = true → s.core.candState n e = 8 → (s.core.cand n e).barEnd = some x →
    x ≤ s.core.now →
    ∃ t, exec (.barTimeEnd n e) s = .next t ∧ t.core.candState n e = 1 ∧ (t.core.cand n e).barEnd = none ∧
      s.Frame t [R.AFE_STATE.at n e] (fun c d => { c with hoists := d.hoists })) ∧
  (∀ (s : State) (n : Fin 256) (e : Fin 40), (s.core.cand n e).barEnd = none → exec (.barTimeEnd n e) s = .next s) ∧
  (∀ (s : State) (port : Port) (w : Fin 4) (e : Fin 8) (v : Word) (n : Nat), s.image.fld (R.AFW_SEL.at w) 0 8 = n →
    s.core.Free port (R.AFE_CTL.at n e) → s.core.candState n e = 0 → s.core.scoutsOf n = [] → fieldOf v 0 2 = 2 → s.core.afKind n e = 0 →
    ∃ t, exec (.afEntryWrite port w (e.castLE (by decide)) true v) s = .next t ∧ t.core.afKind n e = 2 ∧ t.core.candState n e = 1 ∧
      t.core.fld (R.AFE_CTL.at n e) 8 12 = fieldOf v 8 12 ∧ bitOf (t.core.reg (R.AFW_STATUS.at w)) 8 = false ∧
      s.Frame t [R.AFE_CTL.at n e, R.AFE_TARGET.at n e, R.AFE_MEAS.at n e, R.AFE_STATE.at n e, R.AFW_STATUS.at w] (fun c d => { c with hoists := d.hoists })) ∧
  (∀ (s : State) (port : Port) (w : Fin 4) (e : Fin 40) (ctl : Bool) (v : Word) (n : Nat), s.image.fld (R.AFW_SEL.at w) 0 8 = n →
    s.core.Free port (R.AFE_CTL.at n e) → s.core.Free port (R.AFE_TARGET.at n e) → s.core.candState n e = 5 ∨ s.core.candState n e = 6 →
    ∃ t, exec (.afEntryWrite port w e ctl v) s = .next t ∧ bitOf (t.core.reg (R.AFW_STATUS.at w)) 8 = true ∧
      t.core.reg (R.ST_EVENT.at n) = s.core.reg (R.ST_EVENT.at n) ||| bit 31 ∧ s.Frame t [R.AFW_STATUS.at w, R.ST_EVENT.at n]) ∧
  (∀ (s : State) (i : Nat), s.runs 8 = true → s.core.measCode = 0 → s.core.freeScout = some i →
    ∃ t, exec .measGo s = .next t ∧ (t.core.scout i).use = 3 ∧ (t.core.scout i).freq = (s.core.reg R.MEAS_FREQ.at).toNat ∧
      t.core.measScout = some i ∧ t.core.fld R.MEAS_CTL.at 24 4 = 0 ∧
      t.core.fld R.MEAS_CTL.at 16 8 = (s.core.fld R.MEAS_CTL.at 16 8 + 1) % 256 ∧
      s.Frame t [R.MEAS_CTL.at] (fun c d => { c with scouts := d.scouts, measScout := d.measScout })) ∧
  (∀ s : State, s.runs 8 = true → s.core.measCode ≠ 0 →
    ∃ t, exec .measGo s = .next t ∧ t.core.fld R.MEAS_CTL.at 24 4 = s.core.measCode ∧ s.Frame t [R.MEAS_CTL.at]) ∧
  (∀ (s : State) (l q : BitVec 16) (i : Nat), s.runs 8 = true → s.core.measScout = some i →
    ∃ t, exec (.measDone (some l) (some q)) s = .next t ∧ t.core.fld R.MEAS_LEVEL.at 0 16 = l.toNat ∧ t.core.fld R.MEAS_QUAL.at 0 16 = q.toNat ∧
      (t.core.scout i).use = 0 ∧ t.core.measScout = none ∧ bitOf (t.core.reg (R.PG_EVENT.at 8)) 4 = true ∧
      s.Frame t [R.MEAS_LEVEL.at, R.MEAS_QUAL.at, R.PG_EVENT.at 8] (fun c d => { c with scouts := d.scouts, measScout := d.measScout })) ∧
  (∀ (s : State) (l q : Option (BitVec 16)), s.core.measScout = none → exec (.measDone l q) s = .next s)

/-! ### Queues and the command ring -/

/-- R240, R244 to R247, R255: a record enters the ring of its queue in the Shed, 32 bytes at Q_PROD, and is visible there and nowhere else; one whose
queue is disabled is counted; one that finds the ring full waits in the hold; NOTIFY is set by count, by alert and by age.
Clauses may rest on the readings of log entries 86, 87 and 90. -/
def Obligations.RecordsBecomeVisible : Prop :=
  (∀ (s : State) (p : Pennant) (q a : Nat), s.core.made = [p] → p.queue = some q → 2 ≤ q → q < 64 → p.typ = 0x60 ∨ p.typ = 0x61 → p.alert = false →
    (∀ d ∈ p.due, s.core.time ≤ d) → s.image.qEnabled q = true → s.core.qEnabled q = true → s.core.qShed q = true → s.image.copiesEth p = false →
    s.image.reg R.PN_EVT_PAGES.at = 0 → (s.core.queue q).hold = [] → s.core.fillWith q (s.image.reg (R.Q_CONS.at q)) + 1 ≤ s.core.ringSize q →
    s.core.fillWith q (s.core.reg (R.Q_CONS.at q)) + 1 < s.core.ringSize q →
    (s.core.queue q).fresh + 1 < s.core.fld (R.Q_NOTIFY.at q) 0 16 →
    (s.core.qBase q + 32 * ((s.core.reg (R.Q_PROD.at q)).toNat % s.core.ringSize q)) % 2 ^ 34 = a →
    ∃ t, exec .queueEntryVisible s = .next t ∧ t.core.shedRead a 32 = p.bytes false ∧ t.core.reg (R.Q_PROD.at q) = s.core.reg (R.Q_PROD.at q) + 1 ∧
      t.core.reg (R.Q_WRITTEN.at q) = s.core.reg (R.Q_WRITTEN.at q) + 1 ∧ (t.core.queue q).fresh = (s.core.queue q).fresh + 1 ∧ t.core.made = [] ∧
      s.StoreFrame t [R.Q_PROD.at q, R.Q_WRITTEN.at q] [(a, 32)] (fun c d => { c with made := d.made, queues := d.queues, shed := d.shed, shedBad := d.shedBad, shedCe := d.shedCe })) ∧
  (∀ (s : State) (p : Pennant) (q : Nat), s.core.made = [p] → p.queue = some q → p.typ = 0x60 ∨ p.typ = 0x61 → s.image.qEnabled q = false →
    s.image.copiesEth p = false → s.image.reg R.PN_EVT_PAGES.at = 0 →
    ∃ t, exec .queueEntryVisible s = .next t ∧ (t.core.reg R.PN_DROP_CNT.at).toNat = satAdd 32 (s.core.reg R.PN_DROP_CNT.at).toNat 1 ∧
      t.core.made = [] ∧ s.Frame t [R.PN_DROP_CNT.at] (fun c d => { c with made := d.made })) ∧
  (∀ (s : State) (p : Pennant) (q : Nat), s.core.made = [p] → p.queue = some q → 2 ≤ q → q < 64 → p.typ = 0x60 ∨ p.typ = 0x61 →
    s.image.qEnabled q = true → s.core.qEnabled q = true → s.image.copiesEth p = false → s.image.reg R.PN_EVT_PAGES.at = 0 →
    (s.core.queue q).hold = [] → Core.qRoom s.image s.core q = 0 → s.core.qShed q = true →
    ∃ t, exec .queueEntryVisible s = .next t ∧ (t.core.queue q).hold = [⟨p, true, false⟩] ∧
      (t.core.reg (R.Q_HOLD_PEAK.at q)).toNat = max (s.core.reg (R.Q_HOLD_PEAK.at q)).toNat 1 ∧
      s.Frame t [R.Q_HOLD_PEAK.at q] (fun c d => { c with made := d.made, queues := d.queues })) ∧
  (∀ s : State, s.core.made = [] → s.image.reg R.PN_EVT_PAGES.at = 0 → exec .queueEntryVisible s = .next s) ∧
  (∀ (s : State) (q : Fin 64) (p : Pennant) (a : Nat), s.core.qEnabled q = true → 2 ≤ q.val → (s.core.queue q).hold = [⟨p, true, false⟩] → s.core.qShed q = true →
    p.alert = false → (∀ d ∈ p.due, s.core.time ≤ d) → 0 < Core.qRoom s.image s.core q →
    s.core.fillWith q (s.core.reg (R.Q_CONS.at q)) + 1 < s.core.ringSize q → (s.core.queue q).fresh + 1 < s.core.fld (R.Q_NOTIFY.at q) 0 16 →
    (s.core.qBase q + 32 * ((s.core.reg (R.Q_PROD.at q)).toNat % s.core.ringSize q)) % 2 ^ 34 = a →
    ∃ t, exec (.holdDrain q) s = .next t ∧ (t.core.queue q).hold = [] ∧ t.core.shedRead a 32 = p.bytes false ∧
      t.core.reg (R.Q_PROD.at q) = s.core.reg (R.Q_PROD.at q) + 1 ∧
      s.StoreFrame t [R.Q_PROD.at q, R.Q_WRITTEN.at q] [(a, 32)] (fun c d => { c with queues := d.queues, shed := d.shed, shedBad := d.shedBad, shedCe := d.shedCe })) ∧
  (∀ (s : State) (q : Fin 64), s.core.qEnabled q = false → exec (.holdDrain q) s = .next s) ∧
  (∀ (s : State) (q : Fin 64), s.core.notifyDue q = true →
    ∃ t, exec (.notifyTimeout q) s = .next t ∧ bitOf (t.core.reg (R.Q_EVENT.at q)) 0 = true ∧ (t.core.queue q).fresh = 0 ∧
      s.Frame t [R.Q_EVENT.at q] (fun c d => { c with queues := d.queues })) ∧
  (∀ (s : State) (q : Fin 64), s.core.notifyDue q = false → exec (.notifyTimeout q) s = .next s)

/-- R241, R242, R249, R251, R252: the consumer's index moves within what is filled; a queue enabled starts empty and its ring is fixed until it
is disabled; routing words are taken when they pass their checks and refused otherwise; a command fetched from the ring is judged by CRC and
sequence.
Clauses may rest on the readings of log entries 88, 89 and 92. -/
def Obligations.QueuesAreCommandedAndRouted : Prop :=
  (∀ (s : State) (port : Port) (q : Fin 64) (v : Word), 1 ≤ q.val → s.core.Free port (R.Q_CONS.at q) →
    (v - s.core.reg (R.Q_CONS.at q)).toNat ≤ s.core.fillWith q (s.core.reg (R.Q_CONS.at q)) →
    ∃ t, exec (.qConsWrite port q v) s = .next t ∧ t.core.reg (R.Q_CONS.at q) = v ∧
      s.Frame t [R.Q_CONS.at q] (fun c d => { c with rearm := d.rearm })) ∧
  (∀ (s : State) (port : Port) (q : Fin 64) (v : Word), 1 ≤ q.val → s.core.Free port (R.Q_CONS.at q) →
    s.core.fillWith q (s.core.reg (R.Q_CONS.at q)) < (v - s.core.reg (R.Q_CONS.at q)).toNat →
    ∃ t, exec (.qConsWrite port q v) s = .next t ∧ bitOf (t.core.reg (R.Q_EVENT.at q)) 4 = true ∧ bitOf (t.core.reg (R.PG_EVENT.at 0xA)) 31 = true ∧
      s.Frame t [R.Q_EVENT.at q, R.PG_EVENT.at 0xA]) ∧
  (∀ (s : State) (port : Port) (q : Fin 64) (v : Word), 2 ≤ q.val → s.core.Free port (R.Q_CFG.at q) →
    bitOf v 0 = true → bitOf (s.core.reg (R.Q_CFG.at q)) 0 = false → 6 ≤ fieldOf v 8 4 →
    ∃ t, exec (.qEnableWrite port q v) s = .next t ∧ t.core.reg (R.Q_CFG.at q) = v &&& 0x3F03 ∧ t.core.reg (R.Q_PROD.at q) = 0 ∧
      t.core.reg (R.Q_CONS.at q) = 0 ∧ t.core.queue q = {} ∧
      s.Frame t [R.Q_CFG.at q, R.Q_PROD.at q, R.Q_CONS.at q] (fun c d => { c with queues := d.queues })) ∧
  (∀ (s : State) (port : Port) (q : Fin 64) (v : Word), 2 ≤ q.val → s.core.Free port (R.Q_CFG.at q) →
    fieldOf v 8 4 < 6 ∨ (bitOf v 0 = false ∧ bitOf (s.core.reg (R.Q_CFG.at q)) 0 = true ∧ s.core.queueInUse q = true) →
    ∃ t, exec (.qEnableWrite port q v) s = .next t ∧ bitOf (t.core.reg (R.PG_EVENT.at 0xA)) 31 = true ∧ s.Frame t [R.PG_EVENT.at 0xA]) ∧
  (∀ (s : State) (port : Port) (v : Word), exec (.qConsWrite port 0 v) s = .next s) ∧
  (∀ (s : State) (port : Port) (v : Word), exec (.qEnableWrite port 0 v) s = .next s) ∧
  (∀ (s : State) (port : Port) (v : Word), s.core.Free port R.PN_CFG.at → fieldOf v 0 6 ≠ 1 → fieldOf v 8 6 ≠ 1 →
    s.core.routeCheck s.core.routeByte (fieldOf v 8 6) (fieldOf v 0 6) = none →
    ∃ t, exec (.routeWrite port none v) s = .next t ∧ t.core.devQueue = fieldOf v 0 6 ∧ t.core.alertQueue = fieldOf v 8 6 ∧
      t.core.fld R.PN_RESULT.at 0 4 = 0 ∧ t.core.fld R.PN_RESULT.at 16 8 = (s.core.fld R.PN_RESULT.at 16 8 + 1) % 256 ∧
      s.Frame t [R.PN_CFG.at, R.PN_RESULT.at]) ∧
  (∀ (s : State) (port : Port) (v : Word), s.core.Free port R.PN_CFG.at → fieldOf v 0 6 = 1 ∨ fieldOf v 8 6 = 1 →
    ∃ t, exec (.routeWrite port none v) s = .next t ∧ t.core.fld R.PN_RESULT.at 0 4 = 2 ∧ bitOf (t.core.reg (R.PG_EVENT.at 9)) 31 = true ∧
      s.Frame t [R.PN_RESULT.at, R.PG_EVENT.at 9]) ∧
  (∀ (s : State) (port : Port) (k : Fin 32) (v : Word), s.core.Free port (R.PN_ROUTE.at k) →
    s.core.routeJudge k (routeWordWritten k v) = (0, 0) →
    ∃ t, exec (.routeWrite port (some k) v) s = .next t ∧ t.core.reg (R.PN_ROUTE.at k) = routeWordWritten k v ∧ t.core.fld R.PN_RESULT.at 0 4 = 0 ∧
      s.Frame t [R.PN_ROUTE.at k, R.PN_RESULT.at]) ∧
  (∀ (s : State) (h : CmdHead) (typ byte : Nat), s.core.ready = true → s.core.takenBits .command (R.PN_ROUTE.at (typ / 4)) = 0 → listedType typ = true →
    hoistType typ = false → byte < 256 →
    s.core.routeJudge (typ / 4) (routeWordWritten (typ / 4) (putField (s.core.reg (R.PN_ROUTE.at (typ / 4))) (8 * (typ % 4)) 8 byte)) = (0, 0) →
    ∃ t, exec (.routeSet h typ byte) s = .next t ∧ t.core.routeByte typ = byte ∧
      t.core.made = (s.core.complete 0x28 h.seq 0 6 s.core.now []).made ∧ s.Frame t [R.PN_ROUTE.at (typ / 4)] (fun c d => { c with made := d.made })) ∧
  (∀ (s : State) (h : CmdHead) (typ byte : Nat), s.core.ready = true → s.core.takenBits .command (R.PN_ROUTE.at (typ / 4)) = 0 → listedType typ = false →
    ∃ t, exec (.routeSet h typ byte) s = .next t ∧ t.core.made = (s.core.complete 0x28 h.seq 2 0 s.core.now []).made ∧
      s.Frame t [] (fun c d => { c with made := d.made })) ∧
  (∀ (s : State) (b : List Byte), s.core.canFetch = true → s.core.cmdShed = false → b.length = 32 → crc16 (b.take 30) = bytesAt b 30 2 →
    s.core.inflight.contains (bytesAt b 0 2) = false → bytesAt b 0 2 = s.core.fld R.CMD_STATUS.at 8 16 → s.core.cmdWaiting < s.core.cmdRing →
    ∃ t, exec (.commandFetch b) s = .next t ∧ t.core.fetched = s.core.fetched ++ [⟨b⟩] ∧ t.core.inflight = s.core.inflight ++ [bytesAt b 0 2] ∧
      t.core.reg R.CQ0_CONS.at = s.core.reg R.CQ0_CONS.at + 1 ∧ t.core.fld R.CMD_STATUS.at 0 8 = s.core.fld R.CMD_STATUS.at 0 8 + 1 ∧
      t.core.fld R.CMD_STATUS.at 8 16 = (bytesAt b 0 2 + 1) % 65536 ∧
      s.Frame t [R.CQ0_CONS.at, R.CMD_STATUS.at] (fun c d => { c with fetched := d.fetched, inflight := d.inflight })) ∧
  (∀ (s : State) (b : List Byte), s.core.canFetch = true → s.core.cmdShed = false → b.length = 32 → crc16 (b.take 30) ≠ bytesAt b 30 2 →
    s.core.cmdWaiting < s.core.cmdRing →
    ∃ t, exec (.commandFetch b) s = .next t ∧ bitOf (t.core.reg (R.Q_EVENT.at 1)) 5 = true ∧
      t.core.made = (s.core.complete (bytesAt b 2 1) (bytesAt b 0 2) 5 0 s.core.now []).made ∧
      t.core.fld R.CMD_STATUS.at 8 16 = (s.core.fld R.CMD_STATUS.at 8 16 + 1) % 65536 ∧
      s.Frame t [R.CQ0_CONS.at, R.CMD_STATUS.at, R.Q_EVENT.at 1] (fun c d => { c with made := d.made })) ∧
  (∀ (s : State) (b : List Byte), s.core.canFetch = false → exec (.commandFetch b) s = .next s)

/-! ### Teams, blocks, subscriptions -/

/-- R260 to R262, R265 to R269, R271, R283, R285: a member's underrun and its end are shown and counted; a block that closes is stored whole in its
bay's next place, the rest of the Shed unchanged; teams open and close, subscriptions are added and dropped, by GO word and by ring command.
Clauses may rest on the readings of log entries 94, 96 and 98. -/
def Obligations.TeamsMembersAndSubscriptions : Prop :=
  (∀ (s : State) (m : Fin 256) (g late stamp : Nat) (cause : Fin 7), s.runs 0xB = true → s.core.memberValid m = true →
    s.core.fld (R.MEMBER.at m) 16 1 = 0 → late = 0 →
    ∃ t, exec (.memberUnderrun m g late stamp cause) s = .next t ∧ t.core.fld (R.MEMBER.at m) 16 1 = 1 ∧ (t.core.member m).since = g ∧
      (t.core.member m).under = satAdd 32 (s.core.member m).under 1 ∧ bitOf (t.core.reg (R.PG_EVENT.at 0xB)) 0 = true ∧
      s.Frame t [R.MEMBER.at m, R.PG_EVENT.at 0xB] (fun c d => { c with members := d.members })) ∧
  (∀ (s : State) (m : Fin 256) (g late stamp : Nat) (cause : Fin 7), s.runs 0xB = true → s.core.memberValid m = true →
    s.core.fld (R.MEMBER.at m) 16 1 = 0 → 0 < late → s.core.sourceQuiet m = false → s.core.fld (R.MEMBER.at m) 6 2 = 0 →
    ∃ t, exec (.memberUnderrun m g late stamp cause) s = .next t ∧ t.core.fld (R.MEMBER.at m) 16 1 = 1 ∧
      (t.core.member m).late = satAdd 32 (s.core.member m).late late ∧
      (t.core.reg R.DL_MISS_CNT.at).toNat = satAdd 32 (s.core.reg R.DL_MISS_CNT.at).toNat 1 ∧ t.core.made.length = s.core.made.length + 1 ∧
      (∀ p ∈ t.core.made.getLast?, p.typ = 0x29 ∧ p.source = s.core.fld (R.MEMBER.at m) 8 8 ∧ p.stall = true) ∧ s.core.KeepsShed t.core) ∧
  (∀ (s : State) (m : Fin 256) (g late stamp : Nat) (cause : Fin 7), s.core.memberValid m = false →
    exec (.memberUnderrun m g late stamp cause) s = .next s) ∧
  (∀ (s : State) (m : Fin 256) (stamp : Nat), s.runs 0xB = true → s.core.memberValid m = true → s.core.fld (R.MEMBER.at m) 16 1 = 1 →
    s.core.fld (R.MEMBER.at m) 6 2 = 1 →
    ∃ t, exec (.memberResume m stamp 0) s = .next t ∧ t.core.fld (R.MEMBER.at m) 16 1 = 0 ∧
      (t.core.fld (R.MEMBER.at m) 17 10 + stamp + s.core.teamLatency (s.core.memberTeam m)) % 1024 = 0 ∧ (t.core.member m).begun = true ∧
      bitOf (t.core.reg (R.PG_EVENT.at 0xB)) 1 = true ∧
      s.Frame t [R.MEMBER.at m, R.PG_EVENT.at 0xB] (fun c d => { c with members := d.members })) ∧
  (∀ (s : State) (m : Fin 256) (stamp late : Nat), s.core.memberValid m = false → exec (.memberResume m stamp late) s = .next s) ∧
  (∀ (s : State) (n : Fin 256) (stamp count a : Nat) (words : List Word), s.runs 0x1A = true → s.core.stState n ≠ 0 → s.core.cls n = 1 →
    words.length = 2 * count → 0 < count → count ≤ 1024 →
    n * 0x2800000 + 8256 * ((s.core.bay (2 * n)).written % 3000) = a →
    ∃ t, exec (.bayBlockClose 0 n false stamp words) s = .next t ∧
      t.core.shedRead a 16 = leBytes 8 stamp ++ leBytes 8 (s.core.bay (2 * n)).written ∧
      t.core.shedRead (a + 64) (8 * count) = words.flatMap (fun w => leBytes 4 (w &&& 0xFFFFFF01).toNat) ∧
      (t.core.bay (2 * n)).written = (s.core.bay (2 * n)).written + 1 ∧ (t.core.bay (2 * n)).fresh = false ∧
      s.StoreFrame t [] [(a, 64 + 8 * count)] (fun c d => { c with bays := d.bays, shed := d.shed, shedBad := d.shedBad, shedCe := d.shedCe, made := d.made })) ∧
  (∀ (s : State) (kind : Fin 4) (i : Fin 256) (mpx : Bool) (stamp : Nat) (words : List Word), s.core.bayWrites kind i mpx = false →
    exec (.bayBlockClose kind i mpx stamp words) s = .next s) ∧
  (∀ (s : State) (k lat : Nat), s.core.fld R.TEAM_STAGE.at 0 5 = k → s.core.fld R.TEAM_STAGE.at 8 2 = lat → s.core.teamOpen k = false →
    ∃ t, exec .teamGoOpen s = .next t ∧ t.core.teamOpen k = true ∧ t.core.teamLatency k = latencyOf lat ∧
      t.core.fld R.TEAM_RESULT.at 0 4 = 0 ∧ t.core.fld R.TEAM_RESULT.at 8 5 = k ∧
      t.core.fld R.TEAM_RESULT.at 16 8 = (s.core.fld R.TEAM_RESULT.at 16 8 + 1) % 256 ∧ s.Frame t [R.TEAM.at k, R.TEAM_RESULT.at]) ∧
  (∀ (s : State) (k : Nat), s.core.fld R.TEAM_STAGE.at 0 5 = k → s.core.teamOpen k = true →
    ∃ t, exec .teamGoOpen s = .next t ∧ t.core.fld R.TEAM_RESULT.at 0 4 = 1 ∧ s.Frame t [R.TEAM_RESULT.at]) ∧
  (∀ (s : State) (k : Nat), s.core.fld R.TEAM_STAGE.at 0 5 = k → s.core.teamOpen k = true → s.core.teamMembers k = [] →
    ∃ t, exec .teamGoClose s = .next t ∧ t.core.teamOpen k = false ∧ t.core.fld R.TEAM_RESULT.at 0 4 = 0 ∧
      s.Frame t [R.TEAM.at k, R.TEAM_RESULT.at]) ∧
  (∀ (s : State) (k : Nat), s.core.fld R.TEAM_STAGE.at 0 5 = k → s.core.teamOpen k = false ∨ s.core.teamMembers k ≠ [] →
    ∃ t, exec .teamGoClose s = .next t ∧ t.core.fld R.TEAM_RESULT.at 0 4 = 1 ∧ s.Frame t [R.TEAM_RESULT.at]) ∧
  (∀ (s : State) (h : CmdHead) (k : Fin 32) (lat : Fin 4), s.core.ready = true → s.core.teamOpen k = false →
    ∃ t, exec (.teamOpen h k lat) s = .next t ∧ t.core.teamOpen k = true ∧ t.core.teamLatency k = latencyOf lat ∧
      t.core.made = (s.core.complete 0x30 h.seq 0 7 s.core.now []).made ∧ s.Frame t [R.TEAM.at k] (fun c d => { c with made := d.made })) ∧
  (∀ (s : State) (h : CmdHead) (k lat : Nat), s.core.ready = true → 32 ≤ k ∨ 4 ≤ lat →
    ∃ t, exec (.teamOpen h k lat) s = .next t ∧ t.core.made = (s.core.complete 0x30 h.seq 2 7 s.core.now []).made ∧
      s.Frame t [] (fun c d => { c with made := d.made })) ∧
  (∀ (s : State) (h : CmdHead) (k : Fin 32), s.core.ready = true → s.core.teamOpen k = true → s.core.teamMembers k = [] →
    ∃ t, exec (.teamClose h k) s = .next t ∧ t.core.teamOpen k = false ∧ t.core.made = (s.core.complete 0x31 h.seq 0 7 s.core.now []).made ∧
      s.Frame t [R.TEAM.at k] (fun c d => { c with made := d.made })) ∧
  (∀ (s : State) (i : Nat), s.core.subCheck s.core.subStaged = 0 → s.core.freeSub = some i →
    ∃ t, exec .subGoAdd s = .next t ∧ t.core.sub i = { s.core.subStaged with valid := true } ∧ t.core.fld R.SUB_RESULT.at 0 4 = 0 ∧
      t.core.fld R.SUB_RESULT.at 8 8 = i ∧ t.core.fld R.SUB_RESULT.at 16 8 = (s.core.fld R.SUB_RESULT.at 16 8 + 1) % 256 ∧
      s.Frame t [R.SUB_RESULT.at] (fun c d => { c with subs := d.subs })) ∧
  (∀ (s : State) (code : Nat), s.core.subCheck s.core.subStaged = code → code ≠ 0 →
    ∃ t, exec .subGoAdd s = .next t ∧ t.core.fld R.SUB_RESULT.at 0 4 = code ∧ s.Frame t [R.SUB_RESULT.at]) ∧
  (∀ (s : State) (i : Fin 256), (s.core.sub i).valid = true →
    ∃ t, exec (.subGoDrop i) s = .next t ∧ (t.core.sub i).valid = false ∧ t.core.fld R.SUB_RESULT.at 0 4 = 0 ∧
      s.Frame t [R.SUB_RESULT.at] (fun c d => { c with subs := d.subs })) ∧
  (∀ (s : State) (i : Fin 256), (s.core.sub i).valid = false →
    ∃ t, exec (.subGoDrop i) s = .next t ∧ t.core.fld R.SUB_RESULT.at 0 4 = 1 ∧ s.Frame t [R.SUB_RESULT.at]) ∧
  (∀ (s : State) (h : CmdHead) (kind srcKind : Fin 4) (source sel : Fin 256) (queue : Fin 64) (i : Nat), s.core.ready = true →
    s.core.subCheck { kind := kind, srcKind := srcKind, source := source, sel := sel, queue := queue } = 0 → s.core.freeSub = some i →
    ∃ t, exec (.subAdd h kind srcKind source sel queue) s = .next t ∧
      t.core.sub i = { valid := true, kind := kind, srcKind := srcKind, source := source, sel := sel, queue := queue } ∧
      t.core.made = (s.core.complete 0x32 h.seq 0 7 s.core.now (leBytes 1 i)).made ∧
      s.Frame t [] (fun c d => { c with subs := d.subs, made := d.made })) ∧
  (∀ (s : State) (h : CmdHead) (i : Fin 256), s.core.ready = true → (s.core.sub i).valid = true →
    ∃ t, exec (.subDrop h i) s = .next t ∧ (t.core.sub i).valid = false ∧ t.core.made = (s.core.complete 0x33 h.seq 0 7 s.core.now []).made ∧
      s.Frame t [] (fun c d => { c with subs := d.subs, made := d.made }))

/-! ### Serial audio ports and Ethernet -/

/-- R274 to R277, R279 to R281, R283, R284, R286 to R288: a port starts on the audio grid, takes its maps, changes its mask on a frame and shows its
clock; the PTP servo locks and loses; requests are answered, packets and datagrams sent, and one miss reported per outage.
Clauses may rest on the readings of log entries 93, 94, 95 and 133. -/
def Obligations.PortsAndEthernet : Prop :=
  (∀ (s : State) (port : Port) (p : Fin 8) (v : Word), s.core.Free port (R.SAP_CFG.at p) → bitOf v 0 = true →
    bitOf (s.core.reg (R.SAP_CFG.at p)) 0 = false → fieldOf v 2 2 ≠ 3 → fieldOf v 4 2 = 0 → bitOf v 1 = false →
    s.core.fld (R.SAP_STATUS.at p) 3 1 = 0 →
    ∃ t, exec (.sapEnable port p v) s = .next t ∧ t.core.reg (R.SAP_CFG.at p) = v &&& 0x7FF ∧
      t.core.reg (R.SAP_START_LO.at p) = BitVec.ofNat 32 (gridAt (48 * (s.core.now + 2))) ∧
      t.core.reg (R.SAP_START_HI.at p) = BitVec.ofNat 32 (gridAt (48 * (s.core.now + 2)) / 2 ^ 32) ∧
      s.Frame t [R.SAP_CFG.at p, R.SAP_START_LO.at p, R.SAP_START_HI.at p] (fun c d => { c with saps := d.saps })) ∧
  (∀ (s : State) (port : Port) (p : Fin 8) (v : Word), s.core.Free port (R.SAP_CFG.at p) → fieldOf v 2 2 = 3 →
    ∃ t, exec (.sapEnable port p v) s = .next t ∧ bitOf (t.core.reg (R.PG_EVENT.at 0xC)) 31 = true ∧ s.Frame t [R.PG_EVENT.at 0xC]) ∧
  (∀ (s : State) (port : Port) (p : Fin 8) (k : Fin 16) (v : Word), s.core.Free port (R.SAP_MAP.at p k) → s.core.mapCheck (v.toNat % 65536) = 0 →
    ∃ t, exec (.sapMapWrite port p k v) s = .next t ∧ t.core.reg (R.SAP_MAP.at p k) = v &&& 0x81FF ∧ s.Frame t [R.SAP_MAP.at p k]) ∧
  (∀ (s : State) (port : Port) (p : Fin 8) (k : Fin 16) (v : Word), s.core.Free port (R.SAP_MAP.at p k) → s.core.mapCheck (v.toNat % 65536) ≠ 0 →
    ∃ t, exec (.sapMapWrite port p k v) s = .next t ∧ bitOf (t.core.reg (R.PG_EVENT.at 0xC)) 31 = true ∧ s.Frame t [R.PG_EVENT.at 0xC]) ∧
  (∀ (s : State) (h : CmdHead) (p : Fin 8) (k : Fin 16) (v : Nat), s.core.ready = true → s.core.takenBits .command (R.SAP_MAP.at p k) = 0 →
    s.core.mapCheck (v % 65536) = 0 →
    ∃ t, exec (.sapMap h p k v) s = .next t ∧ t.core.reg (R.SAP_MAP.at p k) = BitVec.ofNat 32 (v % 65536) &&& 0x81FF ∧
      t.core.made = (s.core.complete 0x34 h.seq 0 7 s.core.now []).made ∧ s.Frame t [R.SAP_MAP.at p k] (fun c d => { c with made := d.made })) ∧
  (∀ (s : State) (port : Port) (p : Fin 8) (v : Word), s.core.Free port (R.SAP_MASK_NEXT.at p) → s.core.sapOn p = true →
    ∃ t, exec (.sapMaskWrite port p v) s = .next t ∧ t.core.reg (R.SAP_MASK_NEXT.at p) = v ∧ t.core.fld (R.SAP_STATUS.at p) 3 1 = 1 ∧
      t.core.reg (R.SAP_MASK_FRAME.at p) = BitVec.ofNat 32 (s.core.maskFrame p).1 ∧ (t.core.sap p).maskAt = some (s.core.maskFrame p).2 ∧
      s.Frame t [R.SAP_MASK_NEXT.at p, R.SAP_STATUS.at p, R.SAP_MASK_FRAME.at p] (fun c d => { c with saps := d.saps })) ∧
  (∀ (s : State) (h : CmdHead) (p : Fin 8) (v : Word), s.core.ready = true → s.core.takenBits .command (R.SAP_MASK_NEXT.at p) = 0 → s.core.sapOn p = true →
    ∃ t, exec (.sapMask h p v) s = .next t ∧ t.core.reg (R.SAP_MASK_NEXT.at p) = v ∧
      t.core.made = (s.core.complete 0x35 h.seq 0 7 s.core.now (leBytes 4 ((s.core.maskFrame p).1 % 2 ^ 32))).made ∧
      s.Frame t [R.SAP_MASK_NEXT.at p, R.SAP_STATUS.at p, R.SAP_MASK_FRAME.at p] (fun c d => { c with saps := d.saps, made := d.made })) ∧
  (∀ (s : State) (p : Fin 8), s.runs 0xC = true → s.core.maskDue p = true →
    ∃ t, exec (.sapMaskApply p) s = .next t ∧ t.core.reg (R.SAP_MASK_CUR.at p) = s.core.reg (R.SAP_MASK_NEXT.at p) ∧
      t.core.fld (R.SAP_STATUS.at p) 3 1 = 0 ∧ bitOf (t.core.reg (R.PG_EVENT.at 0xC)) p = true ∧
      s.Frame t [R.SAP_MASK_CUR.at p, R.SAP_STATUS.at p, R.PG_EVENT.at 0xC] (fun c d => { c with saps := d.saps })) ∧
  (∀ (s : State) (p : Fin 8), s.core.maskDue p = false → exec (.sapMaskApply p) s = .next s) ∧
  (∀ (s : State) (p : Fin 8), s.runs 0xC = true → s.core.sapSlave p = true →
    ∃ t, exec (.sapClkLoss p) s = .next t ∧ t.core.fld (R.SAP_STATUS.at p) 1 1 = 0 ∧ bitOf (t.core.reg (R.PG_EVENT.at 0xC)) (8 + p) = true ∧
      t.core.fld (R.ASRC_STATUS.at p) 0 1 = 0 ∧
      s.Frame t [R.SAP_STATUS.at p, R.ASRC_STATUS.at p, R.PG_EVENT.at 0xC]) ∧
  (∀ (s : State) (p : Fin 8) (ratio tx rx : Word), s.runs 0xD = true → s.core.sapSlave p = true →
    ∃ t, exec (.asrcLock p ratio tx rx) s = .next t ∧ t.core.fld (R.SAP_STATUS.at p) 1 2 = 3 ∧ t.core.fld (R.ASRC_STATUS.at p) 0 1 = 1 ∧
      t.core.reg (R.ASRC_RATIO.at p) = ratio ∧ t.core.reg (R.ASRC_DELAY.at p) = tx ∧ t.core.reg (R.ASRC_DELAY_RX.at p) = rx ∧
      s.Frame t [R.SAP_STATUS.at p, R.ASRC_STATUS.at p, R.ASRC_RATIO.at p, R.ASRC_DELAY.at p, R.ASRC_DELAY_RX.at p]) ∧
  (∀ (s : State) (offset : Int), s.runs 0xE = true → s.core.ethUp = true → s.core.fld R.ETH_CFG.at 2 1 = 1 →
    s.core.fld R.ETH_STATUS.at 1 1 = 0 → offset.natAbs < 1000 → 15 ≤ s.core.ptp.good →
    ∃ t, exec (.ptpSync offset) s = .next t ∧ t.core.fld R.ETH_STATUS.at 1 1 = 1 ∧ t.core.reg R.PTP_OFFSET.at = BitVec.ofInt 32 offset ∧
      t.core.ptp.last = s.core.now ∧ s.Frame t [R.ETH_STATUS.at, R.PTP_OFFSET.at] (fun c d => { c with ptp := d.ptp })) ∧
  (∀ s : State, s.runs 0xE = true → s.core.ptpTimeoutDue = true →
    ∃ t, exec .ptpTimeout s = .next t ∧ t.core.fld R.ETH_STATUS.at 1 1 = 0 ∧ t.core.ptp.good = 0 ∧
      s.Frame t [R.ETH_STATUS.at] (fun c d => { c with ptp := d.ptp })) ∧
  (∀ s : State, s.core.ptpTimeoutDue = false → exec .ptpTimeout s = .next s) ∧
  (∀ (s : State) (src : Word) (b : List Byte), s.runs 0xE = true → s.core.ethUp = true → bitOf (s.core.reg R.ETH_VLAN.at) 15 = false →
    ∃ t, exec (.ethFrameRx .icmpEcho (s.core.reg R.IP_ADDR.at) src b) s = .next t ∧
      t.core.out = s.core.out ++ [.ethernet .icmpEcho src 0 0 0 b] ∧ s.Frame t [] (fun c d => { c with out := d.out })) ∧
  (∀ (s : State) (kind : EthKind) (target src : Word) (b : List Byte), target ≠ s.core.reg R.IP_ADDR.at →
    exec (.ethFrameRx kind target src b) s = .next s) ∧
  (∀ (s : State) (i : Fin 64) (g ptp : Nat) (l : List (BitVec 24)), s.runs 0xE = true → bitOf (s.core.reg (R.AES_CFG.at i)) 0 = true →
    s.core.fld R.ETH_CFG.at 0 1 = 1 → l.length = aesSamples (s.core.reg (R.AES_CFG.at i)) * s.core.fld (R.AES_CFG.at i) 3 4 → g % 1024 = 0 →
    s.core.fld R.ETH_STATUS.at 0 2 = 3 → (s.core.aes i).next = none →
    ∃ t, exec (.aesPacket i g ptp l) s = .next t ∧ t.core.out.length = s.core.out.length + 1 ∧
      (t.core.aes i).seq = ((s.core.aes i).seq + 1) % 65536 ∧
      t.core.fld (R.AES_STATUS.at i) 16 16 = (s.core.fld (R.AES_STATUS.at i) 16 16 + 1) % 65536 ∧
      s.Frame t [R.AES_STATUS.at i] (fun c d => { c with out := d.out, aess := d.aess })) ∧
  (∀ (s : State) (i : Fin 64) (g ptp : Nat) (l : List (BitVec 24)), s.runs 0xE = true → bitOf (s.core.reg (R.AES_CFG.at i)) 0 = true →
    s.core.fld R.ETH_CFG.at 0 1 = 1 → l.length = aesSamples (s.core.reg (R.AES_CFG.at i)) * s.core.fld (R.AES_CFG.at i) 3 4 → g % 1024 = 0 →
    s.core.fld R.ETH_STATUS.at 0 1 = 0 → (s.core.aes i).lost = false →
    ∃ t, exec (.aesPacket i g ptp l) s = .next t ∧ (t.core.aes i).lost = true ∧ t.core.out = s.core.out ∧
      t.core.made.length = s.core.made.length + 1 ∧
      (t.core.reg R.DL_MISS_CNT.at).toNat = satAdd 32 (s.core.reg R.DL_MISS_CNT.at).toNat 1 ∧ s.core.KeepsShed t.core) ∧
  (∀ (s : State) (i : Fin 64) (g ptp : Nat) (l : List (BitVec 24)), bitOf (s.core.reg (R.AES_CFG.at i)) 0 = false →
    exec (.aesPacket i g ptp l) s = .next s) ∧
  (∀ s : State, s.runs 0xE = true → s.core.datagramDue = true → s.core.fld R.PEN_CFG.at 0 1 = 1 → s.core.fld R.ETH_CFG.at 0 1 = 1 →
    s.core.fld R.ETH_STATUS.at 0 1 = 1 →
    ∃ t, exec .penDatagram s = .next t ∧ t.core.penStream = s.core.penStream.drop 44 ∧ t.core.reg R.PEN_SEQ.at = s.core.reg R.PEN_SEQ.at + 1 ∧
      t.core.out.length = s.core.out.length + 1 ∧
      s.Frame t [R.PEN_SEQ.at] (fun c d => { c with penStream := d.penStream, penSince := d.penSince, out := d.out })) ∧
  (∀ s : State, s.core.datagramDue = false → exec .penDatagram s = .next s) ∧
  (∀ s : State, s.runs 0xE = true →
    ∃ t, exec (.ethLinkChange false) s = .next t ∧ t.core.fld R.ETH_STATUS.at 0 1 = 0 ∧ s.Frame t [R.ETH_STATUS.at]) ∧
  (∀ s : State, s.runs 0xE = true →
    ∃ t, exec (.ethLinkChange true) s = .next t ∧ t.core.fld R.ETH_STATUS.at 0 1 = 1 ∧ t.core.penLost = false ∧
      (∀ e ∈ t.core.aess, e.2.lost = false) ∧ s.Frame t [R.ETH_STATUS.at] (fun c d => { c with penLost := d.penLost, aess := d.aess })) ∧
  (∀ (s : State) (h : CmdHead) (i : Fin 64) (j : Fin 8) (v : Nat), s.core.ready = true → s.core.takenBits .command (R.AES_MAP.at i (j / 2)) = 0 →
    bitOf (s.core.reg (R.AES_CFG.at i)) 0 = false → s.core.mapCheck (v % 65536) = 0 →
    ∃ t, exec (.aesMap h i j v) s = .next t ∧ t.core.aesMapped i j = (v % 65536) &&& 0x81FF ∧
      t.core.made = (s.core.complete 0x36 h.seq 0 7 s.core.now []).made ∧
      s.Frame t [R.AES_MAP.at i (j / 2)] (fun c d => { c with made := d.made })) ∧
  (∀ (s : State) (h : CmdHead) (i : Fin 64) (en : Bool), s.core.ready = true → s.core.takenBits .command (R.AES_CFG.at i) = 0 →
    s.core.aesCheck i (putField (s.core.reg (R.AES_CFG.at i)) 0 1 (b2n en)) = 0 →
    ∃ t, exec (.aesEn h i en) s = .next t ∧ t.core.reg (R.AES_CFG.at i) = putField (s.core.reg (R.AES_CFG.at i)) 0 1 (b2n en) ∧
      t.core.made = (s.core.complete 0x37 h.seq 0 7 s.core.now []).made ∧
      s.Frame t [R.AES_CFG.at i] (fun c d => { c with made := d.made, aess := d.aess })) ∧
  (∀ (s : State) (h : CmdHead) (i : Nat) (en : Bool), s.core.ready = true → 64 ≤ i →
    ∃ t, exec (.aesEn h i en) s = .next t ∧ t.core.made = (s.core.complete 0x37 h.seq 2 7 s.core.now []).made ∧
      s.Frame t [] (fun c d => { c with made := d.made }))

/-! ### The Shed's access path and the PCI Express window -/

/-- R39, R43, R258, R289, R413, R414: a line of the Shed is loaded into and stored from the access words, where hosts may write; the window of BAR2
reads and writes the Shed and refuses what hosts may not write; an uncorrectable word is reported.
Clauses may rest on the readings of log entries 2, 5, 13 and 97. -/
def Obligations.TheShedIsReached : Prop :=
  (∀ s : State, s.runs 0x1A = true → (∀ w ∈ wordsOf s.core.accLine 64, s.core.wordBad w = false ∧ Table.get (fun _ => false) s.core.shedCe w = false) →
    ∃ t, exec .shedAccLoad s = .next t ∧
      (∀ i : Fin 16, (t.core.reg (R.SHED_ACC_DATA.at i)).toNat = bytesAt (s.core.shedRead s.core.accLine 64) (4 * i) 4) ∧
      t.core.fld R.SHED_ACC_RESULT.at 0 4 = 0 ∧ t.core.fld R.SHED_ACC_RESULT.at 16 8 = (s.core.fld R.SHED_ACC_RESULT.at 16 8 + 1) % 256 ∧
      bitOf (t.core.reg (R.PG_EVENT.at 0x1A)) 0 = true ∧
      s.Frame t ((List.range 16).map (fun i => R.SHED_ACC_DATA.at i) ++ [R.SHED_ACC_RESULT.at, R.PG_EVENT.at 0x1A])) ∧
  (∀ (s : State) (w : Nat), s.runs 0x1A = true → w ∈ wordsOf s.core.accLine 64 → s.core.wordBad w = true →
    (∀ x ∈ wordsOf s.core.accLine 64, Table.get (fun _ => false) s.core.shedCe x = false) →
    ∃ t, exec .shedAccLoad s = .next t ∧ t.core.fld R.SHED_ACC_RESULT.at 0 4 = 2 ∧ bitOf (t.core.reg (R.PG_EVENT.at 0x15)) 11 = true ∧
      s.core.KeepsShed t.core) ∧
  (∀ s : State, s.runs 0x1A = true → s.core.hostWritable s.core.accLine = true → s.core.fld R.SHED_ECC_CFG.at 16 2 = 0 →
    ∃ t, exec .shedAccStore s = .next t ∧
      t.core.shedRead s.core.accLine 64 = (List.range 16).flatMap (fun i => leBytes 4 (s.core.reg (R.SHED_ACC_DATA.at i)).toNat) ∧
      t.core.fld R.SHED_ACC_RESULT.at 0 4 = 0 ∧
      s.StoreFrame t [R.SHED_ACC_RESULT.at, R.PG_EVENT.at 0x1A] [(s.core.accLine, 64)] (fun c d => { c with shed := d.shed, shedBad := d.shedBad, shedCe := d.shedCe })) ∧
  (∀ s : State, s.runs 0x1A = true → s.core.hostWritable s.core.accLine = false →
    ∃ t, exec .shedAccStore s = .next t ∧ t.core.fld R.SHED_ACC_RESULT.at 0 4 = 1 ∧
      s.Frame t [R.SHED_ACC_RESULT.at, R.PG_EVENT.at 0x1A]) ∧
  (∀ (s : State) (o a : Nat) (b : List Byte), s.core.linkUp = true → b ≠ [] → s.core.windowAddr o = a → s.core.hostWritable a = true →
    s.core.hostWritable (a + b.length - 1) = true →
    ∃ t, exec (.pcieBar2Write o b) s = .next t ∧ t.core.shedRead a b.length = b ∧
      s.StoreFrame t [] [(a, b.length)] (fun c d => { c with shed := d.shed, shedBad := d.shedBad, shedCe := d.shedCe })) ∧
  (∀ (s : State) (o : Nat) (b : List Byte), s.core.linkUp = true → b ≠ [] → s.core.hostWritable (s.core.windowAddr o) = false →
    ∃ t, exec (.pcieBar2Write o b) s = .next t ∧ bitOf (t.core.reg R.HOST_ERR.at) 5 = true ∧
      s.Frame t [R.HOST_ERR.at, R.HOST_ERR_ADDR.at, R.PG_EVENT.at 0]) ∧
  (∀ (s : State) (o : Nat) (b : List Byte), s.core.linkUp = false → exec (.pcieBar2Write o b) s = .next s) ∧
  (∀ (s : State) (o n a : Nat), s.core.linkUp = true → s.core.windowAddr o = a →
    (∀ w ∈ wordsOf a n, s.core.wordBad w = false ∧ Table.get (fun _ => false) s.core.shedCe w = false) →
    ∃ t, exec (.pcieBar2Read o n) s = .next t ∧ t.core.out = s.core.out ++ [.shedData a (s.core.shedRead a n) false] ∧
      s.Frame t [] (fun c d => { c with out := d.out })) ∧
  (∀ (s : State) (o n : Nat), s.core.linkUp = false → exec (.pcieBar2Read o n) s = .next s) ∧
  (∀ (s : State) (rate : Fin 4) (width : Nat),
    ∃ t, exec (.pcieLinkUp rate width) s = .next t ∧ t.core.linkUp = true ∧ t.core.pcieCap = 6000 * 2 ^ rate.val * width / 32 ∧
      s.Frame t [] (fun c d => { c with linkUp := d.linkUp, pcieCap := d.pcieCap }))

/-! ### The Wamelon radio -/

/-- R291 to R316, R318, R362: the radio takes mode and channel words by their rules, calibrates and confirms, takes a request that passes the
Regulatory Lock and refuses one that does not, turns round, sends and comes back, is cut by a lost lock or supply, steps its gain on clips, applies
quiet-time calibrations and clears its duty window.
Clauses may rest on the readings of log entries 99, 100, 101, 102, 103, 104 and 105. -/
def Obligations.TheRadioFollowsItsRules : Prop :=
  (∀ (s : State) (port : Port) (v : Word), s.core.Free port R.WR_CTRL.at → fieldOf v 0 2 ≠ 3 → fieldOf v 2 2 ≠ 3 →
    fieldOf v 4 5 < bandChannels (fieldOf v 2 2) → s.core.wrState ≤ 2 → s.core.radio.commit = none →
    ∃ t, exec (.wrModeWrite port v) s = .next t ∧ t.core.reg R.WR_CTRL.at = v &&& 0x3FF ∧
      (fieldOf v 2 8 ≠ s.core.fld R.WR_CTRL.at 2 8 → t.core.radio.change = true) ∧
      s.Frame t [R.WR_CTRL.at] (fun c d => { c with radio := d.radio })) ∧
  (∀ (s : State) (port : Port) (v : Word), s.core.Free port R.WR_CTRL.at →
    fieldOf v 0 2 = 3 ∨ fieldOf v 2 2 = 3 ∨ bandChannels (fieldOf v 2 2) ≤ fieldOf v 4 5 →
    ∃ t, exec (.wrModeWrite port v) s = .next t ∧ bitOf (t.core.reg (R.PG_EVENT.at 0x11)) 31 = true ∧ s.Frame t [R.PG_EVENT.at 0x11]) ∧
  (∀ (s : State) (port : Port) (v : Word), s.core.Free port R.WR_CTRL.at → fieldOf v 0 2 ≠ 3 → fieldOf v 2 2 ≠ 3 →
    fieldOf v 4 5 < bandChannels (fieldOf v 2 2) → s.core.wrState ≤ 2 → s.core.radio.commit = none → fieldOf v 2 8 ≠ s.core.fld R.WR_CTRL.at 2 8 →
    ∃ t, exec (.wrChannelWrite port v) s = .next t ∧ t.core.reg R.WR_CTRL.at = v &&& 0x3FF ∧ t.core.radio.change = true ∧
      s.Frame t [R.WR_CTRL.at] (fun c d => { c with radio := d.radio })) ∧
  (∀ (s : State) (port : Port) (v : Word), s.core.Free port R.WR_CTRL.at → fieldOf v 2 8 ≠ s.core.fld R.WR_CTRL.at 2 8 →
    fieldOf v 0 2 = s.core.wrMode → s.core.wrBusy = true → s.core.calStuck = false →
    ∃ t, exec (.wrChannelWrite port v) s = .next t ∧ bitOf (t.core.reg (R.PG_EVENT.at 0x11)) 31 = true ∧ s.Frame t [R.PG_EVENT.at 0x11]) ∧
  (∀ (s : State) (port : Port) (v : Word), s.core.Free port R.WR_FOFS.at → -20000 ≤ signedOf 16 (fieldOf v 0 16) → signedOf 16 (fieldOf v 0 16) ≤ 20000 →
    ∃ t, exec (.wrFofsWrite port v) s = .next t ∧ t.core.reg R.WR_FOFS.at = v &&& 0xFFFF ∧ s.Frame t [R.WR_FOFS.at]) ∧
  (∀ (s : State) (port : Port) (v : Word), s.core.Free port R.WR_FOFS.at → signedOf 16 (fieldOf v 0 16) < -20000 ∨ 20000 < signedOf 16 (fieldOf v 0 16) →
    ∃ t, exec (.wrFofsWrite port v) s = .next t ∧ bitOf (t.core.reg (R.PG_EVENT.at 0x11)) 31 = true ∧ s.Frame t [R.PG_EVENT.at 0x11]) ∧
  (∀ (s : State) (e : Nat), s.runs 0x11 = true → s.core.radio.calEnd = some e → s.core.wrState = 3 → e / 48 = s.core.now →
    s.core.radio.commit = none → s.core.wrMode = 2 →
    ∃ t, exec (.syn1CalEnd true) s = .next t ∧ t.core.wrState = 2 ∧ t.core.syn1Locked = true ∧ t.core.radio.calEnd = none ∧
      (t.core.reg R.WR_CAL_CNT.at).toNat = satAdd 32 (s.core.reg R.WR_CAL_CNT.at).toNat 1 ∧ bitOf (t.core.reg (R.PG_EVENT.at 0x11)) 0 = true ∧
      s.Frame t [R.WR_STATUS.at, R.WL_STATUS.at, R.WR_AGC_STATUS.at, R.SYN1_STATUS.at, R.WR_CAL_CNT.at, R.PG_EVENT.at 0x11, R.PG_EVENT.at 2] (fun c d => { c with radio := d.radio, link := d.link })) ∧
  (∀ (s : State) (e : Nat), s.runs 0x11 = true → s.core.radio.calEnd = some e → s.core.wrState = 3 → e / 48 = s.core.now →
    s.core.radio.commit = none → s.core.radio.calAgain = false →
    ∃ t, exec (.syn1CalEnd false) s = .next t ∧ t.core.radio.calEnd = some (e + calLength) ∧ t.core.radio.calAgain = true ∧
      s.Frame t [] (fun c d => { c with radio := d.radio })) ∧
  (∀ (s : State) (e : Nat), s.runs 0x11 = true → s.core.radio.calEnd = some e → s.core.wrState = 3 → e / 48 = s.core.now →
    s.core.radio.commit = none → s.core.radio.calAgain = true →
    ∃ t, exec (.syn1CalEnd false) s = .next t ∧ t.core.wrState = 3 ∧ t.core.syn1Locked = false ∧ t.core.radio.calEnd = none ∧
      (t.core.reg R.SYN1_UNLOCK_CNT.at).toNat = satAdd 32 (s.core.reg R.SYN1_UNLOCK_CNT.at).toNat 1 ∧ s.core.KeepsShed t.core) ∧
  (∀ (s : State) (ok : Bool), s.core.radio.calEnd = none → exec (.syn1CalEnd ok) s = .next s) ∧
  (∀ (s : State) (r : TxReq), s.runs 0x11 = true → s.core.nextRequest = some r → r.origin = 0 → s.core.txCheck r = 0 →
    ∃ t, exec .txRequest s = .next t ∧ t.core.radio.commit = some (s.core.place r) ∧ t.core.radio.requests.length + 1 = s.core.radio.requests.length ∧
      s.Frame t [] (fun c d => { c with radio := d.radio })) ∧
  (∀ (s : State) (r : TxReq), s.runs 0x11 = true → s.core.nextRequest = some r → r.origin = 4 →
    s.core.txCheck { r with band := s.core.channelNow.1, chan := s.core.channelNow.2 } = 1 ∨ s.core.txCheck { r with band := s.core.channelNow.1, chan := s.core.channelNow.2 } = 3 →
    ∃ t, exec .txRequest s = .next t ∧ t.core.radio.commit = none ∧
      t.core.fld R.WR_TX_LAST.at 0 4 = s.core.txCheck { r with band := s.core.channelNow.1, chan := s.core.channelNow.2 } ∧
      (t.core.reg R.WR_TX_REFUSE_CNT.at).toNat = satAdd 32 (s.core.reg R.WR_TX_REFUSE_CNT.at).toNat 1 ∧
      bitOf (t.core.reg (R.PG_EVENT.at 0x11)) 3 = true ∧
      s.Frame t [R.WR_TX_LAST.at, R.WR_TX_LAST_AIR.at, R.WR_TX_REFUSE_CNT.at, R.PG_EVENT.at 0x11] (fun c d => { c with radio := d.radio })) ∧
  (∀ s : State, s.core.nextRequest = none → exec .txRequest s = .next s) ∧
  (∀ (s : State) (m : Commit), s.runs 0x11 = true → s.core.radio.commit = some m → (m.x1 - turnOn) / 48 = s.core.now → s.core.wrState = 2 →
    ∃ t, exec .txTurnStart s = .next t ∧ t.core.wrState = 4 ∧
      t.core.radio.pins = s.core.radio.pins ++ [(m.x1 - turnOn + 384, .trSel, true), (m.x1 - turnOn + 768, .paEn, true)] ∧
      t.core.fld R.WR_AGC_STATUS.at 6 1 = 1 ∧
      s.Frame t [R.WR_STATUS.at, R.WL_STATUS.at, R.WR_AGC_STATUS.at] (fun c d => { c with radio := d.radio, link := d.link, detectors := d.detectors, out := d.out })) ∧
  (∀ s : State, s.core.radio.commit = none → exec .txTurnStart s = .next s) ∧
  (∀ (s : State) (m : Commit), s.runs 0x11 = true → s.core.radio.commit = some m → (m.x1 + m.req.fd) / 48 = s.core.now → s.core.wrState = 5 →
    m.req.origin = 4 →
    ∃ t, exec .txEnd s = .next t ∧ t.core.wrState = 6 ∧ t.core.radio.commit = none ∧ t.core.radio.ended = some (m.x1 + m.req.fd) ∧
      t.core.radio.pins = downPins (m.x1 + m.req.fd) ∧ t.core.fld R.WR_TX_LAST.at 0 4 = 0 ∧
      (t.core.reg R.WR_TX_CNT.at).toNat = satAdd 32 (s.core.reg R.WR_TX_CNT.at).toNat 1 ∧
      s.Frame t [R.WR_STATUS.at, R.WL_STATUS.at, R.WR_AGC_STATUS.at, R.WR_TX_LAST.at, R.WR_TX_LAST_TICK.at, R.WR_TX_LAST_AIR.at, R.WR_TX_CNT.at, R.PG_EVENT.at 0x11] (fun c d => { c with radio := d.radio, link := d.link, detectors := d.detectors, out := d.out, counts := d.counts })) ∧
  (∀ s : State, s.core.radio.commit = none → exec .txEnd s = .next s) ∧
  (∀ (s : State) (e : Nat), s.runs 0x11 = true → s.core.radio.ended = some e → s.core.wrState = 6 → (e + turnBack) / 48 = s.core.now →
    s.core.radio.commit = none →
    ∃ t, exec .turnRxEnd s = .next t ∧ t.core.wrState = 2 ∧ t.core.radio.ended = none ∧
      s.Frame t [R.WR_STATUS.at, R.WL_STATUS.at, R.WR_AGC_STATUS.at] (fun c d => { c with radio := d.radio, link := d.link })) ∧
  (∀ s : State, s.core.radio.ended = none → exec .turnRxEnd s = .next s) ∧
  (∀ (s : State) (m : Commit), s.runs 0x11 = true → s.core.wrState = 5 → s.core.radio.commit = some m → m.charged = true → m.req.origin = 4 →
    ∃ t, exec (.txCut false) s = .next t ∧ t.core.wrState = 2 ∧ t.core.radio.commit = none ∧ t.core.syn1Locked = false ∧
      t.core.radio.calNext = true ∧ t.core.fld R.WR_TX_LAST.at 0 4 = 5 ∧ bitOf (t.core.reg (R.PG_EVENT.at 0x11)) 4 = true ∧ s.core.KeepsShed t.core) ∧
  (∀ s : State, s.core.wrState ≠ 4 → s.core.wrState ≠ 5 → exec (.txCut false) s = .next s) ∧
  (∀ s : State, s.runs 0x11 = true → s.core.radio.powerLost = false → s.core.radio.commit = none →
    ∃ t, exec (.txCut true) s = .next t ∧ t.core.radio.powerLost = true ∧ s.Frame t [] (fun c d => { c with radio := d.radio })) ∧
  (∀ (s : State) (clips : Nat) (peak mean : Int), s.runs 0x11 = true → s.core.now % 8 = 0 → s.core.wrState = 2 → s.core.syn1Locked = true →
    s.core.fld R.WR_AGC_STATUS.at 7 1 = 0 → s.core.fld R.WR_AGC_CFG.at 0 1 = 1 → s.core.radio.gain = none → 0 < clips →
    ∃ t, exec (.wrAgcBlock clips peak mean) s = .next t ∧
      t.core.radio.gain = some (s.core.now + 16, (s.core.stepDown (s.core.fld R.WR_AGC_STATUS.at 0 6)).1, (s.core.stepDown (s.core.fld R.WR_AGC_STATUS.at 0 6)).2) ∧
      (t.core.reg R.WR_CLIP_CNT.at).toNat = satAdd 32 (s.core.reg R.WR_CLIP_CNT.at).toNat 1 ∧ bitOf (t.core.reg (R.PG_EVENT.at 0x11)) 5 = true ∧
      s.Frame t [R.WR_CLIP_CNT.at, R.PG_EVENT.at 0x11] (fun c d => { c with radio := d.radio })) ∧
  (∀ (s : State) (clips : Nat) (peak mean : Int), s.core.now % 8 ≠ 0 → exec (.wrAgcBlock clips peak mean) s = .next s) ∧
  (∀ (s : State) (port : Port) (v : Word), s.core.Free port R.WR_AGC_CFG.at → fieldOf v 2 6 ≠ 0 → fieldOf v 2 6 ≤ 24 → fieldOf v 8 4 ≠ 0 →
    fieldOf v 12 6 ≤ 55 → 6 ≤ fieldOf v 18 6 → fieldOf v 18 6 ≤ 30 → bitOf v 0 = false →
    ∃ t, exec (.wrGManWrite port v) s = .next t ∧ t.core.reg R.WR_AGC_CFG.at = v &&& 0xFFFFFF ∧
      t.core.radio.gain = some (s.core.now + 2, fieldOf v 12 6, s.core.radio.byp) ∧ s.Frame t [R.WR_AGC_CFG.at] (fun c d => { c with radio := d.radio })) ∧
  (∀ (s : State) (port : Port) (v : Word), s.core.Free port R.WR_TEST.at → bitOf v 16 = true → fieldOf v 0 10 ≠ 0 → fieldOf v 0 10 ≤ 1000 →
    ∃ t, exec (.wrTestGo port v) s = .next t ∧ t.core.reg R.WR_TEST.at = v &&& 0x3FF ∧ t.core.radio.requests.length = s.core.radio.requests.length + 1 ∧
      (∀ r ∈ t.core.radio.requests.getLast?, r.origin = 4 ∧ r.fd = fieldOf v 0 10 * 49152 ∧ r.x1 = 48 * (s.core.now + 1)) ∧
      s.Frame t [R.WR_TEST.at] (fun c d => { c with radio := d.radio })) ∧
  (∀ (s : State) (port : Port) (v : Word), s.core.Free port R.WR_TEST.at → bitOf v 16 = true → fieldOf v 0 10 = 0 ∨ 1000 < fieldOf v 0 10 →
    ∃ t, exec (.wrTestGo port v) s = .next t ∧ bitOf (t.core.reg (R.PG_EVENT.at 0x11)) 31 = true ∧ s.Frame t [R.PG_EVENT.at 0x11]) ∧
  (∀ (s : State) (v : BgVals), s.runs 0x11 = true → s.core.radioQuiet = true →
    ∃ t, exec (.bgcalApply (some v)) s = .next t ∧ t.core.radio.eps = v.eps ∧ t.core.radio.phi = v.phi ∧ t.core.radio.fresh = none ∧
      (t.core.reg R.WR_STEP_LAT.at).toNat = v.stepLat.toNat ∧ t.core.reg R.WR_CAL_LAST_TICK.at = BitVec.ofNat 32 s.core.now ∧
      s.Frame t [R.WR_STEP_LAT.at, R.WR_IRC.at, R.WR_CAL_LAST_TICK.at, R.PG_EVENT.at 0x11] (fun c d => { c with radio := d.radio })) ∧
  (∀ (s : State) (v : BgVals), s.runs 0x11 = true → s.core.radioQuiet = false → s.core.radio.fresh = none →
    ∃ t, exec (.bgcalApply (some v)) s = .next t ∧ t.core.radio.fresh = some v ∧ t.core.radio.freshAt = s.core.now ∧
      s.Frame t [] (fun c d => { c with radio := d.radio })) ∧
  (∀ (s : State) (v : BgVals), s.runs 0x11 = true → s.core.radio.fresh = some v → s.core.radio.warned = false →
    s.core.radio.freshAt + 61440000 ≤ s.core.now →
    ∃ t, exec .bgcalWait s = .next t ∧ t.core.radio.warned = true ∧ bitOf (t.core.reg (R.PG_EVENT.at 0x11)) 8 = true ∧
      s.Frame t [R.PG_EVENT.at 0x11] (fun c d => { c with radio := d.radio })) ∧
  (∀ s : State, s.core.radio.fresh = none → exec .bgcalWait s = .next s) ∧
  (∀ s : State, s.runs 0x11 = true → s.core.now % 1024000 = 0 →
    ∃ t, exec .dutyBucketEnd s = .next t ∧ t.core.radio.duty = s.core.radio.duty.filter (fun e => s.core.inWindow e.2.1) ∧
      (∀ b : Fin 3, t.core.reg (R.RL_DUTY_USED.at b) = BitVec.ofNat 32 (microseconds (s.core.dutySum b))) ∧
      s.Frame t ([R.RL_PRECHARGE.at] ++ (List.range 3).map (fun b => R.RL_DUTY_USED.at b) ++ (List.range 3).map (fun b => R.RL_DUTY_LEFT.at b)) (fun c d => { c with radio := d.radio })) ∧
  (∀ s : State, s.core.now % 1024000 ≠ 0 → exec .dutyBucketEnd s = .next s) ∧
  (∀ s : State, s.runs 0x11 = true → s.core.syn1Locked = true → s.core.wrState = 2 → s.core.radio.commit = none →
    ∃ t, exec .syn1Unlock s = .next t ∧ t.core.wrState = 2 ∧ t.core.syn1Locked = false ∧ t.core.radio.calNext = true ∧
      (t.core.reg R.SYN1_UNLOCK_CNT.at).toNat = satAdd 32 (s.core.reg R.SYN1_UNLOCK_CNT.at).toNat 1 ∧ bitOf (t.core.reg (R.PG_EVENT.at 2)) 9 = true ∧
      s.Frame t [R.WR_STATUS.at, R.SYN1_STATUS.at, R.SYN1_UNLOCK_CNT.at, R.WL_STATUS.at, R.WR_AGC_STATUS.at, R.PG_EVENT.at 0x11, R.PG_EVENT.at 2] (fun c d => { c with radio := d.radio, link := d.link })) ∧
  (∀ s : State, s.core.syn1Locked = false → exec .syn1Unlock s = .next s) ∧
  (∀ (s : State) (port : Port) (k : Fin 5) (v : Word), s.core.Free port (softRow k).2 → s.core.locked 0x11 = false →
    ∃ t, exec (.rlSoftWrite port k v) s = .next t ∧ t.core.reg (softRow k).2 = (softRow k).1.merge 0 (s.core.reg (softRow k).2) v ∧
      (∀ b : Fin 3, t.core.reg (R.RL_DUTY_USED.at b) = BitVec.ofNat 32 (microseconds (s.core.dutySum b))) ∧
      s.Frame t ([(softRow k).2, R.RL_PRECHARGE.at] ++ (List.range 3).map (fun b => R.RL_DUTY_USED.at b) ++ (List.range 3).map (fun b => R.RL_DUTY_LEFT.at b)))

/-! ### The Wamelon link -/

/-- R323, R324, R329 to R338, R342 to R351: preambles take detectors, frames lock and capture, a frame that ends is judged by header, length and
CRC and its records made; air slots, frames and runs begin at their epochs with the masks pending for them; peers are learnt, added, deleted and
lost; sends and routes are taken when the link serves.
Clauses may rest on the readings of log entries 99, 107, 108, 109, 110 and 111. -/
def Obligations.TheLinkFollowsItsRules : Prop :=
  (∀ (s : State) (lane : Fin 8) (sf : Fin 7), s.runs 0x12 = true → s.core.wrState = 2 → s.core.syn1Locked = true →
    s.core.detectorFree (detectorKey lane sf 0) = true →
    ∃ t, exec (.preambleDetect lane sf) s = .next t ∧ t.core.detector (detectorKey lane sf 0) = { st := 1 } ∧
      bitOf (t.core.reg R.WR_STATUS.at) 5 = true ∧ t.core.fld R.WR_AGC_STATUS.at 7 1 = 1 ∧
      s.Frame t [R.WR_STATUS.at, R.WL_STATUS.at, R.WR_AGC_STATUS.at] (fun c d => { c with detectors := d.detectors, link := d.link, radio := d.radio })) ∧
  (∀ (s : State) (lane : Fin 8) (sf : Fin 7), s.runs 0x12 = true → s.core.wrState = 2 → s.core.syn1Locked = true →
    s.core.detectorFree (detectorKey lane sf 0) = false → s.core.detectorFree (detectorKey lane sf 1) = false →
    ∃ t, exec (.preambleDetect lane sf) s = .next t ∧ (t.core.reg R.WL_DET_BUSY.at).toNat = satAdd 32 (s.core.reg R.WL_DET_BUSY.at).toNat 1 ∧
      s.Frame t [R.WL_DET_BUSY.at]) ∧
  (∀ (s : State) (lane : Fin 8) (sf : Fin 7), s.core.wrState ≠ 2 → exec (.preambleDetect lane sf) s = .next s) ∧
  (∀ (s : State) (lane : Fin 8) (sf : Fin 7) (inst : Fin 2), s.runs 0x12 = true → (s.core.detector (detectorKey lane sf inst)).st = 1 →
    ∃ t, exec (.falseStart lane sf inst) s = .next t ∧ t.core.detector (detectorKey lane sf inst) = {} ∧
      (t.core.reg R.WL_FALSE_START.at).toNat = satAdd 32 (s.core.reg R.WL_FALSE_START.at).toNat 1 ∧
      s.Frame t [R.WL_FALSE_START.at, R.WR_STATUS.at, R.WL_STATUS.at, R.WR_AGC_STATUS.at] (fun c d => { c with detectors := d.detectors, link := d.link, radio := d.radio })) ∧
  (∀ (s : State) (lane : Fin 8) (sf : Fin 7) (inst : Fin 2), (s.core.detector (detectorKey lane sf inst)).st ≠ 1 →
    exec (.falseStart lane sf inst) s = .next s) ∧
  (∀ (s : State) (lane : Fin 8) (sf : Fin 7) (inst : Fin 2) (mark : Nat) (new old : Int) (cut : RxMeas) (cutLen : Nat), s.runs 0x12 = true →
    (s.core.detector (detectorKey lane sf inst)).st = 1 → (s.core.detector (detectorKey lane sf (1 - inst.val))).st ≠ 2 →
    ∃ t, exec (.frameLock lane sf inst mark new old cut cutLen) s = .next t ∧
      t.core.detector (detectorKey lane sf inst) = { st := 2, mark := mark } ∧
      s.Frame t [R.WR_STATUS.at, R.WL_STATUS.at, R.WR_AGC_STATUS.at] (fun c d => { c with detectors := d.detectors, link := d.link, radio := d.radio })) ∧
  (∀ (s : State) (lane : Fin 8) (sf : Fin 7) (inst : Fin 2) (mark : Nat) (new old : Int) (cut : RxMeas) (cutLen : Nat), s.runs 0x12 = true →
    (s.core.detector (detectorKey lane sf inst)).st = 1 → (s.core.detector (detectorKey lane sf (1 - inst.val))).st = 2 →
    old + (s.core.fld R.WL_DET_CFG.at 8 8 : Nat) * 256 ≤ new →
    ∃ t, exec (.frameLock lane sf inst mark new old cut cutLen) s = .next t ∧
      t.core.detector (detectorKey lane sf inst) = { st := 2, mark := mark, preempting := true } ∧
      t.core.detector (detectorKey lane sf (1 - inst.val)) = {} ∧
      (t.core.reg R.WL_PREEMPT.at).toNat = satAdd 32 (s.core.reg R.WL_PREEMPT.at).toNat 1 ∧
      (∀ p ∈ t.core.made.getLast?, p.typ = 0x31 ∧ p.source = lane.val ∧ p.sub = 3) ∧ t.core.made.length = s.core.made.length + 1 ∧
      s.Frame t [R.WL_PREEMPT.at, R.WR_STATUS.at, R.WL_STATUS.at, R.WR_AGC_STATUS.at, R.PG_EVENT.at 0x12] (fun c d => { c with detectors := d.detectors, link := d.link, radio := d.radio, made := d.made })) ∧
  (∀ (s : State) (lane : Fin 8) (sf : Fin 7) (inst : Fin 2) (header payload : List Byte) (m : RxMeas) (it stop : Nat), s.runs 0x12 = true →
    (s.core.detector (detectorKey lane sf inst)).st = 2 → (s.core.detector (detectorKey lane sf inst)).blanked = false → header.length ≠ 4 →
    ∃ t, exec (.frameRxEnd lane sf inst header payload m it stop) s = .next t ∧ t.core.detector (detectorKey lane sf inst) = {} ∧
      (t.core.reg R.WL_HDR_FAIL.at).toNat = satAdd 32 (s.core.reg R.WL_HDR_FAIL.at).toNat 1 ∧
      (∀ p ∈ t.core.made.getLast?, p.typ = 0x31 ∧ p.source = lane.val ∧ p.sub = 1) ∧ t.core.made.length = s.core.made.length + 1 ∧
      s.Frame t [R.WL_HDR_FAIL.at, R.WR_STATUS.at, R.WL_STATUS.at, R.WR_AGC_STATUS.at, R.PG_EVENT.at 0x12] (fun c d => { c with detectors := d.detectors, link := d.link, radio := d.radio, made := d.made })) ∧
  (∀ (s : State) (lane : Fin 8) (sf : Fin 7) (inst : Fin 2) (flags tag : Nat) (m : RxMeas) (it stop : Nat), s.runs 0x12 = true →
    (s.core.detector (detectorKey lane sf inst)).st = 2 → (s.core.detector (detectorKey lane sf inst)).blanked = false →
    ∃ t, exec (.frameRxEnd lane sf inst (headerBytes 0 2 flags tag (s.core.hubAddr % 256)) [] m it stop) s = .next t ∧
      t.core.detector (detectorKey lane sf inst) = {} ∧ (t.core.reg R.WL_RX_OK.at).toNat = satAdd 32 (s.core.reg R.WL_RX_OK.at).toNat 1 ∧
      (∀ p ∈ t.core.made.getLast?, p.typ = 0x30 ∧ p.source = lane.val ∧ p.more = false) ∧ t.core.made.length = s.core.made.length + 1 ∧
      s.Frame t [R.WL_RX_OK.at, R.WR_STATUS.at, R.WL_STATUS.at, R.WR_AGC_STATUS.at, R.PG_EVENT.at 0x12] (fun c d => { c with detectors := d.detectors, link := d.link, radio := d.radio, made := d.made, counts := d.counts })) ∧
  (∀ (s : State) (lane : Fin 8) (sf : Fin 7) (inst : Fin 2) (len flags tag : Nat) (body payload : List Byte) (m : RxMeas) (it stop : Nat),
    s.runs 0x12 = true → (s.core.detector (detectorKey lane sf inst)).st = 2 → (s.core.detector (detectorKey lane sf inst)).blanked = false →
    9 ≤ len → len ≤ 254 → flags % 2 = 0 → bytesOfBits (len + 2) (whiten (bitsOf (payload.take (len + 2)))) = body →
    crc16 (body.take len) = bytesAt body len 2 → s.core.findPeer (BitVec.ofNat 32 (bytesAt (body.take len) 0 4)) = none →
    s.core.freePeer ≠ none → s.core.wlBit 2 = false →
    ∃ t, exec (.frameRxEnd lane sf inst (headerBytes len 0 flags tag 0) payload m it stop) s = .next t ∧
      (t.core.reg R.WL_RX_OK.at).toNat = satAdd 32 (s.core.reg R.WL_RX_OK.at).toNat 1 ∧
      t.core.made.length = s.core.made.length + 1 + (len + 17) / 18 ∧
      (∀ p ∈ t.core.made.drop s.core.made.length, p.typ = 0x30 ∧ p.source = lane.val) ∧
      s.Frame t [R.WL_RX_OK.at, R.WR_STATUS.at, R.WL_STATUS.at, R.WR_AGC_STATUS.at, R.PG_EVENT.at 0x12] (fun c d => { c with detectors := d.detectors, link := d.link, radio := d.radio, made := d.made, counts := d.counts })) ∧
  (∀ s : State, s.runs 0x12 = true → s.core.linkRuns = true → s.core.link.slot ≠ some s.core.slotNow → s.core.link.run = none →
    s.core.link.frame = some (s.core.slotNow / 32) →
    ∃ t, exec .airSlotBoundary s = .next t ∧ t.core.link.slot = some s.core.slotNow ∧ t.core.fld R.WL_STATUS.at 16 5 = s.core.slotNow % 32 ∧
      t.core.fld R.WL_STATUS.at 0 1 = 1 ∧ s.Frame t [R.WL_STATUS.at] (fun c d => { c with link := d.link })) ∧
  (∀ s : State, s.core.linkRuns = false → exec .airSlotBoundary s = .next s) ∧
  (∀ (s : State) (old f : Nat), s.runs 0x12 = true → s.core.linkRuns = true → s.core.link.frame = some old → s.core.slotNow / 32 = f → old ≠ f →
    s.core.fld R.WL_STATUS.at 2 1 = 1 → s.core.link.maskFrom ≤ s.core.now → s.core.wlBit 3 = false → s.core.wlBit 5 = false → s.core.link.offsets = [] →
    ∃ t, exec .airFrameBoundary s = .next t ∧ t.core.link.frame = some f ∧ t.core.reg R.WL_AFRAME.at = BitVec.ofNat 32 f ∧
      t.core.reg R.WL_DL_MASK_CUR.at = s.core.reg R.WL_DL_MASK_NEXT.at ∧ t.core.reg R.WL_HUB_MASK_CUR.at = s.core.reg R.WL_HUB_MASK_NEXT.at ∧
      t.core.fld R.WL_STATUS.at 2 1 = 0 ∧ bitOf (t.core.reg (R.PG_EVENT.at 0x12)) 6 = true ∧
      s.Frame t ([R.WL_AFRAME.at, R.WL_DL_MASK_CUR.at, R.WL_HUB_MASK_CUR.at, R.WL_MASK_FRAME.at, R.WL_STATUS.at, R.PG_EVENT.at 0x12] ++ (List.range 8).map (fun k => R.WL_NOISE.at k)) (fun c d => { c with link := d.link })) ∧
  (∀ s : State, s.core.link.frame = none → exec .airFrameBoundary s = .next s) ∧
  (∀ (s : State) (r : Run), s.runs 0x12 = true → s.core.linkRuns = true → s.core.link.slot = some s.core.slotNow → s.core.link.run = none →
    s.core.runNow = some r → s.core.link.acks = [] → s.core.link.sends = [] → s.core.link.relays = [] → s.core.wlBit 3 = false →
    ∃ t, exec .dlRunStart s = .next t ∧ t.core.link.run = some r ∧ s.Frame t [] (fun c d => { c with link := d.link })) ∧
  (∀ (s : State) (r : Run) (x : TxReq), s.runs 0x12 = true → s.core.linkRuns = true → s.core.link.slot = some s.core.slotNow →
    s.core.link.run = none → s.core.runNow = some r → r.hub = false → s.core.link.busy = false → s.core.wlBit 3 = false →
    s.core.link.acks = [x] → x.mayUse r = true → x.byTable = false →
    ∃ t, exec .dlRunStart s = .next t ∧ t.core.link.run = some r ∧ t.core.link.busy = true ∧ t.core.link.acks = [] ∧
      t.core.radio.requests.length = s.core.radio.requests.length + 1 ∧
      (∀ y ∈ t.core.radio.requests.getLast?, y.x1 = s.core.wantedChip r ∧ y.slotEnd = r.slotEnd ∧ y.pwr = s.core.fld R.WR_TX_PWR.at 0 6 ∧ y.origin = x.origin) ∧
      s.Frame t [] (fun c d => { c with link := d.link, radio := d.radio })) ∧
  (∀ s : State, s.core.linkRuns = false → exec .dlRunStart s = .next s) ∧
  (∀ (s : State) (d : Int), s.runs 0x12 = true → s.core.link.fofs = some d → s.core.wrState = 2 → s.core.packetLanes = 0 →
    ∃ t, exec .afcWrite s = .next t ∧
      t.core.reg R.WR_FOFS.at = BitVec.ofNat 32 (codeOf 16 (max (-20000) (min 20000 (signedOf 16 (s.core.fld R.WR_FOFS.at 0 16) + d)))) ∧
      t.core.link.fofs = none ∧ s.Frame t [R.WR_FOFS.at] (fun c d => { c with link := d.link })) ∧
  (∀ s : State, s.core.link.fofs = none → exec .afcWrite s = .next s) ∧
  (∀ (s : State) (i : Fin 4096), s.runs 0x12 = true → s.core.linkRuns = true → (s.core.peer i).st = 2 →
    (s.core.peer i).heardFrame + s.core.fld R.WL_CFG.at 8 8 ≤ s.core.link.frame.getD 0 →
    ∃ t, exec (.peerLost i) s = .next t ∧ t.core.peer i = { s.core.peer i with st := 3 } ∧ bitOf (t.core.reg (R.PG_EVENT.at 0x12)) 4 = true ∧
      (∀ p ∈ t.core.made.getLast?, p.typ = 0x33 ∧ p.sub = 3) ∧ t.core.made.length = s.core.made.length + 1 ∧
      s.Frame t [R.WL_PEER_COUNT.at, R.PG_EVENT.at 0x12] (fun c d => { c with peers := d.peers, made := d.made })) ∧
  (∀ (s : State) (i : Fin 4096), (s.core.peer i).st ≠ 2 → exec (.peerLost i) s = .next s) ∧
  (∀ (s : State) (port : Port) (v : Word), s.core.Free port R.WL_CFG.at → bitOf v 0 = true → s.core.trkSrc (s.core.fld R.WL_SLOT_CFG.at 0 2) ≠ 0 →
    fieldOf v 8 8 ≠ 0 →
    ∃ t, exec (.wlCfgWrite port v) s = .next t ∧ t.core.reg R.WL_CFG.at = v &&& 0xFF7F ∧ s.Frame t [R.WL_CFG.at]) ∧
  (∀ (s : State) (port : Port) (v : Word), s.core.Free port R.WL_CFG.at → fieldOf v 8 8 = 0 →
    ∃ t, exec (.wlCfgWrite port v) s = .next t ∧ bitOf (t.core.reg (R.PG_EVENT.at 0x12)) 31 = true ∧ s.Frame t [R.PG_EVENT.at 0x12]) ∧
  (∀ (s : State) (port : Port) (v : Word), s.core.Free port R.WL_CFG.at → bitOf v 0 = false → s.core.linkOn = true → fieldOf v 8 8 ≠ 0 →
    s.core.link.sends = [] → s.core.link.relays = [] → s.core.radio.requests = [] →
    ∃ t, exec (.wlCfgWrite port v) s = .next t ∧ t.core.linkOn = false ∧ t.core.link.run = none ∧ t.core.link.slot = none ∧
      t.core.fld R.WL_STATUS.at 0 1 = 0 ∧
      s.Frame t [R.WL_CFG.at, R.WL_STATUS.at] (fun c d => { c with link := d.link })) ∧
  (∀ (s : State) (port : Port) (hub : Bool) (v : Word), s.core.Free port (if hub then R.WL_HUB_MASK_NEXT.at else R.WL_DL_MASK_NEXT.at) →
    v &&& s.core.reg (if hub then R.WL_DL_MASK_NEXT.at else R.WL_HUB_MASK_NEXT.at) = 0 →
    ∃ t, exec (.wlMaskWrite port hub v) s = .next t ∧ t.core.reg (if hub then R.WL_HUB_MASK_NEXT.at else R.WL_DL_MASK_NEXT.at) = v ∧
      t.core.fld R.WL_STATUS.at 2 1 = 1 ∧ t.core.reg R.WL_MASK_FRAME.at = BitVec.ofNat 32 s.core.maskEffect ∧
      s.Frame t [if hub then R.WL_HUB_MASK_NEXT.at else R.WL_DL_MASK_NEXT.at, R.WL_STATUS.at, R.WL_MASK_FRAME.at] (fun c d => { c with link := d.link })) ∧
  (∀ (s : State) (port : Port) (hub : Bool) (v : Word), s.core.Free port (if hub then R.WL_HUB_MASK_NEXT.at else R.WL_DL_MASK_NEXT.at) →
    v &&& s.core.reg (if hub then R.WL_DL_MASK_NEXT.at else R.WL_HUB_MASK_NEXT.at) ≠ 0 →
    ∃ t, exec (.wlMaskWrite port hub v) s = .next t ∧ bitOf (t.core.reg (R.PG_EVENT.at 0x12)) 31 = true ∧ s.Frame t [R.PG_EVENT.at 0x12]) ∧
  (∀ (s : State) (h : CmdHead) (dst : Word) (portNo flags len lane sf addr : Nat), s.core.ready = true → s.core.linkServes = true → h.atEffect = false →
    portNo < 256 → flags ≤ 3 → len ≤ 245 → lane < 8 → sf ≤ 6 → inHostRegion addr len = true → s.core.findPeer dst = none →
    s.core.sendFits 1 (frameTime (6 + sf) s.core.preLen (9 + len)) (s.core.sendFrom h).1 h.now = true → s.core.link.run = none →
    (∀ w ∈ wordsOf addr len, s.core.wordBad w = false ∧ Table.get (fun _ => false) s.core.shedCe w = false) →
    ∃ t, exec (.wlSend h dst portNo flags len (lane + 16 * sf) addr) s = .next t ∧ t.core.link.sends.length = s.core.link.sends.length + 1 ∧
      (∀ r ∈ t.core.link.sends.getLast?, r.lane = lane ∧ r.sf = 6 + sf ∧ r.dst = dst.toNat ∧ r.tag = s.core.link.tag ∧
        r.payload = linkPayload s.core.hubAddr dst.toNat portNo (s.core.shedRead addr len)) ∧
      t.core.made = (s.core.complete 0x40 h.seq 0 8 s.core.now (leBytes 4 0 ++ leBytes 1 lane ++ leBytes 1 (6 + sf) ++ leBytes 1 0 ++ leBytes 1 s.core.link.tag)).made ∧
      s.Frame t [] (fun c d => { c with link := d.link, made := d.made })) ∧
  (∀ (s : State) (h : CmdHead) (dst : Word) (portNo flags len place addr : Nat), s.core.ready = true → s.core.linkServes = false →
    ∃ t, exec (.wlSend h dst portNo flags len place addr) s = .next t ∧ t.core.made = (s.core.complete 0x40 h.seq 1 8 s.core.now []).made ∧
      s.Frame t [] (fun c d => { c with made := d.made })) ∧
  (∀ (s : State) (h : CmdHead) (addr : Word) (lane sf i : Nat) (ref : Bool), s.core.ready = true → s.core.linkServes = true → lane ≤ 7 → sf ≤ 6 →
    s.core.findPeer addr = none → s.core.freePeer = some i →
    ∃ t, exec (.wlPeerAdd h addr lane sf ref) s = .next t ∧ t.core.peer i = { addr := addr, st := 1, lane := lane, sf := 6 + sf, ref := ref } ∧
      t.core.made.length = s.core.made.length + 2 ∧ t.core.made.getLast? = (s.core.complete 0x41 h.seq 0 8 s.core.now (leBytes 2 i)).made.getLast? ∧
      s.Frame t [R.WL_PEER_COUNT.at, R.PG_EVENT.at 0x12] (fun c d => { c with peers := d.peers, made := d.made })) ∧
  (∀ (s : State) (h : CmdHead) (addr : Word) (i : Nat), s.core.ready = true → s.core.linkServes = true → s.core.findPeer addr = some i →
    ∃ t, exec (.wlPeerDel h addr) s = .next t ∧ t.core.peer i = {} ∧ t.core.made.length = s.core.made.length + 2 ∧
      t.core.made.getLast? = (s.core.complete 0x42 h.seq 0 8 s.core.now []).made.getLast? ∧
      s.Frame t [R.WL_PEER_COUNT.at] (fun c d => { c with peers := d.peers, made := d.made })) ∧
  (∀ (s : State) (h : CmdHead) (addr : Word), s.core.ready = true → s.core.linkServes = true → s.core.findPeer addr = none →
    ∃ t, exec (.wlPeerDel h addr) s = .next t ∧ t.core.made = (s.core.complete 0x42 h.seq 3 8 s.core.now []).made ∧
      s.Frame t [] (fun c d => { c with made := d.made })) ∧
  (∀ (s : State) (h : CmdHead) (e : Fin 16) (valid : Bool) (pre mask next : Word), s.core.ready = true → s.core.linkServes = true →
    (∀ a ∈ [R.WL_ROUTE_PREFIX.at e, R.WL_ROUTE_MASK.at e, R.WL_ROUTE_NEXT.at e], s.core.takenBits .command a = 0) →
    ∃ t, exec (.wlRoute h e valid pre mask next) s = .next t ∧ t.core.reg (R.WL_ROUTE_PREFIX.at e) = pre ∧ t.core.reg (R.WL_ROUTE_MASK.at e) = mask ∧
      t.core.reg (R.WL_ROUTE_NEXT.at e) = next ∧ bitOf (t.core.reg R.WL_ROUTE_VALID.at) e = valid ∧
      t.core.made = (s.core.complete 0x43 h.seq 0 8 s.core.now []).made ∧
      s.Frame t [R.WL_ROUTE_PREFIX.at e, R.WL_ROUTE_MASK.at e, R.WL_ROUTE_NEXT.at e, R.WL_ROUTE_VALID.at] (fun c d => { c with made := d.made })) ∧
  (∀ (s : State) (h : CmdHead) (dst next : Word) (hop len addr : Nat), s.core.ready = true → s.core.linkServes = true → s.core.wlBit 4 = true →
    h.atEffect = false → 1 ≤ hop → hop ≤ 7 → len ≤ 235 → inHostRegion addr len = true → s.core.route dst = some next →
    s.core.sendFits 2 (frameTime (6 + s.core.fld R.WL_FWD_CFG.at 4 3) s.core.preLen (19 + len)) (s.core.sendFrom h).1 h.now = true →
    s.core.link.run = none → (∀ w ∈ wordsOf addr len, s.core.wordBad w = false ∧ Table.get (fun _ => false) s.core.shedCe w = false) →
    ∃ t, exec (.wlForward h dst hop len addr) s = .next t ∧ t.core.link.relays.length = s.core.link.relays.length + 1 ∧
      (∀ r ∈ t.core.link.relays.getLast?, r.typ = 4 ∧ r.dst = next.toNat ∧ r.len = 19 + len) ∧ t.core.made.length = s.core.made.length + 1 ∧
      s.Frame t [] (fun c d => { c with link := d.link, made := d.made })) ∧
  (∀ (s : State) (h : CmdHead) (dst : Word) (hop len addr : Nat), s.core.ready = true → s.core.linkServes = true → s.core.wlBit 4 = true →
    1 ≤ hop → hop ≤ 7 → len ≤ 235 → inHostRegion addr len = true → s.core.route dst = none →
    ∃ t, exec (.wlForward h dst hop len addr) s = .next t ∧ t.core.made = (s.core.complete 0x44 h.seq 6 8 s.core.now []).made ∧
      s.Frame t [] (fun c d => { c with made := d.made }))

/-! ### Clock synthesis -/

/-- R48, R355 to R359, R363 to R370: SYN0 locks once at start-up and Yard time begins; a loss of lock gates and is counted, and lock returns;
a lost reference holds SYN0 where no other may take over, a good one is taken again; SYN2 relocks on a grid instant; the clock words are judged.
Clauses may rest on the readings of log entries 112, 113 and 140. -/
def Obligations.ClocksLockAndReturn : Prop :=
  (∀ (s : State) (xin : Fin 4) (phase : BitVec 16), s.core.stage = 1 → s.core.syn0State = 0 →
    ∃ t, exec (.syn0Lock xin phase) s = .next t ∧ t.core.syn0State = 1 ∧ t.core.yardRuns = true ∧ t.core.stage = 2 ∧
      t.core.fld (R.PG_STATUS.at 2) 0 1 = 1 ∧ t.core.fld R.SYN_CFG.at 4 2 = xin ∧ t.core.fld R.SYN0_STATUS.at 4 1 = 1 ∧
      t.core.fld R.SYN0_STATUS.at 16 16 = phase.toNat ∧ t.core.reg R.SYN0_LAST_LOCK.at = BitVec.ofNat 32 s.core.now ∧
      bitOf (t.core.reg (R.PG_EVENT.at 2)) 0 = true ∧
      s.Frame t [R.SYN0_STATUS.at, R.PG_STATUS.at 2, R.SYN_CFG.at, R.BOOT_STATUS.at, R.SYN0_LAST_LOCK.at, R.PG_EVENT.at 2] (fun c d => { c with yardRuns := d.yardRuns })) ∧
  (∀ (s : State) (xin : Fin 4) (phase : BitVec 16), s.core.stage ≠ 1 ∨ s.core.syn0State ≠ 0 → exec (.syn0Lock xin phase) s = .next s) ∧
  (∀ (s : State) (phase : BitVec 16), s.core.syn0State = 1 → s.core.calPend = [] →
    ∃ t, exec (.syn0Unlock phase) s = .next t ∧ t.core.syn0State = 3 ∧ t.core.fld (R.PG_STATUS.at 2) 0 1 = 0 ∧
      (t.core.reg R.SYN0_UNLOCK_CNT.at).toNat = satAdd 32 (s.core.reg R.SYN0_UNLOCK_CNT.at).toNat 1 ∧
      t.core.reg R.SYN0_LAST_UNLOCK.at = BitVec.ofNat 32 s.core.now ∧ t.core.syn.follow = some (s.core.now + 1) ∧
      (∀ k : Fin 4, (t.core.track k).clean = false) ∧
      s.Frame t [R.SYN0_STATUS.at, R.PG_STATUS.at 2, R.SYN0_UNLOCK_CNT.at, R.SYN0_LAST_UNLOCK.at, R.PG_EVENT.at 2, R.CAL_STATUS.at, R.CAL_PEND_BLOCKS.at] (fun c d => { c with tracks := d.tracks, syn := d.syn, cal := d.cal, counts := d.counts })) ∧
  (∀ (s : State) (phase : BitVec 16), s.core.syn0State ≠ 1 → exec (.syn0Unlock phase) s = .next s) ∧
  (∀ (s : State) (phase : BitVec 16), s.core.syn0State = 3 → s.core.openStalls = [] → (∀ m : Fin 256, s.core.memberValid m = false) →
    s.core.masterPorts = [] → s.core.syn2Locked = false →
    ∃ t, exec (.syn0Resume phase) s = .next t ∧ t.core.syn0State = 1 ∧ t.core.fld R.SYN0_STATUS.at 16 16 = phase.toNat ∧
      t.core.reg R.SYN0_LAST_LOCK.at = BitVec.ofNat 32 s.core.now ∧ t.core.syn.follow = none ∧
      (∀ i : Fin 3, s.core.inputOn i = true → t.core.fld (R.PG_STATUS.at (3 + i)) 0 1 = 1) ∧
      t.core.radio.calNext = decide (s.core.wrState = 1 ∨ s.core.wrState = 2) ∧
      s.Frame t [R.SYN0_STATUS.at, R.PG_STATUS.at 2, R.PG_STATUS.at 3, R.PG_STATUS.at 4, R.PG_STATUS.at 5, R.SYN0_LAST_LOCK.at, R.PG_EVENT.at 2] (fun c d => { c with tracks := d.tracks, syn := d.syn, radio := d.radio, bins := d.bins })) ∧
  (∀ (s : State) (phase : BitVec 16), s.core.syn0State ≠ 3 → exec (.syn0Resume phase) s = .next s) ∧
  (∀ s : State, s.core.syn0State = 1 → s.core.onRefin = false → s.core.fld R.SYN_CFG.at 0 1 = 0 →
    ∃ t, exec (.refLoss true) s = .next t ∧ t.core.syn0State = 2 ∧ t.core.fld R.SYN0_STATUS.at 4 1 = 0 ∧
      bitOf (t.core.reg (R.PG_EVENT.at 2)) 12 = true ∧ bitOf (t.core.reg (R.PG_EVENT.at 2)) 4 = true ∧ t.core.syn.holdAt = some s.core.now ∧
      s.Frame t [R.SYN0_STATUS.at, R.PG_STATUS.at 2, R.PG_EVENT.at 2] (fun c d => { c with tracks := d.tracks, syn := d.syn })) ∧
  (∀ s : State, s.core.syn0State = 1 → s.core.onRefin = true → s.core.fld R.SYN_CFG.at 0 2 = 3 → s.core.refOk true = true →
    ∃ t, exec (.refLoss false) s = .next t ∧ t.core.syn0State = 1 ∧ t.core.onRefin = false ∧ t.core.fld R.SYN0_STATUS.at 5 1 = 0 ∧
      (t.core.reg R.REF_SWITCH_CNT.at).toNat = satAdd 32 (s.core.reg R.REF_SWITCH_CNT.at).toNat 1 ∧ bitOf (t.core.reg (R.PG_EVENT.at 2)) 3 = true ∧
      s.Frame t [R.SYN0_STATUS.at, R.REF_SWITCH_CNT.at, R.PG_EVENT.at 2]) ∧
  (∀ (s : State) (x : Nat), s.core.syn0State = 2 → s.core.onRefin = false → s.core.fld R.SYN_CFG.at 0 1 = 0 → s.core.syn.holdAt = some x →
    ∃ t, exec (.refGood true) s = .next t ∧ t.core.syn0State = 1 ∧ t.core.refOk true = true ∧ t.core.syn.holdAt = none ∧
      s.Frame t [R.SYN0_STATUS.at, R.PG_STATUS.at 2] (fun c d => { c with tracks := d.tracks, syn := d.syn, bins := d.bins })) ∧
  (∀ s : State, s.core.syn0State = 1 → s.core.onRefin = false → s.core.fld R.SYN_CFG.at 0 1 = 0 → s.core.refOk true = true →
    ∃ t, exec (.refGood false) s = .next t ∧ t.core.syn0State = 1 ∧ t.core.onRefin = false ∧ t.core.refOk false = true ∧
      s.Frame t [R.SYN0_STATUS.at]) ∧
  (∀ (s : State) (port : Port) (v : Word), s.core.Free port R.SYN0_DISC.at → fieldOf v 4 4 ≤ 12 → 1 ≤ fieldOf v 16 16 → fieldOf v 16 16 ≤ 10000 →
    bitOf v 0 = true → s.core.trkSrc (fieldOf v 1 2) = 2 → fieldOf (s.core.reg R.SYN0_DISC.at) 0 1 = 0 →
    ∃ t, exec (.syn0DiscWrite port v) s = .next t ∧ t.core.reg R.SYN0_DISC.at = v &&& 0xFFFF00F7 ∧ s.Frame t [R.SYN0_DISC.at]) ∧
  (∀ (s : State) (port : Port) (v : Word), s.core.Free port R.SYN0_DISC.at → 12 < fieldOf v 4 4 ∨ fieldOf v 16 16 = 0 ∨ 10000 < fieldOf v 16 16 ∨
    (bitOf v 0 = true ∧ fieldOf (s.core.reg R.SYN0_DISC.at) 0 1 = 0 ∧ s.core.trkSrc (fieldOf v 1 2) = 1) →
    ∃ t, exec (.syn0DiscWrite port v) s = .next t ∧ bitOf (t.core.reg (R.PG_EVENT.at 2)) 31 = true ∧ s.Frame t [R.PG_EVENT.at 2]) ∧
  (∀ s : State, s.core.syn2Locked = true → s.core.masterPorts = [] →
    ∃ t, exec (.syn2Relock none) s = .next t ∧ t.core.syn2Locked = false ∧ t.core.fld R.SYN2_STATUS.at 1 1 = 1 ∧
      (t.core.reg R.SYN2_UNLOCK_CNT.at).toNat = satAdd 32 (s.core.reg R.SYN2_UNLOCK_CNT.at).toNat 1 ∧ bitOf (t.core.reg (R.PG_EVENT.at 2)) 11 = true ∧
      s.Frame t [R.SYN2_STATUS.at, R.SYN2_UNLOCK_CNT.at, R.PG_EVENT.at 2]) ∧
  (∀ s : State, s.core.syn2Locked = false → exec (.syn2Relock none) s = .next s) ∧
  (∀ (s : State) (port : Port) (v : Word), s.core.Free port R.SYN2_CFG.at → fieldOf v 1 2 ≠ 3 → bitOf v 0 = false →
    ∃ t, exec (.syn2Relock (some (port, v))) s = .next t ∧ t.core.reg R.SYN2_CFG.at = v &&& 6 ∧ s.Frame t [R.SYN2_CFG.at]) ∧
  (∀ (s : State) (phase : BitVec 16), s.core.syn2Locked = false → s.core.samplesFlow = true → gridAt s.core.time < s.core.time + 48 →
    ∃ t, exec (.syn2Resume phase) s = .next t ∧ t.core.fld R.SYN2_STATUS.at 0 2 = 1 ∧ t.core.fld R.SYN2_STATUS.at 16 16 = phase.toNat ∧
      t.core.syn.mclk = s.core.reg R.MCLK_CFG.at ∧ t.core.syn.mclkAt = none ∧ bitOf (t.core.reg (R.PG_EVENT.at 2)) 10 = true ∧
      s.Frame t [R.SYN2_STATUS.at, R.PG_EVENT.at 2] (fun c d => { c with syn := d.syn })) ∧
  (∀ (s : State) (phase : BitVec 16), s.core.syn2Locked = true → exec (.syn2Resume phase) s = .next s) ∧
  (∀ (s : State) (port : Port) (v : Word), s.core.Free port R.MCLK_CFG.at → fieldOf v 0 3 ≤ 4 → fieldOf v 4 3 ≤ 4 →
    ∃ t, exec (.mclkCfgWrite port v) s = .next t ∧ t.core.reg R.MCLK_CFG.at = v &&& 0xFF ∧
      t.core.syn.mclkAt = some (gridAt (48 * (s.core.now + 2))) ∧ t.core.syn.mclk = s.core.syn.mclk ∧
      s.Frame t [R.MCLK_CFG.at] (fun c d => { c with syn := d.syn })) ∧
  (∀ (s : State) (port : Port) (v : Word), s.core.Free port R.MCLK_CFG.at → 4 < fieldOf v 0 3 ∨ 4 < fieldOf v 4 3 →
    ∃ t, exec (.mclkCfgWrite port v) s = .next t ∧ bitOf (t.core.reg (R.PG_EVENT.at 2)) 31 = true ∧ s.Frame t [R.PG_EVENT.at 2]) ∧
  (∀ (s : State) (port : Port) (v : Word), s.core.Free port R.CLKOUT_CFG.at → fieldOf v 0 4 ≤ 6 →
    ∃ t, exec (.clkoutCfgWrite port v) s = .next t ∧ t.core.reg R.CLKOUT_CFG.at = v &&& 0xDF ∧ s.Frame t [R.CLKOUT_CFG.at]) ∧
  (∀ (s : State) (port : Port) (v : Word), s.core.Free port R.CLKOUT_CFG.at → 6 < fieldOf v 0 4 →
    ∃ t, exec (.clkoutCfgWrite port v) s = .next t ∧ bitOf (t.core.reg (R.PG_EVENT.at 2)) 31 = true ∧ s.Frame t [R.PG_EVENT.at 2])

/-! ### The two-wire bus -/

/-- R373 to R385, R400: the target answers its addresses and no other; each command code with its bytes right sets the pointer, posts writes or
returns words, one whose PEC or framing is wrong does nothing but be counted; attention messages and peripheral transfers go when the bus is free
and are tried again.
Clauses may rest on the readings of log entries 114, 115 and 116. -/
def Obligations.TheTwoWireBusServes : Prop :=
  (∀ (s : State) (h : TwbHead) (b : List Byte), s.runs 0x10 = true →
    answerIndex (s.core.twbSetting h.start).1 (s.core.twbSetting h.start).2 h.addr = none →
    ∃ t, exec (.writeAt h b) s = .next t ∧ t.core.out = s.core.out ++ [.twbAck false] ∧ s.Frame t [] (fun c d => { c with out := d.out })) ∧
  (∀ (s : State) (h : TwbHead) (a : Fin 0x40000) (n i : Nat), s.runs 0x10 = true → s.core.portsServe = true → 1 ≤ n → n ≤ 8 →
    answerIndex (s.core.twbSetting h.start).1 (s.core.twbSetting h.start).2 h.addr = some i →
    fieldOf (s.core.twbSetting h.start).1 2 2 = 0 → bitOf (s.core.twbSetting h.start).1 (8 + i) = false →
    ∃ t, exec (.ptrSet h (leBytes 1 1 ++ leBytes 3 (4 * a.val) ++ leBytes 1 n)) s = .next t ∧ t.core.twbPtr = 4 * a.val ∧
      t.core.fld R.TWB_PTR.at 24 4 = n ∧ t.core.out = s.core.out ++ [.twbAck true] ∧
      (t.core.reg R.TWB_TGT_CNT.at).toNat = satAdd 32 (s.core.reg R.TWB_TGT_CNT.at).toNat 1 ∧
      s.Frame t [R.TWB_PTR.at, R.TWB_STATUS.at, R.TWB_TGT_CNT.at] (fun c d => { c with out := d.out })) ∧
  (∀ (s : State) (h : TwbHead) (a : Fin 0x40000) (v : Word) (i : Nat), s.runs 0x10 = true → s.core.portsServe = true →
    answerIndex (s.core.twbSetting h.start).1 (s.core.twbSetting h.start).2 h.addr = some i →
    fieldOf (s.core.twbSetting h.start).1 2 2 = 0 → bitOf (s.core.twbSetting h.start).1 (8 + i) = false →
    ∃ t, exec (.writeAt h (leBytes 1 0x10 ++ leBytes 1 7 ++ leBytes 3 (4 * a.val) ++ leBytes 4 v.toNat)) s = .next t ∧
      t.core.posted = s.core.posted ++ [⟨.twb, 4 * a.val, v⟩] ∧ t.core.out = s.core.out ++ [.twbAck true] ∧
      s.Frame t [R.TWB_STATUS.at, R.TWB_TGT_CNT.at] (fun c d => { c with out := d.out, posted := d.posted })) ∧
  (∀ (s : State) (h : TwbHead) (a : Fin 0x40000) (v : Word) (pec : Byte) (i : Nat), s.runs 0x10 = true → s.core.portsServe = true →
    answerIndex (s.core.twbSetting h.start).1 (s.core.twbSetting h.start).2 h.addr = some i →
    fieldOf (s.core.twbSetting h.start).1 2 2 ≠ 0 → bitOf (s.core.twbSetting h.start).1 (8 + i) = false →
    crc8 ([BitVec.ofNat 8 (2 * h.addr.val)] ++ (leBytes 1 0x10 ++ leBytes 1 7 ++ leBytes 3 (4 * a.val) ++ leBytes 4 v.toNat)) ≠ pec.toNat →
    ∃ t, exec (.writeAt h ((leBytes 1 0x10 ++ leBytes 1 7 ++ leBytes 3 (4 * a.val) ++ leBytes 4 v.toNat) ++ [pec])) s = .next t ∧
      t.core.posted = s.core.posted ∧ t.core.out = s.core.out ++ [.twbAck false] ∧
      t.core.fld R.TWB_ERR_CNT.at 0 8 = min 255 (s.core.fld R.TWB_ERR_CNT.at 0 8 + 1) ∧ bitOf (t.core.reg R.HOST_ERR.at) 7 = true ∧
      s.Frame t [R.TWB_STATUS.at, R.TWB_ERR_CNT.at, R.PG_EVENT.at 0x10, R.HOST_ERR.at, R.HOST_ERR_ADDR.at, R.PG_EVENT.at 0] (fun c d => { c with out := d.out })) ∧
  (∀ (s : State) (h : TwbHead) (b : List Byte) (i : Nat), s.runs 0x10 = true →
    answerIndex (s.core.twbSetting h.start).1 (s.core.twbSetting h.start).2 h.addr = some i →
    s.core.portsServe = false ∨ (b.getD 0 0).toNat ≠ 0x10 ∨ bitOf (s.core.twbSetting h.start).1 (8 + i) = true →
    ∃ t, exec (.writeAt h b) s = .next t ∧ t.core.out = s.core.out ++ [.twbAck false] ∧ bitOf (t.core.reg (R.PG_EVENT.at 0x10)) 0 = true ∧
      t.core.fld R.TWB_ERR_CNT.at 24 8 = min 255 (s.core.fld R.TWB_ERR_CNT.at 24 8 + 1) ∧
      s.Frame t [R.TWB_STATUS.at, R.TWB_ERR_CNT.at, R.PG_EVENT.at 0x10] (fun c d => { c with out := d.out })) ∧
  (∀ (s : State) (h : TwbHead) (v : Word) (i : Nat), s.runs 0x10 = true → s.core.portsServe = true →
    answerIndex (s.core.twbSetting h.start).1 (s.core.twbSetting h.start).2 h.addr = some i →
    fieldOf (s.core.twbSetting h.start).1 2 2 = 0 → bitOf (s.core.twbSetting h.start).1 (8 + i) = false →
    ∃ t, exec (.writeSeq h (leBytes 1 0x12 ++ leBytes 1 4 ++ leBytes 4 v.toNat)) s = .next t ∧
      t.core.posted = s.core.posted ++ [⟨.twb, s.core.twbPtr, v⟩] ∧ t.core.twbPtr = (s.core.twbPtr + 4) % 2 ^ 20 ∧
      t.core.out = s.core.out ++ [.twbAck true] ∧
      s.Frame t [R.TWB_PTR.at, R.TWB_STATUS.at, R.TWB_TGT_CNT.at] (fun c d => { c with out := d.out, posted := d.posted })) ∧
  (∀ (s : State) (h : TwbHead) (a : Fin 0x40000) (ack : Bool) (i : Nat), s.runs 0x10 = true → s.core.portsServe = true →
    answerIndex (s.core.twbSetting h.start).1 (s.core.twbSetting h.start).2 h.addr = some i → fieldOf (s.core.twbSetting h.start).1 2 2 = 0 →
    ∃ t, exec (.readAt h (leBytes 1 0x11 ++ leBytes 1 3 ++ leBytes 3 (4 * a.val)) ack) s = .next t ∧
      t.core.out = s.core.out ++ [.twbAck true, .twbData (leBytes 1 4 ++ leBytes 4 (s.view.portRead (4 * a.val)).toNat)] ∧
      s.Frame t [R.TWB_STATUS.at, R.TWB_TGT_CNT.at] (fun c d => { c with out := d.out })) ∧
  (∀ (s : State) (h : TwbHead) (ack : Bool) (i : Nat), s.runs 0x10 = true → s.core.portsServe = true →
    answerIndex (s.core.twbSetting h.start).1 (s.core.twbSetting h.start).2 h.addr = some i → fieldOf (s.core.twbSetting h.start).1 2 2 = 0 →
    s.core.fld R.TWB_PTR.at 24 4 = 1 →
    ∃ t, exec (.readSeq h (leBytes 1 0x13) ack) s = .next t ∧
      t.core.out = s.core.out ++ [.twbAck true, .twbData (leBytes 1 4 ++ leBytes 4 (s.view.portRead (s.core.twbPtr % 2 ^ 20)).toNat)] ∧
      t.core.twbPtr = (s.core.twbPtr + 4) % 2 ^ 20 ∧
      s.Frame t [R.TWB_PTR.at, R.TWB_STATUS.at, R.TWB_TGT_CNT.at] (fun c d => { c with out := d.out })) ∧
  (∀ (s : State) (h : TwbHead) (ack : Bool) (i : Nat), s.runs 0x10 = true →
    answerIndex (s.core.twbSetting h.start).1 (s.core.twbSetting h.start).2 h.addr = some i → fieldOf (s.core.twbSetting h.start).1 2 2 = 0 →
    ∃ t, exec (.status h (leBytes 1 0x20) ack) s = .next t ∧ t.core.out = s.core.out ++ [.twbAck true, .twbData s.view.twbStatusBytes] ∧
      s.Frame t [R.TWB_STATUS.at, R.TWB_TGT_CNT.at] (fun c d => { c with out := d.out })) ∧
  (∀ s : State, s.runs 0x10 = true →
    ∃ t, exec .twbTimeout s = .next t ∧ bitOf (t.core.reg (R.PG_EVENT.at 0x10)) 2 = true ∧
      t.core.fld R.TWB_ERR_CNT.at 8 8 = min 255 (s.core.fld R.TWB_ERR_CNT.at 8 8 + 1) ∧
      s.Frame t [R.TWB_STATUS.at, R.TWB_ERR_CNT.at, R.PG_EVENT.at 0x10]) ∧
  (∀ s : State, s.runs 0x10 = true →
    ∃ t, exec (.busFree .high) s = .next t ∧ t.core.busFree = true ∧ s.Frame t [R.TWB_STATUS.at]) ∧
  (∀ s : State, s.runs 0x10 = true →
    ∃ t, exec (.busFree .stuck) s = .next t ∧ t.core.busFree = true ∧ bitOf (t.core.reg (R.PG_EVENT.at 0x10)) 7 = true ∧
      bitOf (t.core.reg (R.PG_EVENT.at 0x10)) 8 = true ∧
      (t.core.reg R.TWB_CLEAR_CNT.at).toNat = satAdd 32 (s.core.reg R.TWB_CLEAR_CNT.at).toNat 1 ∧
      s.Frame t [R.TWB_STATUS.at, R.TWB_CLEAR_CNT.at, R.PG_EVENT.at 0x10]) ∧
  (∀ (s : State) (port : Port) (v : Word), s.core.Free port R.TWB_ADDR.at → s.core.locked 0x10 = false →
    (∀ a : Fin 128, refusedAddress a = true → answerIndex (s.core.reg R.TWB_CFG.at) v a = none) →
    ∃ t, exec (.twbAddrWrite port v) s = .next t ∧ t.core.reg R.TWB_ADDR.at = v ∧
      s.Frame t [R.TWB_ADDR.at] (fun c d => { c with twb := d.twb })) ∧
  (∀ (s : State) (port : Port) (v : Word) (a : Fin 128), s.core.Free port R.TWB_ADDR.at → s.core.locked 0x10 = false → refusedAddress a = true →
    answerIndex (s.core.reg R.TWB_CFG.at) v a ≠ none →
    ∃ t, exec (.twbAddrWrite port v) s = .next t ∧ bitOf (t.core.reg (R.PG_EVENT.at 0x10)) 31 = true ∧ s.Frame t [R.PG_EVENT.at 0x10]) ∧
  (∀ s : State, s.runs 0x10 = true → s.core.attnPending = true → s.core.busFree = true → s.core.twb.retryAt = none →
    bitOf (s.core.reg R.TWB_ATTN.at) 15 = true → 0 < s.core.fld R.TWB_ARB.at 0 4 →
    ∃ t, exec (.attnMessage .high 0 true) s = .next t ∧ t.core.attnPending = false ∧
      t.core.fld R.TWB_ATTN_STATUS.at 8 8 = (s.core.fld R.TWB_ATTN_STATUS.at 8 8 + 1) % 256 ∧ t.core.out.length = s.core.out.length + 1 ∧
      bitOf (t.core.reg (R.PG_EVENT.at 0x10)) 5 = true ∧
      s.Frame t [R.TWB_ATTN_STATUS.at, R.PG_EVENT.at 0x10] (fun c d => { c with twb := d.twb, out := d.out })) ∧
  (∀ s : State, s.runs 0x10 = true → s.core.attnPending = true → s.core.busFree = true → s.core.twb.retryAt = none →
    bitOf (s.core.reg R.TWB_ATTN.at) 15 = true → s.core.twb.tries + 1 < s.core.fld R.TWB_ATTN.at 24 4 →
    ∃ t, exec (.attnMessage .high 0 false) s = .next t ∧ t.core.attnPending = true ∧ t.core.twb.tries = s.core.twb.tries + 1 ∧
      t.core.twb.retryAt = some (s.core.now + 1024 * s.core.fld R.TWB_ATTN.at 16 8) ∧ s.Frame t [] (fun c d => { c with twb := d.twb })) ∧
  (∀ (s : State) (l : TwbLine) (k : Nat) (ack : Bool), s.core.attnPending = false → exec (.attnMessage l k ack) s = .next s) ∧
  (∀ (s : State) (due : Nat), s.runs 0x10 = true → s.core.attnPending = true → s.core.busFree = true → s.core.twb.retryAt = some due →
    due ≤ s.core.now → bitOf (s.core.reg R.TWB_ATTN.at) 15 = true → 0 < s.core.fld R.TWB_ARB.at 0 4 →
    ∃ t, exec (.attnRetry .high 0 true) s = .next t ∧ t.core.attnPending = false ∧ t.core.twb.retryAt = none ∧ t.core.out.length = s.core.out.length + 1 ∧
      s.Frame t [R.TWB_ATTN_STATUS.at, R.PG_EVENT.at 0x10] (fun c d => { c with twb := d.twb, out := d.out })) ∧
  (∀ (s : State) (due : Nat), s.runs 0x10 = true → s.core.attnPending = true → s.core.busFree = true → s.core.twb.retryAt = some due →
    due ≤ s.core.now → bitOf (s.core.reg R.TWB_ATTN.at) 15 = true → s.core.fld R.TWB_ATTN.at 24 4 ≤ s.core.twb.tries + 1 →
    ∃ t, exec (.attnRetry .high 0 false) s = .next t ∧ t.core.attnPending = false ∧ bitOf (t.core.reg (R.PG_EVENT.at 0x10)) 6 = true ∧
      s.Frame t [R.TWB_ATTN_STATUS.at, R.PG_EVENT.at 0x10] (fun c d => { c with twb := d.twb })) ∧
  (∀ (s : State) (l : TwbLine) (k : Nat) (ack : Bool), s.core.twb.retryAt = none → exec (.attnRetry l k ack) s = .next s) ∧
  (∀ s : State, s.runs 0x10 = true → s.core.twb.mst = none → 1 ≤ s.core.fld R.TWB_MST_CTL.at 8 5 → s.core.fld R.TWB_MST_CTL.at 8 5 ≤ 16 →
    s.core.fld R.TWB_MST_CTL.at 16 5 ≤ 16 → refusedAddress (s.core.fld R.TWB_MST_CTL.at 0 7) = false →
    ∃ t, exec .twbMstGo s = .next t ∧ t.core.twb.mst = some (s.core.fld R.TWB_MST_CTL.at 0 7, bitOf (s.core.reg R.TWB_MST_CTL.at) 7,
        ((List.range 4).flatMap (fun k => leBytes 4 (s.core.reg (R.TWB_MST_WDATA.at k)).toNat)).take (s.core.fld R.TWB_MST_CTL.at 8 5), s.core.fld R.TWB_MST_CTL.at 16 5) ∧
      t.core.fld R.TWB_MST_RESULT.at 24 1 = 1 ∧ t.core.fld R.TWB_MST_RESULT.at 16 8 = (s.core.fld R.TWB_MST_RESULT.at 16 8 + 1) % 256 ∧
      s.Frame t [R.TWB_MST_RESULT.at] (fun c d => { c with twb := d.twb })) ∧
  (∀ s : State, s.runs 0x10 = true → s.core.twb.mst = none → refusedAddress (s.core.fld R.TWB_MST_CTL.at 0 7) = true →
    ∃ t, exec .twbMstGo s = .next t ∧ t.core.fld R.TWB_MST_RESULT.at 0 4 = 8 ∧ bitOf (t.core.reg (R.PG_EVENT.at 0x10)) 4 = true ∧
      s.Frame t [R.TWB_MST_RESULT.at, R.PG_EVENT.at 0x10]) ∧
  (∀ (s : State) (addr rlen : Nat) (bytes data : List Byte) (pec : Byte), s.runs 0x10 = true → s.core.busFree = true →
    s.core.attnPending = false → s.core.twb.mst = some (addr, false, bytes, rlen) → 0 < s.core.fld R.TWB_ARB.at 0 4 → data.length = rlen → rlen ≤ 16 →
    ∃ t, exec (.mstTransfer .high 0 (.done data pec)) s = .next t ∧ t.core.twb.mst = none ∧ t.core.fld R.TWB_MST_RESULT.at 0 4 = 0 ∧
      t.core.fld R.TWB_MST_RESULT.at 24 1 = 0 ∧ t.core.out = s.core.out ++ [.twbMaster addr bytes rlen] ∧
      (∀ k : Fin 4, 4 * k.val < rlen → (t.core.reg (R.TWB_MST_RDATA.at k)).toNat = bytesAt data (4 * k) 4) ∧
      s.Frame t ([R.TWB_MST_RESULT.at, R.PG_EVENT.at 0x10] ++ (List.range 4).map (fun k => R.TWB_MST_RDATA.at k)) (fun c d => { c with twb := d.twb, out := d.out })) ∧
  (∀ (s : State) (addr rlen : Nat) (p : Bool) (bytes : List Byte), s.runs 0x10 = true → s.core.busFree = true →
    s.core.attnPending = false → s.core.twb.mst = some (addr, p, bytes, rlen) → 0 < s.core.fld R.TWB_ARB.at 0 4 →
    ∃ t, exec (.mstTransfer .high 0 .nackAddr) s = .next t ∧ t.core.twb.mst = none ∧ t.core.fld R.TWB_MST_RESULT.at 0 4 = 1 ∧
      s.Frame t [R.TWB_MST_RESULT.at, R.PG_EVENT.at 0x10] (fun c d => { c with twb := d.twb, out := d.out })) ∧
  (∀ (s : State) (l : TwbLine) (k : Nat) (r : TwbResult), s.core.twb.mst = none → exec (.mstTransfer l k r) s = .next s)

/-! ### Reset sources, boot and calibration -/

/-- R392 to R402: each reset source leaves every register at its reset value but RESET_CAUSE and BOOT_STATUS, the NOR as it
was and, unless it is cold, the Shed's host region; a commit comes first where the table of R394 says so (its length is log entry 25's); the
stages follow one another to READY, and the boot profile is applied once.
Clauses may rest on the readings of log entries 3, 25, 123, 124, 129 and 130. -/
def Obligations.DeviceResetsAndBoots : Prop :=
  (∀ (s : State) (b : Bool), s.core.stage = 0 → s.core.start.rails = false →
    ∃ t, exec (.powerOnReset b) s = .next t ∧ t.core.start.rails = true ∧ t.core.stage = (if s.core.start.pinLow || s.core.start.hot then 0 else 1) ∧
      bitOf (t.core.reg R.RESET_CAUSE.at) 0 = true ∧ bitOf (t.core.reg R.RESET_CAUSE.at) 8 = b ∧ t.core.fld R.PT_STATUS.at 8 8 = 0xFF ∧
      s.Frame t [R.RESET_CAUSE.at, R.PT_STATUS.at, R.BOOT_STATUS.at] (fun c d => { c with start := d.start })) ∧
  (∀ (s : State) (b : Bool), s.core.stage ≠ 0 ∨ s.core.start.rails = true → exec (.powerOnReset b) s = .next s) ∧
  (∀ (s : State) (rails : BitVec 8), rails ≠ 0 → s.core.start.rails = true →
    ∃ t, exec (.brownout rails) s = .next t ∧ t.core.stage = 0 ∧ t.core.start.rails = false ∧ t.core.fld R.RESET_CAUSE.at 0 9 = 3 ∧
      t.core.fld R.PT_STATUS.at 8 8 = 255 - rails.toNat ∧ ({} : Core).KeepsRegs t.core [R.RESET_CAUSE.at, R.BOOT_STATUS.at, R.PT_STATUS.at] ∧
      t.core.now = 0 ∧ t.core.yardRuns = false ∧ t.core.shed = [] ∧ t.core.nv = s.core.nv ∧ t.core.logJobs = [] ∧ t.core.stalls = [] ∧
      t.core.tt = [] ∧ t.core.posted = [] ∧ t.pending = s.pending) ∧
  (∀ (s : State) (rails : BitVec 8), rails = 0 ∨ s.core.start.rails = false → exec (.brownout rails) s = .next s) ∧
  (∀ s : State, s.core.start.pinLow = false → s.core.stage ≠ 0 → s.core.commitRuns = false →
    ∃ t, exec (.pinReset true) s = .next t ∧ t.core.stage = 0 ∧ t.core.start.pinLow = true ∧
      t.core.fld R.RESET_CAUSE.at 0 9 = s.core.fld R.RESET_CAUSE.at 0 9 ||| (4 + 256 * b2n s.core.start.seqErr) ∧
      ({} : Core).KeepsRegs t.core [R.RESET_CAUSE.at, R.BOOT_STATUS.at] ∧ t.core.now = 0 ∧ t.core.yardRuns = false ∧
      t.core.shed = s.core.shed.filter (fun e => inKeptRegion e.1) ∧ t.core.nv = s.core.nv ∧ t.core.stalls = [] ∧ t.pending = s.pending) ∧
  (∀ s : State, s.core.start.pinLow = false → s.core.stage ≠ 0 → s.core.commitRuns = true →
    ∃ t, exec (.pinReset true) s = .next t ∧ t.core.logJobs.all (fun j => j.reset.isSome) = true ∧ t.core.stage = s.core.stage ∧
      s.Frame t [] (fun c d => { c with start := d.start, logJobs := d.logJobs })) ∧
  (∀ s : State, s.core.stage = 0 → s.core.start.hot = false → s.core.start.rails = true →
    ∃ t, exec (.pinReset false) s = .next t ∧ t.core.stage = 1 ∧ t.core.start.pinLow = false ∧
      s.Frame t [R.BOOT_STATUS.at] (fun c d => { c with start := d.start })) ∧
  (∀ s : State, s.core.syn0State = 3 →
    ∃ t, exec .clockFault s = .next t ∧ t.core.stage = (if s.core.start.held then 0 else 1) ∧
      t.core.fld R.RESET_CAUSE.at 0 9 = s.core.fld R.RESET_CAUSE.at 0 9 ||| (8 + 256 * b2n s.core.start.seqErr) ∧
      ({} : Core).KeepsRegs t.core [R.RESET_CAUSE.at, R.BOOT_STATUS.at] ∧ t.core.shed = s.core.shed.filter (fun e => inKeptRegion e.1) ∧
      t.core.nv = s.core.nv ∧ t.pending = s.pending) ∧
  (∀ s : State, s.core.syn0State ≠ 3 → exec .clockFault s = .next s) ∧
  (∀ s : State, 3 ≤ s.core.stage → s.core.stage ≠ 15 → s.core.yardRuns = true → s.core.commitRuns = false → s.core.canRecord = true →
    ∃ t, exec .watchdog s = .next t ∧ t.core.logJobs.map (fun j => (j.kind, j.due, j.reset)) = [(2, s.core.now + 1536, some 4)] ∧
      bitOf (t.core.reg R.LB_STATUS.at) 3 = true ∧ s.Frame t [R.LB_STATUS.at] (fun c d => { c with logJobs := d.logJobs })) ∧
  (∀ s : State, 3 ≤ s.core.stage → s.core.stage ≠ 15 → s.core.commitRuns = false → s.core.canRecord = false → s.core.start.held = false →
    ∃ t, exec .watchdog s = .next t ∧ t.core.stage = 1 ∧ bitOf (t.core.reg R.RESET_CAUSE.at) 4 = true ∧
      ({} : Core).KeepsRegs t.core [R.RESET_CAUSE.at, R.BOOT_STATUS.at] ∧ t.core.nv = s.core.nv ∧ t.pending = s.pending) ∧
  (∀ s : State, s.core.stage < 3 ∨ s.core.stage = 15 → exec .watchdog s = .next s) ∧
  (∀ s : State, s.core.start.hot = false → s.core.stage ≠ 0 → s.core.commitRuns = false → s.core.yardRuns = false →
    ∃ t, exec (.thermal true) s = .next t ∧ t.core.stage = 0 ∧ t.core.start.hot = true ∧ bitOf (t.core.reg R.RESET_CAUSE.at) 5 = true ∧
      ({} : Core).KeepsRegs t.core [R.RESET_CAUSE.at, R.BOOT_STATUS.at] ∧ t.core.nv = s.core.nv ∧ t.pending = s.pending) ∧
  (∀ s : State, s.core.stage = 0 → s.core.start.pinLow = false → s.core.start.rails = true →
    ∃ t, exec (.thermal false) s = .next t ∧ t.core.stage = 1 ∧ t.core.start.hot = false ∧
      s.Frame t [R.BOOT_STATUS.at] (fun c d => { c with start := d.start })) ∧
  (∀ (s : State) (port : Port) (v : Word), s.core.Free port R.DEV_RESET.at → fieldOf v 0 8 = 0xC3 →
    ∃ t, exec (.devReset port v) s = .next t ∧ t.core.start.key = some s.core.now ∧ s.Frame t [] (fun c d => { c with start := d.start })) ∧
  (∀ (s : State) (port : Port) (v : Word) (k : Nat), s.core.Free port R.DEV_RESET.at → fieldOf v 0 8 = 0x3C → s.core.start.key = some k →
    s.core.now ≤ k + 1024 → 3 ≤ s.core.stage → s.core.yardRuns = true → s.core.commitRuns = false → s.core.canRecord = true →
    ∃ t, exec (.devReset port v) s = .next t ∧ t.core.logJobs.map (fun j => (j.kind, j.due, j.reset)) = [(2, s.core.now + 1536, some 6)] ∧
      t.core.start.key = none ∧ s.Frame t [R.LB_STATUS.at] (fun c d => { c with start := d.start, logJobs := d.logJobs })) ∧
  (∀ (s : State) (port : Port) (v : Word), s.core.Free port R.DEV_RESET.at → fieldOf v 0 8 ≠ 0xC3 → s.core.start.key = none →
    ∃ t, exec (.devReset port v) s = .next t ∧ t.core.start = s.core.start ∧ s.Frame t []) ∧
  (∀ (s : State) (n : Nat), s.core.stage = 1 → s.core.start.fuses = false →
    ∃ t, exec (.fuseLoad n false) s = .next t ∧ t.core.start.fuses = true ∧ t.core.fld R.BOOT_STATUS.at 8 8 = min 255 n ∧
      t.core.lc = s.core.nv.fuses.lc % 8 ∧ t.core.guard.secrets = decide (s.core.nv.fuses.lc ≠ 4) ∧
      t.core.reg R.RL_ID.at = s.core.nv.fuses.lock.getD 0 0 ∧
      s.Frame t [R.BOOT_STATUS.at, R.GRD_STATUS.at, R.GRD_KEYS.at, R.UPD_SV.at, R.RL_ID.at, R.RL_CHMASK.at, R.RL_BAND.at 0, R.RL_BAND.at 1, R.RL_BAND.at 2]
        (fun c d => { c with start := d.start, guard := d.guard })) ∧
  (∀ (s : State) (n : Nat), s.core.stage = 1 → s.core.start.fuses = false →
    ∃ t, exec (.fuseLoad n true) s = .next t ∧ t.core.stage = 15 ∧ s.Frame t [R.BOOT_STATUS.at]) ∧
  (∀ (s : State) (r : BootReads) (hb : Option Nat), s.core.stage = 2 → s.core.start.fuses = true →
    (s.core.markReads r).bestCopy.isSome = true → (s.core.markReads r).bootCopy.trial = false →
    (s.core.markReads r).verifies (s.core.markReads r).bootCopy.slot = true → (s.core.markReads r).bootCopy.slot < 2 →
    ∃ t, exec (.imageSelect r hb) s = .next t ∧ t.core.stage = 3 ∧ t.core.fld R.BOOT_STATUS.at 4 1 = (s.core.markReads r).bootCopy.slot ∧
      t.core.fld R.BOOT_STATUS.at 6 2 = 0 ∧ t.core.upd.run = (s.core.markReads r).bootCopy.slot ∧
      s.core.KeepsPages t.core [0, 0x13, 0x14, 0x17, 0x19] ∧ s.core.KeepsShed t.core ∧ t.pending = s.pending) ∧
  (∀ (s : State) (r : BootReads) (hb : Option Nat), s.core.stage = 2 → s.core.start.fuses = true → (s.core.markReads r).bestCopy = none →
    (s.core.markReads r).verifies 0 = false → (s.core.markReads r).verifies 1 = false →
    ∃ t, exec (.imageSelect r hb) s = .next t ∧ t.core.stage = 14 ∧ bitOf (t.core.reg R.BOOT_STATUS.at) 6 = true ∧
      s.core.KeepsPages t.core [0, 0x13, 0x14, 0x17, 0x19] ∧ s.core.KeepsShed t.core ∧ t.pending = s.pending) ∧
  (∀ (s : State) (l : List Nat), s.core.stage = 5 → s.core.start.tested = false →
    ∃ t, exec (.startupUnitTest l []) s = .next t ∧ t.core.start.tested = true ∧
      (∀ u ∈ l, u < 272 → s.core.regionRetired u = false → Table.get (fun _ => 0) t.core.regions u = 2) ∧
      s.Frame t [R.STE_REPAIR_CNT.at, R.PG_EVENT.at 0x15, R.PG_EVENT.at 7] (fun c d => { c with start := d.start, regions := d.regions })) ∧
  (∀ (s : State) (u : Fin 272), s.core.stage = 5 → s.core.start.tested = false → s.core.regionRetired u = false → (s.core.unit u).use = 0 →
    ∃ t, exec (.startupUnitTest [] [u.val]) s = .next t ∧ t.core.start.tested = true ∧ t.core.regionRetired u = true ∧ (t.core.unit u).use = 4 ∧
      (t.core.reg R.STE_RETIRED_CNT.at).toNat = satAdd 32 (s.core.reg R.STE_RETIRED_CNT.at).toNat 1 ∧
      s.Frame t [R.STE_RETIRED_CNT.at, R.PG_EVENT.at 0x15, R.PG_EVENT.at 7]
        (fun c d => { c with start := d.start, regions := d.regions, units := d.units, counts := d.counts })) ∧
  (∀ s : State, s.core.stage = 5 → s.core.start.tested = true → s.core.start.profiled = true →
    ∃ t, exec .deviceReady s = .next t ∧ t.core.stage = 6 ∧ t.core.ready = true ∧ bitOf (t.core.reg (R.PG_EVENT.at 0)) 1 = true ∧
      (t.core.reg R.READY_TICK.at).toNat = s.core.now % 2 ^ 32 ∧ bitOf (t.core.reg R.GPIO_OUT.at) 0 = true ∧
      s.Frame t [R.BOOT_STATUS.at, R.PG_STATUS.at 0, R.PG_EVENT.at 0, R.READY_TICK.at, R.GPIO_OUT.at] (fun c d => { c with out := d.out })) ∧
  (∀ s : State, s.core.start.tested = false ∨ s.core.start.profiled = false → exec .deviceReady s = .next s) ∧
  (∀ s : State, s.core.stage = 5 → s.core.start.tested = true → s.core.start.profiled = false → s.core.bootProfile = none →
    ∃ t, exec .bootProfileApply s = .next t ∧ t.core.start.profiled = true ∧ s.Frame t [] (fun c d => { c with start := d.start })) ∧
  (∀ (s : State) (p : Nat) (x : Profile) (d : Core) (n : Nat), s.core.stage = 5 → s.core.start.tested = true →
    s.core.start.profiled = false → s.core.bootProfile = some p → s.core.standing p = some x →
    x.writes.foldl (profileWrite s.view) (s.core, 0) = (d, n) → (s.core.yardRuns = true → d.yardRuns = true) →
    ∃ t, exec .bootProfileApply s = .next t ∧ t.core.start.profiled = true ∧ t.core.fld R.BOOT_STATUS.at 24 8 = p % 256 ∧
      t.core.fld R.BOOT_STATUS.at 16 8 = n % 256 ∧ d.KeepsRegs t.core [R.BOOT_STATUS.at] ∧ d.KeepsShed t.core) ∧
  (∀ s : State, s.core.start.profiled = true → exec .bootProfileApply s = .next s)

/-- R403 to R407: calibration claims the tones, shows its results and names the tick at which they take effect, a multiple of 1024 at least
1024 ticks on; in that tick they do.
Clauses may rest on the readings of log entries 117 and 118. -/
def Obligations.CalibrationIsNamedAndApplied : Prop :=
  (∀ s : State, s.core.fld R.PT_STATUS.at 1 1 = 0 → s.core.stage = 3 →
    ∃ t, exec (.powerupCalibration none) s = .next t ∧ t.core.stage = 4 ∧ t.core.fld R.CAL_STATUS.at 4 4 = 15 ∧
      (∀ i : Fin 3, bitOf (t.core.reg (R.TONE_CTRL.at i)) 1 = true) ∧
      s.Frame t [R.BOOT_STATUS.at, R.CAL_STATUS.at, R.TONE_CTRL.at 0, R.TONE_CTRL.at 1, R.TONE_CTRL.at 2, R.PG_EVENT.at 3, R.PG_EVENT.at 4, R.PG_EVENT.at 5]
        (fun c d => { c with rfs := d.rfs })) ∧
  (∀ (s : State) (a b c : InputCal) (w : RadioCal) (temp : BitVec 16), s.core.fld R.PT_STATUS.at 1 1 = 0 → s.core.stage = 4 → s.core.calPend = [] →
    s.core.fld R.CAL_STATUS.at 4 4 = 15 →
    ∃ t, exec (.powerupCalibration (some { inputs := [(0, a), (1, b), (2, c)], radio := some w, temp := temp })) s = .next t ∧
      t.core.fld R.CAL_STATUS.at 0 8 = 0 ∧ (t.core.reg R.CAL_TEMP.at).toNat = temp.toNat ∧
      (t.core.reg R.CAL_PEND_TICK.at).toNat = (s.core.now + 2047) / 1024 * 1024 % 2 ^ 32 ∧ (t.core.reg R.CAL_PEND_BLOCKS.at).toNat = 15 ∧
      t.core.calPend = [⟨(s.core.now + 2047) / 1024 * 1024, 15, { inputs := [(0, a), (1, b), (2, c)], radio := some w, temp := temp }, true⟩] ∧
      s.Frame t [R.CAL_STATUS.at, R.CAL_TEMP.at, R.CAL_PEND_TICK.at, R.CAL_PEND_BLOCKS.at, R.TONE_CTRL.at 0, R.TONE_CTRL.at 1, R.TONE_CTRL.at 2]
        (fun c d => { c with rfs := d.rfs, calPend := d.calPend, tt := d.tt })) ∧
  (∀ (s : State) (x : Option CalData), s.core.fld R.PT_STATUS.at 1 1 = 1 → exec (.powerupCalibration x) s = .next s) ∧
  (∀ (s : State) (n : Nat) (i : Fin 3) (v : InputCal), s.runs 0x14 = true → s.core.calPend = [⟨n, 2 ^ i.val, { inputs := [(i, v)] }, false⟩] →
    n ≤ s.core.now → v.gains.length = topSetting i + 1 →
    ∃ t, exec .calApply s = .next t ∧ t.core.reg (R.ANA_DELAY.at i) = v.anaDelay ∧ t.core.reg (R.ALIGN.at i) = v.align ∧
      t.core.reg (R.STEP_LAT.at i) = v.stepLat ∧ (∀ k : Fin 64, k.val ≤ topSetting i → some (t.core.reg (R.GAIN_CORR.at i k)) = v.gains[k.val]?) ∧
      (t.core.reg R.CAL_APPLY_TICK.at).toNat = s.core.now % 2 ^ 32 ∧ t.core.calPend = [] ∧ bitOf (t.core.reg R.CAL_STATUS.at) 8 = false ∧
      bitOf (t.core.reg (R.PG_EVENT.at 0x14)) 0 = true ∧
      s.Frame t ([R.ANA_DELAY.at i, R.ALIGN.at i, R.STEP_LAT.at i, R.PG_EVENT.at (3 + i), R.CAL_APPLY_TICK.at, R.CAL_CNT.at, R.CAL_STATUS.at,
          R.CAL_PEND_BLOCKS.at, R.PG_EVENT.at 0x14] ++ (List.range (topSetting i + 1)).map (fun k => R.GAIN_CORR.at i k))
        (fun c d => { c with calPend := d.calPend, tt := d.tt, awaits := d.awaits, made := d.made })) ∧
  (∀ s : State, (∀ p ∈ s.core.calPend, s.core.now < p.tick) → exec .calApply s = .next s) ∧
  (∀ (s : State) (i : Fin 3), s.runs 0x14 = true → 5 ≤ s.core.stage → s.core.bgcalMay i = true → s.core.bgcalDue i = true →
    ∃ t, exec (.bgcalCycle i .start) s = .next t ∧ bitOf (t.core.reg R.CAL_STATUS.at) (4 + i) = true ∧ bitOf (t.core.reg (R.TONE_CTRL.at i)) 1 = true ∧
      s.Frame t [R.CAL_STATUS.at, R.TONE_CTRL.at i, R.PG_EVENT.at (3 + i)] (fun c d => { c with cal := d.cal, rfs := d.rfs })) ∧
  (∀ (s : State) (i : Fin 3) (v : InputCal) (temp : BitVec 16), s.runs 0x14 = true → 5 ≤ s.core.stage →
    bitOf (s.core.reg R.CAL_STATUS.at) (4 + i) = true →
    ∃ t, exec (.bgcalCycle i (.done v temp)) s = .next t ∧ bitOf (t.core.reg R.CAL_STATUS.at) (4 + i) = false ∧
      (t.core.reg R.CAL_TEMP.at).toNat = temp.toNat ∧ (t.core.reg R.CAL_PEND_TICK.at).toNat = (s.core.now + 2047) / 1024 * 1024 % 2 ^ 32 ∧
      (t.core.reg R.CAL_PEND_BLOCKS.at).toNat = 2 ^ i.val ∧
      s.Frame t [R.CAL_STATUS.at, R.TONE_CTRL.at i, R.CAL_TEMP.at, R.CAL_PEND_TICK.at, R.CAL_PEND_BLOCKS.at]
        (fun c d => { c with cal := d.cal, rfs := d.rfs, calPend := d.calPend, tt := d.tt })) ∧
  (∀ (s : State) (i : Fin 3), s.runs 0x14 = true → 5 ≤ s.core.stage → bitOf (s.core.reg R.CAL_STATUS.at) (4 + i) = true →
    ∃ t, exec (.bgcalCycle i .disturbed) s = .next t ∧ bitOf (t.core.reg R.CAL_STATUS.at) (4 + i) = false ∧
      (t.core.reg R.CAL_FAIL_CNT.at).toNat = satAdd 32 (s.core.reg R.CAL_FAIL_CNT.at).toNat 1 ∧ bitOf (t.core.reg (R.PG_EVENT.at 0x14)) 3 = true ∧
      Table.get (fun _ => none) t.core.cal.retry i = some (s.core.now + 10240000) ∧
      s.Frame t [R.CAL_STATUS.at, R.TONE_CTRL.at i, R.CAL_FAIL_CNT.at, R.PG_EVENT.at 0x14] (fun c d => { c with cal := d.cal, rfs := d.rfs })) ∧
  (∀ (s : State) (h : CmdHead) (i : Fin 3) (v : InputCal) (temp : BitVec 16), s.core.ready = true → s.core.calCheck (2 ^ i.val) 0 = 0 →
    h.atEffect = false →
    ∃ t, exec (.calRun h (BitVec.ofNat 8 (2 ^ i.val)) { inputs := [(i, v)], temp := temp }) s = .next t ∧
      (t.core.reg R.CAL_PEND_TICK.at).toNat = (s.core.now + 2047) / 1024 * 1024 % 2 ^ 32 ∧ (t.core.reg R.CAL_PEND_BLOCKS.at).toNat = 2 ^ i.val ∧
      t.core.calPend.length = s.core.calPend.length + 1 ∧
      t.core.made = (s.core.complete 0x5C h.seq 0 11 s.core.now (leBytes 4 ((s.core.now + 2047) / 1024 * 1024))).made ∧
      s.Frame t [R.CAL_STATUS.at, R.CAL_TEMP.at, R.CAL_PEND_TICK.at, R.CAL_PEND_BLOCKS.at]
        (fun c d => { c with cal := d.cal, calPend := d.calPend, tt := d.tt, made := d.made })) ∧
  (∀ (s : State) (h : CmdHead) (m : BitVec 8) (x : CalData), s.core.ready = true → s.core.calCheck m.toNat 0 ≠ 0 →
    ∃ t, exec (.calRun h m x) s = .next t ∧ t.core.made = (s.core.complete 0x5C h.seq (s.core.calCheck m.toNat 0) 11 s.core.now []).made ∧
      s.Frame t [] (fun c d => { c with made := d.made })) ∧
  (∀ (s : State) (h : CmdHead), s.core.ready = true → s.core.guardAccepts = true →
    ∃ t, exec (.calStore h true) s = .next t ∧ t.core.nv.field.isSome = true ∧ bitOf (t.core.reg R.CAL_STATUS.at) 9 = true ∧
      s.Frame t [R.CAL_STATUS.at] (fun c d => { c with nv := { c.nv with field := d.nv.field, fieldSeq := d.nv.fieldSeq }, made := d.made })) ∧
  (∀ (s : State) (h : CmdHead) (b : Bool), s.core.ready = true → s.core.guardAccepts = false →
    ∃ t, exec (.calStore h b) s = .next t ∧ t.core.made = (s.core.complete 0x5D h.seq 7 0 s.core.now []).made ∧
      bitOf (t.core.reg (R.PG_EVENT.at 0x18)) 5 = true ∧ s.Frame t [R.PG_EVENT.at 0x18] (fun c d => { c with made := d.made })) ∧
  (∀ (s : State) (h : CmdHead) (m : BitVec 8), s.core.ready = true → s.core.calCheck m.toNat 0 = 0 → h.atEffect = false →
    ∃ t, exec (.calRestore h m 0) s = .next t ∧ (t.core.reg R.CAL_PEND_TICK.at).toNat = (s.core.now + 2047) / 1024 * 1024 % 2 ^ 32 ∧
      (t.core.reg R.CAL_PEND_BLOCKS.at).toNat = m.toNat ∧
      s.Frame t [R.CAL_STATUS.at, R.CAL_PEND_TICK.at, R.CAL_PEND_BLOCKS.at] (fun c d => { c with calPend := d.calPend, tt := d.tt, made := d.made })) ∧
  (∀ (s : State) (h : CmdHead) (m : BitVec 8), s.core.ready = true → s.core.calCheck m.toNat 1 = 0 → s.core.nv.field = none →
    ∃ t, exec (.calRestore h m 1) s = .next t ∧ t.core.made = (s.core.complete 0x5E h.seq 3 11 s.core.now []).made ∧
      s.Frame t [R.PG_EVENT.at 0x14] (fun c d => { c with made := d.made }))

/-! ### Memory errors, the checking stall and the self-test engine -/

/-- R413 to R416, R435: each memory error is counted and captured, and an uncorrectable one has the effect that R414's table gives the memory it
lies in; scrubbing and the NOR's daily read go on.
Clauses may rest on the readings of log entries 2 and 128. -/
def Obligations.MemoryErrorsAreActedOn : Prop :=
  (∀ (s : State) (w : Fin 0x80000000), ∃ t, exec (.eccCorrected (.shed w)) s = .next t ∧
    (t.core.reg R.SHED_CE_CNT.at).toNat = satAdd 32 (s.core.reg R.SHED_CE_CNT.at).toNat 1 ∧ (t.core.reg R.SHED_ECC_LAST_LO.at).toNat = 8 * w.val % 2 ^ 32 ∧
    t.core.fld R.SHED_ECC_LAST_HI.at 0 2 = w.val / 2 ^ 29 ∧ t.core.fld R.SHED_ECC_LAST_HI.at 16 2 = 0 ∧ bitOf (t.core.reg R.SHED_ECC_LAST_HI.at) 31 = true ∧
    bitOf (t.core.reg (R.PG_EVENT.at 0x15)) 10 = true ∧ Table.get (fun _ => false) t.core.shedCe w = false ∧
    s.Frame t [R.SHED_CE_CNT.at, R.SHED_ECC_LAST_LO.at, R.SHED_ECC_LAST_HI.at, R.PG_EVENT.at 0x15]
      (fun c d => { c with shedCe := d.shedCe, drawn := d.drawn, counts := d.counts })) ∧
  (∀ (s : State) (r : Fin 1024) (a : BitVec 24) (b : BitVec 8), ∃ t, exec (.eccCorrected (.sram r a b)) s = .next t ∧
    (t.core.reg R.SRAM_CE_CNT.at).toNat = satAdd 32 (s.core.reg R.SRAM_CE_CNT.at).toNat 1 ∧ (t.core.reg R.SRAM_LAST_ADDR.at).toNat = a.toNat ∧
    t.core.fld R.SRAM_LAST.at 0 16 = r.val ∧ t.core.fld R.SRAM_LAST.at 16 8 = b.toNat ∧ t.core.fld R.SRAM_LAST.at 24 2 = 0 ∧
    bitOf (t.core.reg (R.PG_EVENT.at 0x15)) 6 = true ∧
    s.Frame t [R.SRAM_CE_CNT.at, R.SRAM_LAST.at, R.SRAM_LAST_ADDR.at, R.PG_EVENT.at 0x15] (fun c d => { c with counts := d.counts })) ∧
  (∀ (s : State) (x : Fin 131072) (n : Fin 9), ∃ t, exec (.eccCorrected (.nor x n)) s = .next t ∧
    (t.core.reg R.NOR_CORR_CNT.at).toNat = satAdd 32 (s.core.reg R.NOR_CORR_CNT.at).toNat 1 ∧ t.core.fld R.NOR_LAST.at 0 20 = x.val ∧
    t.core.fld R.NOR_LAST.at 20 4 = n.val ∧ bitOf (t.core.reg (R.PG_EVENT.at 0x15)) 8 = true ∧
    s.Frame t [R.NOR_CORR_CNT.at, R.NOR_LAST.at, R.PG_EVENT.at 0x15] (fun c d => { c with counts := d.counts })) ∧
  (∀ (s : State) (w : Fin 0x80000000), ∃ t, exec (.memoryUe (.shed w)) s = .next t ∧ t.core.wordBad w = true ∧
    (t.core.reg R.SHED_UE_CNT.at).toNat = satAdd 32 (s.core.reg R.SHED_UE_CNT.at).toNat 1 ∧ t.core.fld R.SHED_ECC_LAST_HI.at 16 2 = 1 ∧
    bitOf (t.core.reg (R.PG_EVENT.at 0x15)) 11 = true ∧
    s.Frame t [R.SHED_UE_CNT.at, R.SHED_ECC_LAST_LO.at, R.SHED_ECC_LAST_HI.at, R.PG_EVENT.at 0x15]
      (fun c d => { c with shedBad := d.shedBad, drawn := d.drawn, counts := d.counts })) ∧
  (∀ (s : State) (u : Fin 272) (a : BitVec 24) (b : BitVec 8), (s.core.unit u).use = 0 →
    ∃ t, exec (.memoryUe (.unit u a b)) s = .next t ∧ (t.core.unit u).use = 3 ∧
      (t.core.reg R.SRAM_UE_CNT.at).toNat = satAdd 32 (s.core.reg R.SRAM_UE_CNT.at).toNat 1 ∧ bitOf (t.core.reg (R.PG_EVENT.at 0x15)) 7 = true ∧
      s.Frame t [R.SRAM_UE_CNT.at, R.SRAM_LAST.at, R.SRAM_LAST_ADDR.at, R.PG_EVENT.at 0x15] (fun c d => { c with units := d.units, counts := d.counts })) ∧
  (∀ (s : State) (u : Fin 272) (n : Fin 256) (a : BitVec 24) (b : BitVec 8), (s.core.unit u).use = 1 → (s.core.unit u).stall = n.val → s.core.stState n = 3 →
    s.core.unitOf n = u.val → (s.core.stallRec n).move = none →
    ∃ t, exec (.memoryUe (.unit u a b)) s = .next t ∧ t.core.stState n = 7 ∧ (t.core.unit u).use = 3 ∧ t.core.fld (R.D_FAULT.at n) 0 4 = 1 ∧
      bitOf (t.core.reg (R.PG_EVENT.at 7)) 5 = true ∧ (t.core.reg R.FAULT_CNT.at).toNat = satAdd 32 (s.core.reg R.FAULT_CNT.at).toNat 1 ∧
      s.core.KeepsStalls t.core n ∧ s.core.KeepsShed t.core ∧ t.pending = s.pending) ∧
  (∀ (s : State) (m : Fin 256) (w : Fin 0x80000000), s.core.memberValid m = true → s.core.fld (R.MEMBER.at m) 16 1 = 0 →
    ∃ t, exec (.memoryUe (.bay m w)) s = .next t ∧ bitOf (t.core.reg (R.MEMBER.at m)) 16 = true ∧ bitOf (t.core.reg (R.PG_EVENT.at 0xB)) 0 = true ∧
      t.core.made.length = s.core.made.length + 1 ∧ t.core.wordBad w = true ∧ s.core.KeepsShed t.core ∧ t.pending = s.pending) ∧
  (∀ (s : State) (q : Fin 64) (w : Fin 0x80000000), (s.core.queue q).hold = [] →
    ∃ t, exec (.memoryUe (.entry q w)) s = .next t ∧ bitOf (t.core.reg (R.Q_EVENT.at q)) 2 = true ∧ t.core.made.length = s.core.made.length + 1 ∧
      t.core.wordBad w = true ∧ s.core.KeepsShed t.core ∧ t.pending = s.pending) ∧
  (∀ (s : State) (d : Fin 64) (w : Fin 0x80000000), s.core.decodeState d ≠ 0 →
    ∃ t, exec (.memoryUe (.frame d w)) s = .next t ∧ t.core.fld (R.LS_STAT.at d) 0 16 = min 65535 (s.core.fld (R.LS_STAT.at d) 0 16 + 1) ∧
      (t.core.dec d).bad = (s.core.dec d).bad + 1 ∧ t.core.wordBad w = true ∧ s.core.KeepsShed t.core ∧ t.pending = s.pending) ∧
  (∀ (s : State) (a : BitVec 24) (b : BitVec 8), s.core.phase ≠ 6 → s.core.fld R.UPD_STATUS.at 9 1 = 1 →
    ∃ t, exec (.memoryUe (.processor true a b)) s = .next t ∧ t.core.fld R.UPD_STATUS.at 8 1 = 1 - s.core.fld R.UPD_STATUS.at 8 1 ∧
      bitOf (t.core.reg (R.PG_EVENT.at 0x17)) 11 = true ∧ (t.core.reg R.UPD_HO_TICK.at).toNat = s.core.now % 2 ^ 32 ∧
      s.Frame t [R.SRAM_UE_CNT.at, R.SRAM_LAST.at, R.SRAM_LAST_ADDR.at, R.PG_EVENT.at 0x15, R.PG_EVENT.at 0x17, R.UPD_STATUS.at, R.UPD_HO_TICK.at]
        (fun c d => { c with upd := d.upd, counts := d.counts })) ∧
  (∀ (s : State) (a : BitVec 24) (b : BitVec 8), ∃ t, exec (.memoryUe (.processor false a b)) s = .next t ∧ bitOf (t.core.reg R.UPD_STATUS.at) 9 = false ∧
    s.Frame t [R.SRAM_UE_CNT.at, R.SRAM_LAST.at, R.SRAM_LAST_ADDR.at, R.PG_EVENT.at 0x15, R.UPD_STATUS.at]
      (fun c d => { c with upd := d.upd, counts := d.counts })) ∧
  (∀ (s : State) (q : Fin 64) (r : Fin 1024) (a : BitVec 24) (b : BitVec 8) (x : Held) (rest : List Held), (s.core.queue q).hold = x :: rest →
    x.entry.due = none → q.val ≠ 1 →
    ∃ t, exec (.memoryUe (.record q r a b)) s = .next t ∧ (t.core.queue q).hold = rest ∧ bitOf (t.core.reg (R.Q_EVENT.at q)) 2 = true ∧
      (t.core.reg (R.Q_DROP_CNT.at q)).toNat = satAdd 32 (s.core.reg (R.Q_DROP_CNT.at q)).toNat 1 ∧
      s.Frame t [R.SRAM_UE_CNT.at, R.SRAM_LAST.at, R.SRAM_LAST_ADDR.at, R.PG_EVENT.at 0x15, R.Q_EVENT.at q, R.Q_DROP_CNT.at q]
        (fun c d => { c with queues := d.queues, counts := d.counts })) ∧
  (∀ (s : State) (r : Fin 1024) (a : BitVec 24) (b : BitVec 8) (f : Fetched) (rest : List Fetched), s.core.fetched = f :: rest →
    ∃ t, exec (.memoryUe (.command r a b)) s = .next t ∧ t.core.fetched = rest ∧
      t.core.made = (s.core.complete (bytesAt f.bytes 2 1) (bytesAt f.bytes 0 2) 5 0 s.core.now []).made ∧
      s.Frame t [R.SRAM_UE_CNT.at, R.SRAM_LAST.at, R.SRAM_LAST_ADDR.at, R.PG_EVENT.at 0x15, R.Q_EVENT.at 1]
        (fun c d => { c with fetched := d.fetched, made := d.made, counts := d.counts })) ∧
  (∀ (s : State) (w : Nat) (m : Fin 16384), bitOf (s.core.reg R.SHED_ECC_CFG.at) 0 = true → s.core.shedCe = [] → s.core.shedBad = [] →
    w / 131072 = m.val → m.val ≠ 16383 →
    ∃ t, exec (.scrubRead [w] m) s = .next t ∧ (t.core.reg R.SHED_SCRUB_POS.at).toNat = m.val + 1 ∧ t.core.fld R.SHED_ECC_LAST_HI.at 16 2 = 2 ∧
      (t.core.reg R.SHED_CE_CNT.at).toNat = satAdd 32 (s.core.reg R.SHED_CE_CNT.at).toNat 1 ∧
      s.Frame t [R.SHED_CE_CNT.at, R.SHED_ECC_LAST_LO.at, R.SHED_ECC_LAST_HI.at, R.PG_EVENT.at 0x15, R.SHED_SCRUB_POS.at]
        (fun c d => { c with shedCe := d.shedCe, drawn := d.drawn, counts := d.counts })) ∧
  (∀ s : State, bitOf (s.core.reg R.SHED_ECC_CFG.at) 0 = true → s.core.shedCe = [] → s.core.shedBad = [] →
    ∃ t, exec (.scrubRead [] 16383) s = .next t ∧ t.core.reg R.SHED_SCRUB_POS.at = 0 ∧
      (t.core.reg R.SHED_SCRUB_PASS.at).toNat = satAdd 32 (s.core.reg R.SHED_SCRUB_PASS.at).toNat 1 ∧
      s.Frame t [R.SHED_SCRUB_POS.at, R.SHED_SCRUB_PASS.at]) ∧
  (∀ (s : State) (l : List Nat) (m : Fin 16384), bitOf (s.core.reg R.SHED_ECC_CFG.at) 0 = false → exec (.scrubRead l m) s = .next s) ∧
  (∀ (s : State) (x : Fin 131072) (n : Fin 9) (o : NorObject), n.val ≠ 0 →
    ∃ t, exec (.norRefresh [⟨x, n, false, o⟩]) s = .next t ∧
      (t.core.reg R.NOR_CORR_CNT.at).toNat = satAdd 32 (s.core.reg R.NOR_CORR_CNT.at).toNat 1 ∧ t.core.fld R.NOR_LAST.at 20 4 = n.val ∧
      (t.core.reg R.NOR_REFRESH_CNT.at).toNat = satAdd 32 (s.core.reg R.NOR_REFRESH_CNT.at).toNat (if 5 ≤ n.val then 1 else 0) ∧
      s.Frame t [R.NOR_CORR_CNT.at, R.NOR_LAST.at, R.NOR_REFRESH_CNT.at, R.PG_EVENT.at 0x15] (fun c d => { c with counts := d.counts })) ∧
  (∀ (s : State) (x : Fin 131072) (n : Fin 9) (k : Fin 2), s.core.nv.slots.length = 2 →
    ∃ t, exec (.norRefresh [⟨x, n, true, .slot k⟩]) s = .next t ∧ (t.core.slot k).ue = true ∧ t.core.verifies k = false ∧
      (t.core.reg R.NOR_UE_CNT.at).toNat = satAdd 32 (s.core.reg R.NOR_UE_CNT.at).toNat 1 ∧
      s.Frame t [R.NOR_UE_CNT.at, R.NOR_LAST.at, R.PG_EVENT.at 0x15] (fun c d => { c with counts := d.counts, nv := { c.nv with slots := d.nv.slots } })) ∧
  (∀ (s : State) (port : Port) (v : Word), s.core.Free port R.SHED_ECC_CFG.at → s.core.locked 0x1A = false → fieldOf v 8 8 ≠ 0 →
    ∃ t, exec (.eccInject port v) s = .next t ∧
      t.core.reg R.SHED_ECC_CFG.at = (s.core.reg R.SHED_ECC_CFG.at &&& ~~~ 0xFF01) ||| (v &&& 0x3FF01) ∧ s.Frame t [R.SHED_ECC_CFG.at]) ∧
  (∀ (s : State) (port : Port) (v : Word), s.core.Free port R.SHED_ECC_CFG.at → s.core.locked 0x1A = false → fieldOf v 8 8 = 0 →
    ∃ t, exec (.eccInject port v) s = .next t ∧ bitOf (t.core.reg (R.PG_EVENT.at 0x1A)) 31 = true ∧ s.Frame t [R.PG_EVENT.at 0x1A])

/-- R417 to R433, R436: the checking stall starts, copies and ends a check, and a mismatch moves the stall and sends both units to test; a run of the
self-test engine goes by slices, yields and ends with its outcome; scan stops the datapath and clears the secrets.
Clauses may rest on the readings of log entries 28, 120, 121 and 125. -/
def Obligations.ChecksAndTestsRun : Prop :=
  (∀ (s : State) (n : Nat), s.runs 0x16 = true → s.core.now % 1024000 = 0 → bitOf (s.core.reg R.CHECK_CFG.at) 0 = true → s.core.ready = true →
    s.core.checkActive = false → (s.core.unitInUse 2).isSome = true → s.core.checkTarget = some (.inr n) → n < 256 →
    ∃ t, exec .checkStart s = .next t ∧ t.core.fld R.CHECK_STATUS.at 0 8 = n ∧ t.core.checkActive = true ∧ t.core.fld R.CHECK_STATUS.at 9 1 = 0 ∧
      t.core.check.p = s.core.now ∧ t.core.check.copied = false ∧ s.Frame t [R.CHECK_STATUS.at] (fun c d => { c with check := d.check })) ∧
  (∀ s : State, s.runs 0x16 = true → s.core.now % 1024000 = 0 → bitOf (s.core.reg R.CHECK_CFG.at) 0 = true → s.core.ready = true →
    s.core.checkActive = true ∨ s.core.unitInUse 2 = none ∨ s.core.checkTarget = none →
    ∃ t, exec .checkStart s = .next t ∧ (t.core.reg R.CHECK_SKIP_CNT.at).toNat = satAdd 32 (s.core.reg R.CHECK_SKIP_CNT.at).toNat 1 ∧
      s.Frame t [R.CHECK_SKIP_CNT.at]) ∧
  (∀ s : State, s.core.now % 1024000 ≠ 0 ∨ bitOf (s.core.reg R.CHECK_CFG.at) 0 = false → exec .checkStart s = .next s) ∧
  (∀ (s : State) (n : Nat), s.runs 0x16 = true → s.core.checkActive = true → s.core.check.copied = false → s.core.check.p + 32 ≤ s.core.now →
    bitOf (s.core.reg R.CHECK_STATUS.at) 9 = false → s.core.fld R.CHECK_STATUS.at 0 8 = n →
    ∃ t, exec .checkCopy s = .next t ∧ bitOf (t.core.reg (R.ST_STATUS.at n)) 5 = true ∧ t.core.check.copied = true ∧
      s.Frame t [R.ST_STATUS.at n] (fun c d => { c with check := d.check })) ∧
  (∀ s : State, s.core.checkActive = false ∨ s.core.now < s.core.check.p + 32 → exec .checkCopy s = .next s) ∧
  (∀ (s : State) (n : Nat), s.runs 0x16 = true → s.core.checkActive = true → s.core.check.copied = true →
    bitOf (s.core.reg R.CHECK_STATUS.at) 9 = false → s.core.fld R.CHECK_STATUS.at 0 8 = n →
    ∃ t, exec (.checkEnd none) s = .next t ∧ t.core.checkActive = false ∧ bitOf (t.core.reg (R.ST_STATUS.at n)) 5 = false ∧
      (t.core.reg R.CHECK_CNT.at).toNat = satAdd 32 (s.core.reg R.CHECK_CNT.at).toNat 1 ∧ t.core.fld R.CHECK_LAST.at 0 9 = n + 256 ∧
      (t.core.reg R.CHECK_LAST_TICK.at).toNat = s.core.now % 2 ^ 32 ∧
      s.Frame t [R.CHECK_STATUS.at, R.CHECK_CNT.at, R.CHECK_LAST.at, R.CHECK_LAST_TICK.at, R.ST_STATUS.at n] (fun c d => { c with awaits := d.awaits, made := d.made })) ∧
  (∀ (s : State) (n u : Nat) (p : Fin 3 × Fin 4096), s.runs 0x16 = true → s.core.checkActive = true → s.core.check.copied = true →
    bitOf (s.core.reg R.CHECK_STATUS.at) 9 = false → s.core.fld R.CHECK_STATUS.at 0 8 = n → s.core.unitInUse 2 = some u →
    ∃ t, exec (.checkEnd (some p)) s = .next t ∧ t.core.checkActive = false ∧ (t.core.unit u).use = 3 ∧ bitOf (t.core.reg (R.ST_EVENT.at n)) 6 = true ∧
      bitOf (t.core.reg (R.PG_EVENT.at 0x16)) 0 = true ∧ (t.core.reg R.CHECK_MM_CNT.at).toNat = satAdd 32 (s.core.reg R.CHECK_MM_CNT.at).toNat 1 ∧
      t.core.fld R.CHECK_LAST.at 16 12 = p.2.val ∧ t.core.fld R.CHECK_LAST.at 28 2 = p.1.val ∧ (t.core.stallRec n).retry = some 0 ∧
      s.Frame t [R.CHECK_STATUS.at, R.CHECK_MM_CNT.at, R.CHECK_LAST.at, R.CHECK_LAST_TICK.at, R.ST_STATUS.at n, R.ST_EVENT.at n, R.PG_EVENT.at 0x16]
        (fun c d => { c with check := d.check, units := d.units, stalls := d.stalls, counts := d.counts, awaits := d.awaits, made := d.made })) ∧
  (∀ (s : State) (p : Option (Fin 3 × Fin 4096)), s.core.checkActive = false → exec (.checkEnd p) s = .next s) ∧
  (∀ (s : State) (r : SteRun), s.runs 0x15 = true → s.core.ste.run = some r → s.core.sliceActive = false → r.region < 0x400 →
    s.core.regionReady r.region = true → (r.region < 272 → (s.core.unit r.region).use = 3) → r.slice < s.core.regionSlices r.region → r.cut = false → s.core.ste.nextAt ≤ s.core.now → r.slice < 2 ^ 16 →
    ∃ t, exec .steSlice s = .next t ∧ t.core.sliceActive = true ∧ t.core.fld R.STE_STATUS.at 0 10 = r.region ∧ t.core.fld R.STE_STATUS.at 16 16 = r.slice ∧
      s.Frame t [R.STE_STATUS.at] (fun c d => { c with ste := d.ste })) ∧
  (∀ s : State, s.core.ste.run = none → s.core.waitingUnit = none → bitOf (s.core.reg R.STE_CFG.at) 12 = false → exec .steSlice s = .next s) ∧
  (∀ (s : State) (r : SteRun), s.runs 0x15 = true → s.core.ste.run = some r → s.core.sliceActive = true → r.took = false → r.region < 0x400 →
    ∃ t, exec .steSlice s = .next t ∧ t.core.sliceActive = false ∧ t.core.ste.run.map (fun x => (x.slice, x.yields)) = some (r.slice + 1, 0) ∧
      s.Frame t [R.STE_STATUS.at] (fun c d => { c with ste := d.ste })) ∧
  (∀ (s : State) (r : SteRun), s.runs 0x15 = true → s.core.ste.run = some r → s.core.sliceActive = true → r.took = false → r.region < 0x400 →
    r.yields < 63 →
    ∃ t, exec .steYield s = .next t ∧ t.core.sliceActive = false ∧ t.core.ste.run.map (fun x => (x.slice, x.yields)) = some (r.slice, r.yields + 1) ∧
      (t.core.reg R.STE_YIELD_CNT.at).toNat = satAdd 32 (s.core.reg R.STE_YIELD_CNT.at).toNat 1 ∧
      s.Frame t [R.STE_STATUS.at, R.STE_YIELD_CNT.at] (fun c d => { c with ste := d.ste })) ∧
  (∀ s : State, s.core.ste.run = none ∨ s.core.sliceActive = false → exec .steYield s = .next s) ∧
  (∀ (s : State) (r : SteRun) (x : SteResult), s.runs 0x15 = true → s.core.ste.run = some r → s.core.sliceActive = false → r.region < 0x400 →
    r.kind = 1 → r.cut = false → s.core.regionSlices r.region ≤ r.slice → x.count = r.count → x.waited = false → r.yields < 64 → x.sig = x.reference →
    272 ≤ r.region → r.region < 0x1D0 → r.host = true →
    ∃ t, exec (.steRunEnd x) s = .next t ∧ t.core.ste.run = none ∧ t.core.reg R.STE_STATUS.at = 0 ∧
      (t.core.reg R.STE_PASS_CNT.at).toNat = satAdd 32 (s.core.reg R.STE_PASS_CNT.at).toNat 1 ∧ t.core.fld R.STE_LAST.at 0 10 = r.region ∧
      t.core.fld R.STE_LAST.at 16 4 = 2 ∧ t.core.reg R.STE_LAST_SIG.at = x.sig ∧ (t.core.reg R.STE_LAST_TICK.at).toNat = s.core.now % 2 ^ 32 ∧
      bitOf (t.core.reg (R.PG_EVENT.at 0x15)) 0 = true ∧
      s.Frame t [R.STE_STATUS.at, R.STE_LAST.at, R.STE_LAST_COUNT.at, R.STE_LAST_EXPECT.at, R.STE_LAST_SIG.at, R.STE_LAST_REF.at, R.STE_LAST_TICK.at,
        R.STE_PASS_CNT.at, R.PG_EVENT.at 0x15] (fun c d => { c with ste := d.ste, awaits := d.awaits, made := d.made })) ∧
  (∀ (s : State) (r : SteRun) (x : SteResult), s.runs 0x15 = true → s.core.ste.run = some r → s.core.sliceActive = false → r.region < 0x400 →
    r.kind = 1 → r.cut = false → s.core.regionSlices r.region ≤ r.slice → x.count = r.count → x.waited = false → r.yields < 64 → x.sig ≠ x.reference →
    0x160 ≤ r.region → r.region < 0x1D0 →
    ∃ t, exec (.steRunEnd x) s = .next t ∧ t.core.ste.run = none ∧ t.core.regionRetired r.region = true ∧ t.core.fld R.STE_LAST.at 16 4 = 3 ∧
      (t.core.reg R.STE_FAIL_CNT.at).toNat = satAdd 32 (s.core.reg R.STE_FAIL_CNT.at).toNat 1 ∧
      (t.core.reg R.STE_RETIRED_CNT.at).toNat = satAdd 32 (s.core.reg R.STE_RETIRED_CNT.at).toNat 1 ∧
      s.Frame t [R.STE_STATUS.at, R.STE_LAST.at, R.STE_LAST_COUNT.at, R.STE_LAST_EXPECT.at, R.STE_LAST_SIG.at, R.STE_LAST_REF.at, R.STE_LAST_TICK.at,
        R.STE_FAIL_CNT.at, R.STE_RETIRED_CNT.at, R.PG_EVENT.at 0x15]
        (fun c d => { c with ste := d.ste, regions := d.regions, counts := d.counts, awaits := d.awaits, made := d.made })) ∧
  (∀ (s : State) (x : SteResult), s.core.ste.run = none → exec (.steRunEnd x) s = .next s) ∧
  (∀ s : State, s.runs 0x15 = true → s.core.ste.run = none → s.core.steCheck (s.core.fld R.STE_STAGE.at 0 10) (s.core.fld R.STE_STAGE.at 12 2) (s.core.reg R.STE_STAGE_COUNT.at).toNat = 0 →
    ∃ t, exec .steGoRun s = .next t ∧
      t.core.ste.run.map (fun r => (r.region, r.kind, r.host)) = some (s.core.fld R.STE_STAGE.at 0 10, s.core.fld R.STE_STAGE.at 12 2, true) ∧
      t.core.fld R.STE_RESULT.at 0 4 = 0 ∧ t.core.fld R.STE_RESULT.at 16 8 = (s.core.fld R.STE_RESULT.at 16 8 + 1) % 256 ∧
      s.Frame t [R.STE_RESULT.at, R.STE_STATUS.at, R.STE_LAST.at] (fun c d => { c with ste := d.ste })) ∧
  (∀ s : State, s.runs 0x15 = true → s.core.steCheck (s.core.fld R.STE_STAGE.at 0 10) (s.core.fld R.STE_STAGE.at 12 2) (s.core.reg R.STE_STAGE_COUNT.at).toNat ≠ 0 →
    ∃ t, exec .steGoRun s = .next t ∧
      t.core.fld R.STE_RESULT.at 0 4 = s.core.steCheck (s.core.fld R.STE_STAGE.at 0 10) (s.core.fld R.STE_STAGE.at 12 2) (s.core.reg R.STE_STAGE_COUNT.at).toNat ∧
      t.core.fld R.STE_RESULT.at 16 8 = (s.core.fld R.STE_RESULT.at 16 8 + 1) % 256 ∧ s.Frame t [R.STE_RESULT.at]) ∧
  (∀ (s : State) (r : SteRun), s.runs 0x15 = true → s.core.ste.run = some r → r.host = true → r.kind ≤ 2 → r.region < 0x400 → s.core.sliceActive = false →
    ∃ t, exec .steGoStop s = .next t ∧ t.core.ste.run = none ∧ t.core.fld R.STE_LAST.at 16 4 = 4 ∧ t.core.fld R.STE_RESULT.at 0 4 = 0 ∧
      (t.core.reg R.STE_ABORT_CNT.at).toNat = satAdd 32 (s.core.reg R.STE_ABORT_CNT.at).toNat 1 ∧
      s.Frame t [R.STE_STATUS.at, R.STE_RESULT.at, R.STE_LAST.at, R.STE_LAST_COUNT.at, R.STE_LAST_EXPECT.at, R.STE_LAST_SIG.at, R.STE_LAST_REF.at, R.STE_LAST_TICK.at,
        R.STE_ABORT_CNT.at, R.PG_EVENT.at 0x15] (fun c d => { c with ste := d.ste, awaits := d.awaits, made := d.made })) ∧
  (∀ (s : State) (h : CmdHead) (r n : Nat) (k : BitVec 8), s.core.ready = true → s.core.ste.run = none → s.core.steCheck r k.toNat n = 0 → h.atEffect = true →
    ∃ t, exec (.steRun h r k n) s = .next t ∧ t.core.ste.run.map (fun x => (x.region, x.kind, x.host)) = some (r, k.toNat, true) ∧
      t.core.awaits.length = s.core.awaits.length + 1 ∧
      s.Frame t [R.STE_STATUS.at, R.STE_LAST.at] (fun c d => { c with ste := d.ste, awaits := d.awaits })) ∧
  (∀ (s : State) (h : CmdHead) (r n : Nat) (k : BitVec 8), s.core.ready = true → s.core.steCheck r k.toNat n ≠ 0 →
    ∃ t, exec (.steRun h r k n) s = .next t ∧ t.core.made = (s.core.complete 0x60 h.seq (s.core.steCheck r k.toNat n) 12 s.core.now []).made ∧
      s.Frame t [] (fun c d => { c with made := d.made })) ∧
  (∀ (s : State) (h : CmdHead), s.core.ready = true → s.core.hostRun = false →
    ∃ t, exec (.steStop h) s = .next t ∧ t.core.made = (s.core.complete 0x61 h.seq 0 12 s.core.now []).made ∧ s.Frame t [] (fun c d => { c with made := d.made })) ∧
  (∀ (s : State) (h : CmdHead) (n : Fin 256), s.core.ready = true → s.core.stState n = 3 → bitOf (s.core.reg R.CHECK_CFG.at) 0 = true → h.atEffect = true →
    ∃ t, exec (.checkNow h n) s = .next t ∧ t.core.check.again.head? = some n.val ∧ t.core.awaits.length = s.core.awaits.length + 1 ∧
      s.Frame t [] (fun c d => { c with check := d.check, awaits := d.awaits })) ∧
  (∀ (s : State) (h : CmdHead) (n : Fin 256), s.core.ready = true → s.core.stState n ≠ 2 → s.core.stState n ≠ 3 →
    ∃ t, exec (.checkNow h n) s = .next t ∧ t.core.made = (s.core.complete 0x62 h.seq 1 12 s.core.now []).made ∧
      s.Frame t [] (fun c d => { c with made := d.made })) ∧
  (∀ s : State, s.core.lc = 1 → s.core.openStalls = [] →
    ∃ t, exec (.scanEnable false true) s = .next t ∧ t.core.ste.scan = true ∧ t.core.guard.secrets = false ∧
      s.Frame t [R.PG_STATUS.at 3, R.PG_STATUS.at 4, R.PG_STATUS.at 5] (fun c d => { c with ste := d.ste, guard := d.guard, counts := d.counts })) ∧
  (∀ s : State, s.core.lc = 0 → s.core.openStalls = [] →
    ∃ t, exec (.scanEnable true false) s = .next t ∧ t.core.ste.scan = s.core.ste.scan ∧ t.core.ste.keyFault = true ∧ t.core.guard.secrets = false ∧
      s.Frame t [R.PG_STATUS.at 3, R.PG_STATUS.at 4, R.PG_STATUS.at 5] (fun c d => { c with ste := d.ste, guard := d.guard })) ∧
  (∀ (s : State) (b : Bool), s.core.lc = 4 → exec (.scanEnable false b) s = .next s)

/-! ### The Guard and the Logbook -/

/-- R455 to R458: a press opens the guarded window or counts as long, the window closes by time or by command, and the seal follows its checks.
Clauses may rest on the readings of log entries 2, 26 and 136. -/
def Obligations.TheGuardWatches : Prop :=
  (∀ s : State, s.core.guardRuns = true → s.core.guard.seen = false →
    ∃ t, exec (.presencePress .initialLow) s = .next t ∧ t.core.guard.initial = some s.core.now ∧ t.core.guard.seen = true ∧
      bitOf (t.core.reg R.GRD_STATUS.at) 2 = true ∧ s.Frame t [R.GRD_STATUS.at] (fun c d => { c with guard := d.guard })) ∧
  (∀ s : State, s.core.guardRuns = true → s.core.fld R.GRD_STATUS.at 2 1 = 0 →
    ∃ t, exec (.presencePress .fall) s = .next t ∧ t.core.guard.fell = some s.core.now ∧ bitOf (t.core.reg R.GRD_STATUS.at) 2 = true ∧
      s.Frame t [R.GRD_STATUS.at] (fun c d => { c with guard := d.guard })) ∧
  (∀ (s : State) (f : Nat), s.core.guardRuns = true → s.core.guard.fell = some f → s.core.now - f < 2048000 →
    ∃ t, exec (.presencePress .rise) s = .next t ∧ t.core.guard.fell = none ∧ bitOf (t.core.reg R.GRD_STATUS.at) 2 = false ∧
      t.core.fld R.GRD_STATUS.at 0 2 = s.core.fld R.GRD_STATUS.at 0 2 ∧ s.Frame t [R.GRD_STATUS.at] (fun c d => { c with guard := d.guard })) ∧
  (∀ (s : State) (f : Nat), s.core.guardRuns = true → s.core.guard.fell = some f → 2048000 ≤ s.core.now - f → s.core.now - f ≤ 10240000 →
    ∃ t, exec (.presencePress .rise) s = .next t ∧ t.core.windowOpen = true ∧ t.core.guard.closeAt = some (s.core.now + 122880000) ∧
      (t.core.reg R.GRD_OPEN_TICK.at).toNat = s.core.now % 2 ^ 32 ∧ bitOf (t.core.reg (R.PG_EVENT.at 0x18)) 0 = true ∧
      (t.core.reg R.GRD_WINDOW_CNT.at).toNat = satAdd 32 (s.core.reg R.GRD_WINDOW_CNT.at).toNat 1 ∧
      s.Frame t [R.GRD_STATUS.at, R.GRD_OPEN_TICK.at, R.GRD_WINDOW_CNT.at, R.PG_EVENT.at 0x18] (fun c d => { c with guard := d.guard })) ∧
  (∀ (s : State) (f : Nat), s.core.guardRuns = true → s.core.guard.fell = some f → 10240000 < s.core.now - f →
    ∃ t, exec (.presencePress .rise) s = .next t ∧ t.core.windowOpen = s.core.windowOpen ∧ bitOf (t.core.reg (R.PG_EVENT.at 0x18)) 2 = true ∧
      (t.core.reg R.GRD_LONG_CNT.at).toNat = satAdd 32 (s.core.reg R.GRD_LONG_CNT.at).toNat 1 ∧
      s.Frame t [R.GRD_STATUS.at, R.GRD_LONG_CNT.at, R.PG_EVENT.at 0x18] (fun c d => { c with guard := d.guard, counts := d.counts })) ∧
  (∀ (s : State) (e : PresenceEdge), s.core.guardRuns = false → exec (.presencePress e) s = .next s) ∧
  (∀ (s : State) (f : Nat), s.core.guard.initial = some f → f + 10240000 ≤ s.core.now →
    ∃ t, exec .initialLowTimeout s = .next t ∧ t.core.guard.initial = none ∧ bitOf (t.core.reg (R.PG_EVENT.at 0x18)) 2 = true ∧
      (t.core.reg R.GRD_LONG_CNT.at).toNat = satAdd 32 (s.core.reg R.GRD_LONG_CNT.at).toNat 1 ∧
      s.Frame t [R.GRD_LONG_CNT.at, R.PG_EVENT.at 0x18] (fun c d => { c with guard := d.guard, counts := d.counts })) ∧
  (∀ s : State, (∀ f ∈ s.core.guard.initial, s.core.now < f + 10240000) → exec .initialLowTimeout s = .next s) ∧
  (∀ (s : State) (f : Nat), s.core.guard.closeAt = some f → f ≤ s.core.now → s.core.windowOpen = true →
    ∃ t, exec .guardWindowExpire s = .next t ∧ t.core.windowOpen = false ∧ t.core.guard.closeAt = none ∧ bitOf (t.core.reg (R.PG_EVENT.at 0x18)) 1 = true ∧
      s.Frame t [R.GRD_STATUS.at, R.PG_EVENT.at 0x18] (fun c d => { c with guard := d.guard })) ∧
  (∀ s : State, (∀ f ∈ s.core.guard.closeAt, s.core.now < f) → exec .guardWindowExpire s = .next s) ∧
  (∀ (s : State) (port : Port) (v : Word), s.core.Free port R.GRD_CTRL.at → bitOf v 0 = true → s.core.windowOpen = true →
    ∃ t, exec (.guardClose port v) s = .next t ∧ t.core.windowOpen = false ∧ t.core.guard.closeAt = none ∧ bitOf (t.core.reg (R.PG_EVENT.at 0x18)) 1 = true ∧
      s.Frame t [R.GRD_STATUS.at, R.PG_EVENT.at 0x18] (fun c d => { c with guard := d.guard })) ∧
  (∀ (s : State) (port : Port) (v : Word), s.core.Free port R.GRD_CTRL.at → bitOf v 0 = false ∨ s.core.windowOpen = false →
    ∃ t, exec (.guardClose port v) s = .next t ∧ s.Frame t []) ∧
  (∀ (s : State) (k : Nat), s.core.guardRuns = true → s.core.guard.sealTick = some k → k + 10240 ≤ s.core.now → 9 ≤ s.core.guard.passes →
    s.core.fld R.GRD_STATUS.at 1 1 = 0 →
    ∃ t, exec (.sealCheck 0) s = .next t ∧ t.core.fld R.GRD_STATUS.at 1 1 = 1 ∧ bitOf (t.core.reg (R.PG_EVENT.at 0x18)) 4 = true ∧
      t.core.guard.passes = s.core.guard.passes + 1 ∧ t.core.guard.fails = 0 ∧ t.core.guard.sealTick = some s.core.now ∧
      t.core.out = s.core.out ++ [.sealBits (sealWord s.core.guard.prbs).1] ∧
      s.Frame t [R.GRD_STATUS.at, R.PG_EVENT.at 0x18] (fun c d => { c with guard := d.guard, out := d.out })) ∧
  (∀ (s : State) (k : Nat) (e : Word), s.core.guardRuns = true → s.core.guard.sealTick = some k → k + 10240 ≤ s.core.now → e ≠ 0 →
    1 ≤ s.core.guard.fails → s.core.fld R.GRD_STATUS.at 1 1 = 1 →
    ∃ t, exec (.sealCheck e) s = .next t ∧ t.core.fld R.GRD_STATUS.at 1 1 = 0 ∧ bitOf (t.core.reg (R.PG_EVENT.at 0x18)) 3 = true ∧
      (t.core.reg R.GRD_SEAL_OPEN_CNT.at).toNat = satAdd 32 (s.core.reg R.GRD_SEAL_OPEN_CNT.at).toNat 1 ∧
      (t.core.reg R.GRD_SEAL_FAIL_CNT.at).toNat = satAdd 32 (s.core.reg R.GRD_SEAL_FAIL_CNT.at).toNat 1 ∧
      s.Frame t [R.GRD_STATUS.at, R.GRD_SEAL_OPEN_CNT.at, R.GRD_SEAL_FAIL_CNT.at, R.PG_EVENT.at 0x18]
        (fun c d => { c with guard := d.guard, counts := d.counts, out := d.out })) ∧
  (∀ (s : State) (k : Nat) (e : Word), s.core.guard.sealTick = some k → s.core.now < k + 10240 → exec (.sealCheck e) s = .next s)

/-- R463 to R473: records are started by period, by command and when power fails, and erasing goes on behind them; the counters and histograms are
sampled and selected; the commands store a record in the Shed. (How long a record takes is log entry 25's.)
Clauses may rest on the readings of log entries 25 and 119. -/
def Obligations.TheLogbookRecords : Prop :=
  (∀ (s : State) (b : Bool), s.runs 0x19 = true → 3 ≤ s.core.stage → s.core.now % (s.core.fld R.LB_CFG.at 0 12 * 1024000) = 0 →
    s.core.canRecord = true → s.core.logJobs = [] →
    ∃ t, exec (.lbPeriodicRecord b) s = .next t ∧ t.core.logJobs.map (fun j => (j.kind, j.due, j.nor)) = [(0, s.core.now + 1228, b)] ∧
      t.core.ahead = s.core.ahead - 1 ∧ bitOf (t.core.reg R.LB_STATUS.at) 3 = true ∧ s.Frame t [R.LB_STATUS.at] (fun c d => { c with logJobs := d.logJobs })) ∧
  (∀ (s : State) (b : Bool), s.core.stage < 3 ∨ s.core.commitRuns = true ∨ s.core.canRecord = false → exec (.lbPeriodicRecord b) s = .next s) ∧
  (∀ s : State, s.runs 0x19 = true → s.core.ahead < 3 → s.core.fld R.PT_STATUS.at 1 1 = 0 →
    ∃ t, exec (.lbEraseDone true) s = .next t ∧ t.core.ahead = s.core.ahead + 1 ∧
      s.Frame t [R.LB_STATUS.at] (fun c d => { c with nv := { c.nv with records := d.nv.records } })) ∧
  (∀ s : State, s.runs 0x19 = true → s.core.ahead < 3 → s.core.fld R.PT_STATUS.at 1 1 = 0 →
    ∃ t, exec (.lbEraseDone false) s = .next t ∧ t.core.ahead = s.core.ahead ∧ t.core.nv.badBlocks = s.core.nv.badBlocks + 1 ∧
      bitOf (t.core.reg (R.PG_EVENT.at 0x19)) 3 = true ∧
      s.Frame t [R.LB_STATUS.at, R.PG_EVENT.at 0x19] (fun c d => { c with nv := { c.nv with records := d.nv.records, badBlocks := d.nv.badBlocks } })) ∧
  (∀ (s : State) (b : Bool), s.core.fld R.PT_STATUS.at 1 1 = 1 → exec (.lbEraseDone b) s = .next s) ∧
  (∀ s : State, 3 ≤ s.core.stage → s.core.now % 1024000 = 0 →
    ∃ t, exec .histSample s = .next t ∧ Table.get (fun _ => 0) t.core.counts 0 = satAdd 64 (Table.get (fun _ => 0) s.core.counts 0) 1 ∧
      Table.get (fun _ => 0) t.core.counts 1 = (if s.core.ready then satAdd 64 (Table.get (fun _ => 0) s.core.counts 1) 1 else Table.get (fun _ => 0) s.core.counts 1) ∧
      Table.get (fun _ => 0) t.core.bins (192 + min 20 (s.core.unitsUsed / 32)) = satAdd 32 (Table.get (fun _ => 0) s.core.bins (192 + min 20 (s.core.unitsUsed / 32))) 1 ∧
      s.Frame t [] (fun c d => { c with counts := d.counts, bins := d.bins })) ∧
  (∀ s : State, s.core.stage < 3 ∨ s.core.now % 1024000 ≠ 0 → exec .histSample s = .next s) ∧
  (∀ s : State, s.core.fld R.PT_STATUS.at 1 1 = 0 → 3 ≤ s.core.stage → s.core.canRecord = true → s.core.commitRuns = false → s.core.radio.commit = none →
    ∃ t, exec (.pwrfail true) s = .next t ∧ t.core.fld R.PT_STATUS.at 1 1 = 1 ∧ bitOf (t.core.reg (R.PG_EVENT.at 0x1B)) 2 = true ∧
      t.core.radio.powerLost = true ∧ t.core.fld R.CAL_STATUS.at 4 4 = 0 ∧
      t.core.logJobs.map (fun j => (j.kind, j.due, j.reset)) = [(2, s.core.now + 1536, none)] ∧
      s.Frame t [R.PT_STATUS.at, R.PG_EVENT.at 0x1B, R.CAL_STATUS.at, R.LB_STATUS.at]
        (fun c d => { c with radio := { c.radio with powerLost := d.radio.powerLost }, counts := d.counts, logJobs := d.logJobs })) ∧
  (∀ s : State, s.core.fld R.PT_STATUS.at 1 1 = 1 →
    ∃ t, exec (.pwrfail false) s = .next t ∧ t.core.fld R.PT_STATUS.at 1 1 = 0 ∧ s.Frame t [R.PT_STATUS.at]) ∧
  (∀ s : State, s.core.fld R.PT_STATUS.at 1 1 = 1 → exec (.pwrfail true) s = .next s) ∧
  (∀ (s : State) (port : Port) (v : Word), s.core.Free port R.LB_SEL.at → s.core.locked 0x19 = false → bitOf v 24 = false → bitOf v 8 = false → fieldOf v 0 8 < 41 →
    ∃ t, exec (.lbSelWrite port v) s = .next t ∧ t.core.reg R.LB_SEL.at = v &&& 0x13F01FF ∧
      (t.core.reg R.LB_DATA_LO.at).toNat + 2 ^ 32 * (t.core.reg R.LB_DATA_HI.at).toNat = Table.get (fun _ => 0) s.core.counts (fieldOf v 0 8) % 2 ^ 64 ∧
      s.Frame t [R.LB_SEL.at, R.LB_DATA_LO.at, R.LB_DATA_HI.at]) ∧
  (∀ (s : State) (h : CmdHead) (b : Bool), s.core.ready = true → s.core.commitRuns = false → s.core.canRecord = true → s.core.logJobs = [] → h.atEffect = true →
    ∃ t, exec (.lbSnapshot h b) s = .next t ∧ t.core.logJobs.map (fun j => (j.kind, j.due, j.nor)) = [(1, s.core.now + 1228, b)] ∧
      t.core.awaits.length = s.core.awaits.length + 1 ∧ s.Frame t [R.LB_STATUS.at] (fun c d => { c with logJobs := d.logJobs, awaits := d.awaits })) ∧
  (∀ (s : State) (h : CmdHead) (b : Bool), s.core.ready = true → s.core.commitRuns = true ∨ s.core.canRecord = false →
    ∃ t, exec (.lbSnapshot h b) s = .next t ∧ t.core.made = (s.core.complete 0x58 h.seq 1 10 s.core.now []).made ∧
      s.Frame t [] (fun c d => { c with made := d.made })) ∧
  (∀ (s : State) (h : CmdHead) (a : Nat), s.core.ready = true → pageAddress a = true →
    ∃ t, exec (.lbDump h a) s = .next t ∧ t.core.shedRead a 4096 = (s.core.liveRecord 1 s.core.newestSeq).bytes ∧
      t.core.made = (s.core.complete 0x59 h.seq 0 10 s.core.now []).made ∧
      s.StoreFrame t [] [(a, 4096)] (fun c d => { c with made := d.made, shed := d.shed, shedBad := d.shedBad, shedCe := d.shedCe })) ∧
  (∀ (s : State) (h : CmdHead) (a : Nat), s.core.ready = true → pageAddress a = false →
    ∃ t, exec (.lbDump h a) s = .next t ∧ t.core.made = (s.core.complete 0x59 h.seq 2 10 s.core.now []).made ∧
      s.Frame t [] (fun c d => { c with made := d.made })) ∧
  (∀ (s : State) (h : CmdHead) (n a : Nat) (r : LogRec), s.core.ready = true → pageAddress a = true → n < 1024 → s.core.nv.records[n]? = some r → r.ue = false →
    ∃ t, exec (.lbRecord h n a) s = .next t ∧ t.core.shedRead a 4096 = r.bytes ∧
      t.core.made = (s.core.complete 0x5A h.seq 0 10 s.core.now (leBytes 4 r.seq)).made ∧
      s.StoreFrame t [] [(a, 4096)] (fun c d => { c with made := d.made, shed := d.shed, shedBad := d.shedBad, shedCe := d.shedCe })) ∧
  (∀ (s : State) (h : CmdHead) (n a : Nat), s.core.ready = true → pageAddress a = true → n < 1024 → s.core.nv.records.length ≤ n →
    ∃ t, exec (.lbRecord h n a) s = .next t ∧ t.core.made = (s.core.complete 0x5A h.seq 4 10 s.core.now []).made ∧
      s.Frame t [] (fun c d => { c with made := d.made }))

/-! ### Firmware update, profiles, fuses and the life cycle -/

/-- R439 to R442, R459 to R461: what an offer, a block, a verification and an abort answer on the register path and in the command ring, and what
the claim becomes. The verdict on a header is `headerReason`'s, whose signature and digests are open values (log entry 27).
Clauses may rest on the readings of log entries 27, 29, 30 and 122. -/
def Obligations.OffersClaimTheInactiveSlot : Prop :=
  (∀ (s : State) (a : Nat) (b : Bool), s.runs 0x17 = true → s.core.stageAddr = a → a % 4096 = 0 → 0x300000000 ≤ a → a + 32768 ≤ 0x340000000 →
    s.core.lc ≠ 4 → bitOf (s.core.reg R.UPD_CFG.at) 0 = true → (s.core.slot s.core.upd.run).factory = true → s.core.upd.claim = none → s.core.stage ≠ 14 →
    ∃ t, exec (.updGoOffer b) s = .next t ∧
      t.core.fld R.UPD_RESULT.at 0 4 = (if s.core.headerReason (s.core.shedRead a 32768) ≠ 0 then 3 else if b then 0 else 11) ∧
      t.core.fld R.UPD_RESULT.at 4 4 = s.core.headerReason (s.core.shedRead a 32768) ∧
      t.core.fld R.UPD_RESULT.at 16 8 = (s.core.fld R.UPD_RESULT.at 16 8 + 1) % 256 ∧
      t.core.upd.claim = (if s.core.headerReason (s.core.shedRead a 32768) = 0 ∧ b = true then
        some { digest := hdrDigest (s.core.shedRead a 32768), header := s.core.shedRead a 32768, slot := 1 - s.core.bootCopy.slot } else none) ∧
      s.core.KeepsPages t.core [0x17] ∧ s.core.KeepsShedOutside t.core [(0x3F0000000, 0xA000)] ∧ t.pending = s.pending) ∧
  (∀ (s : State) (b : Bool), s.runs 0x17 = true → s.core.stageAddr % 4096 ≠ 0 ∨ s.core.stageAddr < 0x300000000 ∨ 0x340000000 < s.core.stageAddr + 4096 →
    ∃ t, exec (.updGoOffer b) s = .next t ∧ t.core.fld R.UPD_RESULT.at 0 4 = 2 ∧
      t.core.fld R.UPD_RESULT.at 16 8 = (s.core.fld R.UPD_RESULT.at 16 8 + 1) % 256 ∧ s.Frame t [R.UPD_RESULT.at]) ∧
  (∀ (s : State) (a i : Nat) (b : Bool) (k : Claim), s.runs 0x17 = true → s.core.stageAddr = a → a % 4096 = 0 → 0x300000000 ≤ a →
    a + 4096 ≤ 0x340000000 → s.core.fld R.UPD_STAGE.at 16 13 = i → s.core.upd.claim = some k → s.core.phase = 1 → s.core.fld R.UPD_STATUS.at 4 1 = 1 →
    i < hdrBlocks k.header → k.written.contains i = false → k.slot < 2 → s.core.nv.slots.length = 2 → hdrBlocks k.header ≤ 6136 →
    ∃ t, exec (.updGoBlock b) s = .next t ∧
      t.core.fld R.UPD_RESULT.at 0 4 = (if crc32c (s.core.shedRead a 4096) ≠ hdrBlockCrc k.header i then 7 else if b then 0 else 11) ∧
      (crc32c (s.core.shedRead a 4096) = hdrBlockCrc k.header i → b = true →
        Table.get (fun _ => []) (t.core.slot k.slot).blocks i = s.core.shedRead a 4096 ∧ t.core.upd.claim.map (·.written) = some (k.written ++ [i]) ∧
        t.core.phase = (if k.written.length + 1 = hdrBlocks k.header then 3 else 1)) ∧
      s.core.KeepsPages t.core [0x17] ∧ t.pending = s.pending) ∧
  (∀ (s : State) (b : Bool), s.runs 0x17 = true → s.core.upd.claim = none → s.core.stageAddr = 0x300000000 →
    ∃ t, exec (.updGoBlock b) s = .next t ∧ t.core.fld R.UPD_RESULT.at 0 4 = 1 ∧ s.Frame t [R.UPD_RESULT.at]) ∧
  (∀ s : State, s.runs 0x17 = true →
    ∃ t, exec .updGoVerify s = .next t ∧ t.core.fld R.UPD_RESULT.at 0 4 = (if s.core.phase = 2 ∨ s.core.phase = 4 then 0 else 1) ∧
      t.core.phase = (if s.core.phase = 2 ∨ s.core.phase = 4 then 3 else s.core.phase) ∧ s.Frame t [R.UPD_RESULT.at, R.UPD_STATUS.at] (fun c d => { c with upd := d.upd })) ∧
  (∀ s : State, s.runs 0x17 = true → s.core.upd.claim.isSome = true → s.core.phase ≠ 5 → s.core.phase ≠ 6 → s.core.upd.offer = none →
    ∃ t, exec .updGoAbort s = .next t ∧ t.core.fld R.UPD_RESULT.at 0 4 = 0 ∧ t.core.upd.claim = none ∧ t.core.phase = 0 ∧ t.core.fld R.UPD_STATUS.at 4 2 = 0 ∧
      t.core.nv.journal = none ∧ s.Frame t [R.UPD_RESULT.at, R.UPD_STATUS.at] (fun c d => { c with upd := d.upd, nv := { c.nv with journal := d.nv.journal } })) ∧
  (∀ s : State, s.runs 0x17 = true → s.core.upd.claim = none ∨ s.core.phase = 5 ∨ s.core.phase = 6 →
    ∃ t, exec .updGoAbort s = .next t ∧ t.core.fld R.UPD_RESULT.at 0 4 = 1 ∧ s.Frame t [R.UPD_RESULT.at]) ∧
  (∀ (s : State) (h : CmdHead) (a : Nat) (b : Bool), s.core.ready = true → a % 4096 = 0 → 0x300000000 ≤ a → a + 32768 ≤ 0x340000000 →
    s.core.lc ≠ 4 → bitOf (s.core.reg R.UPD_CFG.at) 0 = true → s.core.headerReason (s.core.shedRead a 32768) ≠ 0 → s.core.upd.claim = none →
    ∃ t, exec (.updOffer h a b) s = .next t ∧
      t.core.made = (s.core.complete 0x50 h.seq 3 9 s.core.now (leBytes 4 0 ++ leBytes 1 (s.core.headerReason (s.core.shedRead a 32768)) ++ leBytes 1 0)).made ∧
      s.Frame t [] (fun c d => { c with made := d.made })) ∧
  (∀ (s : State) (h : CmdHead) (a : Nat) (b : Bool), s.core.ready = true → a % 4096 ≠ 0 → s.core.upd.claim = none →
    ∃ t, exec (.updOffer h a b) s = .next t ∧ t.core.made = (s.core.complete 0x50 h.seq 2 9 s.core.now (leBytes 6 0)).made ∧
      s.Frame t [] (fun c d => { c with made := d.made })) ∧
  (∀ (s : State) (h : CmdHead) (i a : Nat) (b : Bool) (k : Claim), s.core.ready = true → a % 4096 = 0 → 0x300000000 ≤ a → a + 4096 ≤ 0x340000000 →
    s.core.upd.claim = some k → s.core.phase = 1 → s.core.fld R.UPD_STATUS.at 4 1 = 1 → i < hdrBlocks k.header → k.written.contains i = true →
    ∃ t, exec (.updBlock h i a b) s = .next t ∧ t.core.made = (s.core.complete 0x51 h.seq 0 9 s.core.now [1]).made ∧
      t.core.upd.lastBlock = s.core.now ∧ s.Frame t [] (fun c d => { c with made := d.made, upd := d.upd })) ∧
  (∀ (s : State) (h : CmdHead) (i a : Nat) (b : Bool), s.core.ready = true → a % 4096 ≠ 0 →
    ∃ t, exec (.updBlock h i a b) s = .next t ∧ t.core.made = (s.core.complete 0x51 h.seq 2 9 s.core.now [0]).made ∧
      s.Frame t [] (fun c d => { c with made := d.made })) ∧
  (∀ (s : State) (h : CmdHead), s.core.ready = true → s.core.phase = 2 ∨ s.core.phase = 4 → h.atEffect = true →
    ∃ t, exec (.updVerify h) s = .next t ∧ t.core.phase = 3 ∧ t.core.awaits.length = s.core.awaits.length + 1 ∧
      s.Frame t [R.UPD_STATUS.at] (fun c d => { c with upd := d.upd, awaits := d.awaits })) ∧
  (∀ (s : State) (h : CmdHead), s.core.ready = true → s.core.phase ≠ 2 → s.core.phase ≠ 4 →
    ∃ t, exec (.updVerify h) s = .next t ∧ t.core.made = (s.core.complete 0x52 h.seq 1 9 s.core.now (leBytes 4 0)).made ∧
      s.Frame t [] (fun c d => { c with made := d.made })) ∧
  (∀ (s : State) (h : CmdHead), s.core.ready = true → s.core.upd.claim.isSome = true → s.core.phase ≠ 5 → s.core.phase ≠ 6 → s.core.upd.offer = none →
    ∃ t, exec (.updAbort h) s = .next t ∧ t.core.upd.claim = none ∧ t.core.phase = 0 ∧ t.core.made = (s.core.complete 0x55 h.seq 0 9 s.core.now []).made ∧
      s.Frame t [R.UPD_STATUS.at] (fun c d => { c with upd := d.upd, made := d.made, nv := { c.nv with journal := d.nv.journal } })) ∧
  (∀ s : State, s.runs 0x17 = true → s.core.phase = 1 → s.core.fld R.UPD_STATUS.at 4 2 ≠ 0 → s.core.upd.lastBlock + 614400000 ≤ s.core.now →
    s.core.upd.offer = none →
    ∃ t, exec .offerTimeout s = .next t ∧ t.core.upd.claim = none ∧ t.core.phase = 0 ∧ t.core.fld R.UPD_STATUS.at 4 2 = 0 ∧
      s.Frame t [R.UPD_STATUS.at] (fun c d => { c with upd := d.upd, nv := { c.nv with journal := d.nv.journal } })) ∧
  (∀ s : State, s.core.phase ≠ 1 ∨ s.core.now < s.core.upd.lastBlock + 614400000 → exec .offerTimeout s = .next s) ∧
  (∀ s : State, s.runs 0x17 = true → bitOf (s.core.reg R.UPD_CFG.at) 1 = true → 2 ≤ s.core.stage → s.core.stage ≤ 6 → s.core.upd.failing = none →
    ∃ t, exec (.chainPoll none) s = .next t ∧ t.core.upd.failing = some s.core.now ∧ s.Frame t [] (fun c d => { c with upd := d.upd })) ∧
  (∀ (s : State) (f : Nat), s.runs 0x17 = true → bitOf (s.core.reg R.UPD_CFG.at) 1 = true → 2 ≤ s.core.stage → s.core.stage ≤ 6 →
    s.core.upd.failing = some f → f + 10240000 ≤ s.core.now → s.core.fld R.UPD_STATUS.at 4 2 = 3 →
    ∃ t, exec (.chainPoll none) s = .next t ∧ t.core.fld R.UPD_CHAIN_STATUS.at 8 2 = 2 ∧ t.core.fld R.UPD_STATUS.at 4 2 = 1 ∧
      s.Frame t [R.UPD_CHAIN_STATUS.at, R.UPD_STATUS.at] (fun c d => { c with upd := d.upd })) ∧
  (∀ (s : State) (l h : List Byte), s.runs 0x17 = true → bitOf (s.core.reg R.UPD_CFG.at) 1 = true → 2 ≤ s.core.stage → s.core.stage ≤ 6 →
    bytesAt l 0 4 ≠ 0x25601A6F →
    ∃ t, exec (.chainPoll (some (l, h))) s = .next t ∧ t.core.fld R.UPD_CHAIN_STATUS.at 8 2 = 1 ∧ t.core.upd.failing = none ∧
      t.core.upd.claim = s.core.upd.claim ∧ s.Frame t [R.UPD_CHAIN_STATUS.at] (fun c d => { c with upd := d.upd })) ∧
  (∀ (s : State) (x : Option (List Byte × List Byte)), bitOf (s.core.reg R.UPD_CFG.at) 1 = false → exec (.chainPoll x) s = .next s) ∧
  (∀ (s : State) (i : Nat) (d : List Byte) (k : Claim), s.runs 0x17 = true → s.core.phase = 1 → s.core.fld R.UPD_STATUS.at 4 2 = 3 →
    bitOf (s.core.reg R.UPD_CFG.at) 1 = true → s.core.upd.claim = some k → i < hdrBlocks k.header → k.written.contains i = false →
    crc32c d ≠ hdrBlockCrc k.header i → Table.get (fun _ => 0) s.core.upd.rereads i < 3 →
    ∃ t, exec (.chainBlock i (some d)) s = .next t ∧ Table.get (fun _ => 0) t.core.upd.rereads i = Table.get (fun _ => 0) s.core.upd.rereads i + 1 ∧
      t.core.fld R.UPD_CHAIN_STATUS.at 16 16 = min 65535 (s.core.fld R.UPD_CHAIN_STATUS.at 16 16 + 1) ∧
      s.Frame t [R.UPD_CHAIN_STATUS.at] (fun c d => { c with upd := d.upd })) ∧
  (∀ (s : State) (i : Nat) (d : Option (List Byte)), s.core.phase ≠ 1 → exec (.chainBlock i d) s = .next s)

/-- R445 to R451: verification ends VERIFIED or rejects the image; an activation names B, is ready or not in time, hands over at B, and is confirmed,
or handed back after 5 s; a swap for self-test changes the processors alone.
Clauses may rest on the readings of log entries 27, 122 and 126. -/
def Obligations.ImagesAreActivatedAndConfirmed : Prop :=
  (∀ (s : State) (k : Claim), s.core.enabled 0x17 = true → s.core.phase = 3 → s.core.upd.claim = some k → s.core.slotReason (s.core.slot k.slot) = 0 →
    s.core.stage ≠ 14 →
    ∃ t, exec (.verifyEnd false) s = .next t ∧ t.core.phase = 4 ∧ bitOf (t.core.reg (R.PG_EVENT.at 0x17)) 5 = true ∧
      s.Frame t [R.UPD_STATUS.at, R.UPD_RESULT.at, R.PG_EVENT.at 0x17] (fun c d => { c with awaits := d.awaits, made := d.made })) ∧
  (∀ (s : State) (k : Claim), s.core.enabled 0x17 = true → s.core.phase = 3 → s.core.upd.claim = some k → s.core.upd.offer = none →
    k.slot < 2 → s.core.nv.slots.length = 2 →
    ∃ t, exec (.verifyEnd true) s = .next t ∧ t.core.phase = 7 ∧ t.core.upd.claim = none ∧ bitOf (t.core.reg (R.PG_EVENT.at 0x17)) 6 = true ∧
      (t.core.slot k.slot).header = [] ∧ (s.core.upd.verify = true → t.core.fld R.UPD_RESULT.at 0 8 = 0x88) ∧
      s.Frame t [R.UPD_STATUS.at, R.UPD_RESULT.at, R.PG_EVENT.at 0x17]
        (fun c d => { c with upd := { c.upd with claim := none }, counts := d.counts, awaits := d.awaits, made := d.made, nv := { c.nv with slots := d.nv.slots, journal := none } })) ∧
  (∀ (s : State) (b : Bool), s.core.phase ≠ 3 → exec (.verifyEnd b) s = .next s) ∧
  (∀ (s : State) (k b : Nat), s.runs 0x17 = true → s.core.phase = 4 → bitOf (s.core.reg R.UPD_STAGE.at) 6 = false →
    s.core.fld R.UPD_STAGE.at 4 2 = k → (s.core.track k).state ≠ .off → s.core.predictTick k (s.core.reg R.UPD_STAGE_EPOCH.at).toNat 0 = some b →
    s.core.now + 512000 ≤ b → s.core.standbyUsable = true →
    ∃ t, exec .updGoActivate s = .next t ∧ t.core.phase = 5 ∧ t.core.fld R.UPD_RESULT.at 0 4 = 0 ∧ (t.core.reg R.UPD_HO_TICK.at).toNat = b % 2 ^ 32 ∧
      t.core.fld R.UPD_STATUS.at 9 1 = 0 ∧ s.Frame t [R.UPD_STATUS.at, R.UPD_RESULT.at, R.UPD_HO_TICK.at] (fun c d => { c with upd := d.upd, tt := d.tt })) ∧
  (∀ s : State, s.runs 0x17 = true → s.core.phase ≠ 4 → bitOf (s.core.reg R.UPD_STAGE.at) 6 = false →
    ∃ t, exec .updGoActivate s = .next t ∧ t.core.fld R.UPD_RESULT.at 0 4 = 1 ∧ s.Frame t [R.UPD_RESULT.at]) ∧
  (∀ (s : State) (h : CmdHead) (b : Nat), s.core.ready = true → s.core.phase = 4 → h.now = false → h.phase = 0 → h.epoch < 2 ^ 32 →
    (s.core.track h.track.val).state ≠ .off → s.core.predictTick h.track.val h.epoch 0 = some b → s.core.now + 512000 ≤ b → s.core.standbyUsable = true →
    h.atEffect = true →
    ∃ t, exec (.updActivate h) s = .next t ∧ t.core.phase = 5 ∧ (t.core.reg R.UPD_HO_TICK.at).toNat = b % 2 ^ 32 ∧
      t.core.awaits.length = s.core.awaits.length + 1 ∧
      s.Frame t [R.UPD_STATUS.at, R.UPD_HO_TICK.at] (fun c d => { c with upd := d.upd, tt := d.tt, awaits := d.awaits })) ∧
  (∀ (s : State) (k : Claim) (hb : Option Nat), s.runs 0x17 = true → s.core.phase = 5 → s.core.upd.resets = false → s.core.upd.loaded = false →
    s.core.upd.claim = some k → s.core.nv.copies.length = 2 →
    ∃ t, exec (.standbyReady true hb) s = .next t ∧ t.core.upd.loaded = true ∧ t.core.upd.hb = hb ∧ t.core.fld R.UPD_STATUS.at 9 1 = 1 ∧
      t.core.nv.copies.any (fun x => decide (x.slot = k.slot) && x.trial && decide (x.attempts = 0)) = true ∧
      s.Frame t [R.UPD_STATUS.at, R.UPD_SV.at, R.UPD_RUN_VER.at] (fun c d => { c with upd := d.upd, nv := { c.nv with copies := d.nv.copies } })) ∧
  (∀ (s : State) (b : Bool) (hb : Option Nat), s.core.phase ≠ 5 → s.core.upd.reload = false → exec (.standbyReady b hb) s = .next s) ∧
  (∀ (s : State) (b : Nat), s.runs 0x17 = true → s.core.phase = 5 → s.core.upd.loaded = false → s.core.handoverTick = some b →
    b ≤ s.core.now + 1024 → s.core.bootCopy.slot = s.core.upd.run →
    ∃ t, exec .notReady s = .next t ∧ t.core.phase = 4 ∧ t.core.fld R.UPD_STATUS.at 9 1 = 0 ∧ (s.core.upd.activate = true → t.core.fld R.UPD_RESULT.at 0 4 = 9) ∧
      s.Frame t [R.UPD_STATUS.at, R.UPD_RESULT.at] (fun c d => { c with upd := d.upd, tt := d.tt, awaits := d.awaits, made := d.made })) ∧
  (∀ s : State, s.core.phase ≠ 5 ∨ s.core.upd.loaded = true → exec .notReady s = .next s) ∧
  (∀ (s : State) (k : Claim), s.core.enabled 0x17 = true → s.core.handoverDue = true → s.core.upd.claim = some k → s.core.upd.resets = false →
    ∃ t, exec .handover s = .next t ∧ t.core.phase = 6 ∧ t.core.fld R.UPD_STATUS.at 8 1 = 1 - s.core.fld R.UPD_STATUS.at 8 1 ∧
      t.core.fld R.UPD_STATUS.at 10 1 = 1 ∧ t.core.upd.run = k.slot ∧ t.core.upd.b = some s.core.now ∧ bitOf (t.core.reg (R.PG_EVENT.at 0x17)) 7 = true ∧
      (t.core.reg R.UPD_HO_TICK.at).toNat = s.core.now % 2 ^ 32 ∧
      s.Frame t [R.UPD_STATUS.at, R.UPD_SV.at, R.UPD_RUN_VER.at, R.UPD_HO_TICK.at, R.PG_EVENT.at 0x17] (fun c d => { c with upd := d.upd, tt := d.tt, counts := d.counts })) ∧
  (∀ s : State, s.core.handoverDue = false → exec .handover s = .next s) ∧
  (∀ (s : State) (b : Nat), s.runs 0x17 = true → s.core.upd.b = some b → s.core.phase = 6 → s.core.fld R.UPD_STATUS.at 14 1 = 0 →
    b + 5120000 ≤ s.core.now → s.core.upd.offer = none → s.core.upd.run ≤ 1 → s.core.nv.slots.length = 2 →
    ∃ t, exec (.handback false) s = .next t ∧ t.core.phase = 7 ∧ t.core.fld R.UPD_STATUS.at 8 1 = 1 - s.core.fld R.UPD_STATUS.at 8 1 ∧
      t.core.fld R.UPD_STATUS.at 10 1 = 0 ∧ t.core.upd.run = 1 - s.core.upd.run ∧ t.core.upd.b = none ∧ t.core.upd.claim = none ∧
      (t.core.slot s.core.upd.run).header = [] ∧ bitOf (t.core.reg (R.PG_EVENT.at 0x17)) 8 = true ∧
      s.core.KeepsPages t.core [0x17] ∧ s.core.KeepsShed t.core ∧ t.pending = s.pending) ∧
  (∀ (s : State) (f : Bool), s.core.upd.b = none → exec (.handback f) s = .next s) ∧
  (∀ s : State, s.runs 0x17 = true → s.core.phase = 6 → s.core.fld R.UPD_STATUS.at 14 1 = 1 →
    ∃ t, exec (.updGoConfirm true) s = .next t ∧ t.core.phase = 0 ∧ t.core.upd.claim = none ∧ t.core.upd.b = none ∧ t.core.fld R.UPD_RESULT.at 0 4 = 0 ∧
      t.core.fld R.UPD_STATUS.at 10 1 = 0 ∧ bitOf (t.core.reg (R.PG_EVENT.at 0x17)) 9 = true ∧ t.core.nv.journal = none ∧
      s.core.KeepsPages t.core [0x17] ∧ s.core.KeepsShed t.core ∧ t.pending = s.pending) ∧
  (∀ (s : State) (b : Bool), s.runs 0x17 = true → s.core.phase ≠ 6 ∨ s.core.fld R.UPD_STATUS.at 14 1 = 0 →
    ∃ t, exec (.updGoConfirm b) s = .next t ∧ t.core.fld R.UPD_RESULT.at 0 4 = 1 ∧ s.Frame t [R.UPD_RESULT.at]) ∧
  (∀ (s : State) (h : CmdHead), s.core.ready = true → s.core.phase = 6 → s.core.fld R.UPD_STATUS.at 14 1 = 1 →
    ∃ t, exec (.updConfirm h true) s = .next t ∧ t.core.phase = 0 ∧ t.core.upd.claim = none ∧ bitOf (t.core.reg (R.PG_EVENT.at 0x17)) 9 = true ∧
      s.core.KeepsPages t.core [0x17] ∧ s.core.KeepsShed t.core ∧ t.pending = s.pending) ∧
  (∀ s : State, s.runs 0x17 = true → bitOf (s.core.reg R.UPD_CFG.at) 3 = true → s.core.phase = 6 → s.core.fld R.UPD_STATUS.at 14 1 = 1 →
    s.core.upd.hbTick + 1024000 * s.core.fld R.UPD_CFG.at 8 8 ≤ s.core.now →
    ∃ t, exec (.autoConfirm true) s = .next t ∧ t.core.phase = 0 ∧ bitOf (t.core.reg (R.PG_EVENT.at 0x17)) 9 = true ∧
      s.core.KeepsPages t.core [0x17] ∧ s.core.KeepsShed t.core ∧ t.pending = s.pending) ∧
  (∀ (s : State) (b : Bool), bitOf (s.core.reg R.UPD_CFG.at) 3 = false → exec (.autoConfirm b) s = .next s) ∧
  (∀ s : State, s.runs 0x17 = true → s.core.swapDue = true →
    ∃ t, exec .cpSwap s = .next t ∧ t.core.fld R.UPD_STATUS.at 8 1 = 1 - s.core.fld R.UPD_STATUS.at 8 1 ∧ t.core.upd.swap = false ∧
      bitOf (t.core.reg (R.PG_EVENT.at 0x17)) 7 = true ∧ t.core.nv = s.core.nv ∧
      s.Frame t [R.UPD_STATUS.at, R.UPD_HO_TICK.at, R.PG_EVENT.at 0x17] (fun c d => { c with upd := d.upd, counts := d.counts })) ∧
  (∀ s : State, s.core.swapDue = false → exec .cpSwap s = .next s)

/-- R309, R453, R454, R458, R459: a saved profile stands, an erased one does not, and one boot profile at most is set; a guarded fuse command burns
what it names and no other fuse, and outside a window or in RETIRED nothing.
Clauses may rest on the readings of log entries 3, 122 and 123. -/
def Obligations.ProfilesAndFusesAreWritten : Prop :=
  (∀ (s : State) (h : CmdHead) (p n a : Nat) (w : List (Nat × Word)), s.core.ready = true → p ≤ 15 → n ≤ 16382 →
    (s.core.updBytes a (8 * n)).bind (fun l => profileRecords l n) = some w →
    ∃ t, exec (.profileSave h p n a true) s = .next t ∧
      t.core.standing p = some { seq := s.core.nextProfileSeq, boot := (s.core.standing p).any (·.boot), writes := w } ∧
      t.core.made = (s.core.complete 0x56 h.seq 0 9 s.core.now (leBytes 4 s.core.nextProfileSeq)).made ∧
      s.Frame t [] (fun c d => { c with made := d.made, nv := { c.nv with profiles := d.nv.profiles } })) ∧
  (∀ (s : State) (h : CmdHead) (p n a : Nat) (b : Bool), s.core.ready = true → 15 < p ∨ 16382 < n ∨ a % 4096 ≠ 0 →
    ∃ t, exec (.profileSave h p n a b) s = .next t ∧ t.core.made = (s.core.complete 0x56 h.seq 2 9 s.core.now []).made ∧
      s.Frame t [] (fun c d => { c with made := d.made })) ∧
  (∀ (s : State) (h : CmdHead) (p : Nat), s.core.ready = true → p ≤ 15 →
    ∃ t, exec (.profileErase h p true) s = .next t ∧ t.core.standing p = none ∧
      s.Frame t [] (fun c d => { c with made := d.made, nv := { c.nv with profiles := d.nv.profiles } })) ∧
  (∀ (s : State) (h : CmdHead) (p : Nat) (b : Bool), s.core.ready = true → 15 < p →
    ∃ t, exec (.profileErase h p b) s = .next t ∧ t.core.made = (s.core.complete 0x56 h.seq 2 9 s.core.now []).made ∧
      s.Frame t [] (fun c d => { c with made := d.made })) ∧
  (∀ (s : State) (h : CmdHead) (p : Nat), s.core.ready = true → p ≤ 15 → (s.core.standing p).isSome = true →
    ∃ t, exec (.profileSetBoot h p true) s = .next t ∧ t.core.bootProfile = some p ∧
      s.Frame t [] (fun c d => { c with made := d.made, nv := { c.nv with profiles := d.nv.profiles } })) ∧
  (∀ (s : State) (h : CmdHead), s.core.ready = true →
    ∃ t, exec (.profileSetBoot h 0xFF true) s = .next t ∧ t.core.bootProfile = none ∧
      s.Frame t [] (fun c d => { c with made := d.made, nv := { c.nv with profiles := d.nv.profiles } })) ∧
  (∀ (s : State) (h : CmdHead) (p : Nat) (b : Bool), s.core.ready = true → p ≤ 15 → s.core.standing p = none →
    ∃ t, exec (.profileSetBoot h p b) s = .next t ∧ t.core.made = (s.core.complete 0x56 h.seq 1 9 s.core.now []).made ∧
      s.Frame t [] (fun c d => { c with made := d.made })) ∧
  (∀ (s : State) (h : CmdHead) (n : Nat), s.core.ready = true → s.core.lc ≠ 4 → s.core.guardAccepts = true → s.core.lcMay n = true → 1 ≤ n → n ≤ 4 →
    s.core.ste.run = none → 3 ≤ s.core.stage → s.core.yardRuns = true → s.core.commitRuns = false → s.core.canRecord = true →
    ∃ t, exec (.lcAdvance h n) s = .next t ∧ t.core.lc = n ∧ t.core.nv.fuses.lc = n ∧ t.core.windowOpen = false ∧
      t.core.guard.secrets = (s.core.guard.secrets && decide (n < 3)) ∧ bitOf (t.core.reg (R.PG_EVENT.at 0x18)) 6 = true ∧
      t.core.logJobs.map (fun j => (j.kind, j.due, j.reset)) = [(2, s.core.now + 1536, some 6)] ∧
      t.core.made = (s.core.complete 0x57 h.seq 0 9 s.core.now []).made ∧
      s.Frame t [R.GRD_STATUS.at, R.PG_EVENT.at 0x18, R.LB_STATUS.at]
        (fun c d => { c with nv := { c.nv with fuses := { c.nv.fuses with lc := n } }, guard := d.guard, counts := d.counts, logJobs := d.logJobs, made := d.made })) ∧
  (∀ (s : State) (h : CmdHead) (n : Nat), s.core.ready = true → s.core.lc ≠ 4 → s.core.guardAccepts = true → s.core.lcMay n = false →
    ∃ t, exec (.lcAdvance h n) s = .next t ∧ t.core.made = (s.core.complete 0x57 h.seq (if 4 < n then 2 else 12) 9 s.core.now []).made ∧
      s.Frame t [] (fun c d => { c with made := d.made })) ∧
  (∀ (s : State) (h : CmdHead) (n : Nat), s.core.ready = true → s.core.lc ≠ 4 → s.core.guardAccepts = false →
    ∃ t, exec (.lcAdvance h n) s = .next t ∧ t.core.made = (s.core.complete 0x57 h.seq 7 0 s.core.now []).made ∧ bitOf (t.core.reg (R.PG_EVENT.at 0x18)) 5 = true ∧
      s.Frame t [R.PG_EVENT.at 0x18] (fun c d => { c with made := d.made })) ∧
  (∀ (s : State) (h : CmdHead) (id b0 b1 b2 mask : Word), s.core.ready = true → s.core.lc ≠ 4 → s.core.guardAccepts = true → s.core.fld R.RL_ID.at 0 8 = 0 →
    fieldOf b0 16 16 ≤ 10000 → fieldOf b1 16 16 ≤ 10000 → fieldOf b2 16 16 ≤ 10000 →
    ∃ t, exec (.fuseReglock h id b0 b1 b2 mask) s = .next t ∧ t.core.reg R.RL_ID.at = id &&& 0x1FFF ∧ t.core.reg (R.RL_BAND.at 0) = b0 &&& 0xFFFF00FF ∧
      t.core.reg (R.RL_BAND.at 1) = b1 &&& 0xFFFF00FF ∧ t.core.reg (R.RL_BAND.at 2) = b2 &&& 0xFFFF00FF ∧ t.core.reg R.RL_CHMASK.at = mask &&& 0x1FFFFFF ∧
      t.core.made = (s.core.complete 0x57 h.seq 0 9 s.core.now []).made ∧ s.core.KeepsPages t.core [0x13, 0x17, 0x18] ∧ s.core.KeepsShed t.core ∧ t.pending = s.pending) ∧
  (∀ (s : State) (h : CmdHead) (id b0 b1 b2 mask : Word), s.core.ready = true → s.core.lc ≠ 4 → s.core.guardAccepts = true → s.core.fld R.RL_ID.at 0 8 ≠ 0 →
    ∃ t, exec (.fuseReglock h id b0 b1 b2 mask) s = .next t ∧ t.core.made = (s.core.complete 0x57 h.seq 1 9 s.core.now []).made ∧
      s.Frame t [] (fun c d => { c with made := d.made })) ∧
  (∀ (s : State) (h : CmdHead) (k : Fin 4) (a : Nat), s.core.ready = true → s.core.lc ≠ 4 → s.core.guardAccepts = true → a % 4096 = 0 → 0x300000000 ≤ a →
    a + 48 ≤ 0x340000000 → bitOf (s.core.reg R.GRD_KEYS.at) k = false →
    ∃ t, exec (.keyProgram h k a) s = .next t ∧ Table.get (fun _ => []) t.core.nv.fuses.keys k = s.core.shedRead a 48 ∧
      bitOf (t.core.reg R.GRD_KEYS.at) k = true ∧ t.core.made = (s.core.complete 0x57 h.seq 0 9 s.core.now []).made ∧
      s.Frame t [R.GRD_STATUS.at, R.GRD_KEYS.at, R.UPD_SV.at, R.RL_ID.at, R.RL_CHMASK.at, R.RL_BAND.at 0, R.RL_BAND.at 1, R.RL_BAND.at 2]
        (fun c d => { c with made := d.made, nv := { c.nv with fuses := { c.nv.fuses with keys := d.nv.fuses.keys } } })) ∧
  (∀ (s : State) (h : CmdHead) (k a : Nat), s.core.ready = true → s.core.lc ≠ 4 → s.core.guardAccepts = true → 3 < k ∨ a % 4096 ≠ 0 →
    ∃ t, exec (.keyProgram h k a) s = .next t ∧ t.core.made = (s.core.complete 0x57 h.seq 2 9 s.core.now []).made ∧
      s.Frame t [] (fun c d => { c with made := d.made })) ∧
  (∀ (s : State) (h : CmdHead) (k j : Fin 4), s.core.ready = true → s.core.lc ≠ 4 → s.core.guardAccepts = true → j ≠ k →
    bitOf (s.core.reg R.GRD_KEYS.at) j = true → bitOf (s.core.reg R.GRD_KEYS.at) (4 + j) = false →
    ∃ t, exec (.keyRevoke h k) s = .next t ∧ bitOf (t.core.reg R.GRD_KEYS.at) (4 + k) = true ∧ t.core.made = (s.core.complete 0x57 h.seq 0 9 s.core.now []).made ∧
      s.Frame t [R.GRD_STATUS.at, R.GRD_KEYS.at, R.UPD_SV.at, R.RL_ID.at, R.RL_CHMASK.at, R.RL_BAND.at 0, R.RL_BAND.at 1, R.RL_BAND.at 2]
        (fun c d => { c with made := d.made, nv := { c.nv with fuses := { c.nv.fuses with revoked := d.nv.fuses.revoked } } })) ∧
  (∀ (s : State) (h : CmdHead) (k : Fin 4), s.core.ready = true → s.core.lc ≠ 4 → s.core.guardAccepts = true →
    (∀ j : Fin 4, j ≠ k → bitOf (s.core.reg R.GRD_KEYS.at) j = false ∨ bitOf (s.core.reg R.GRD_KEYS.at) (4 + j) = true) →
    ∃ t, exec (.keyRevoke h k) s = .next t ∧ t.core.made = (s.core.complete 0x57 h.seq 1 9 s.core.now []).made ∧
      s.Frame t [] (fun c d => { c with made := d.made }))

/-! ### The command ring's encoding -/

/-- R250, R254, R283, R347, R407, R430, R459, R473: the entry of every well-formed ring command is 32 bytes with a good CRC, and the ring decodes it
to that command with every operand at its value.
Clauses may rest on the readings of log entries 4 and 88. -/
def Obligations.RingEntriesSpellTheirCommands : Prop :=
  ∀ (i : Instr) (b : List Byte) (nor : Bool), i.wellFormed = true → ringEntry i = some (b, nor) →
    b.length = 32 ∧ crc16 (b.take 30) = bytesAt b 30 2 ∧ commandOf b nor = some (exec i)
end

