-- ==== Sys2Proof/Laws/Bits.lean ====
section
/-! SUPPORT. The laws of bit fields and of byte order. -/

namespace Sys2Proof.Machine

theorem getLsbD_fieldMask (lo n j : Nat) : (fieldMask lo n).getLsbD j = (decide (j < 32) && decide (lo ≤ j) && decide (j < lo + n)) := by
  simp only [fieldMask, BitVec.getLsbD_ofNat, Nat.testBit_mul_two_pow, Nat.testBit_two_pow_sub_one]
  by_cases h1 : j < 32 <;> by_cases h2 : lo ≤ j <;> simp [h1, h2]; omega

/-- Bit `j` of a word with a field replaced. -/
theorem getLsbD_putField (w : Word) (lo n v j : Nat) (h : lo + n ≤ 32) :
    (putField w lo n v).getLsbD j = if lo ≤ j ∧ j < lo + n then v.testBit (j - lo) else w.getLsbD j := by
  simp only [putField, BitVec.getLsbD_or, BitVec.getLsbD_and, BitVec.getLsbD_not, getLsbD_fieldMask, BitVec.getLsbD_ofNat,
    Nat.testBit_mul_two_pow, Nat.testBit_mod_two_pow]
  by_cases h1 : j < 32
  · by_cases h2 : lo ≤ j <;> by_cases h3 : j < lo + n <;> simp [h1, h2, h3] <;> omega
  · have : w.getLsbD j = false := BitVec.getLsbD_of_ge w j (by omega)
    have h3 : ¬ (lo ≤ j ∧ j < lo + n) := by omega
    simp [h1, this, h3]

/-- A field reads what was put into it. -/
theorem fieldOf_putField_self (w : Word) (lo n v : Nat) (h : lo + n ≤ 32) : fieldOf (putField w lo n v) lo n = v % 2 ^ n := by
  apply Nat.eq_of_testBit_eq
  intro i
  rw [Nat.testBit_mod_two_pow]
  simp only [fieldOf]
  rw [BitVec.testBit_toNat, BitVec.getLsbD_extractLsb', getLsbD_putField _ _ _ _ _ h]
  by_cases hi : i < n <;> simp [hi]

/-- A field apart from the one replaced reads what it read. -/
theorem fieldOf_putField_other (w : Word) (lo n v lo' n' : Nat) (h : lo + n ≤ 32) (hd : lo' + n' ≤ lo ∨ lo + n ≤ lo') :
    fieldOf (putField w lo n v) lo' n' = fieldOf w lo' n' := by
  apply Nat.eq_of_testBit_eq
  intro i
  simp only [fieldOf]
  rw [BitVec.testBit_toNat, BitVec.testBit_toNat, BitVec.getLsbD_extractLsb', BitVec.getLsbD_extractLsb', getLsbD_putField _ _ _ _ _ h]
  by_cases hi : i < n'
  · have : ¬ (lo ≤ lo' + i ∧ lo' + i < lo + n) := by omega
    simp [this]
  · simp [hi]

/-- A bit outside the field replaced reads what it read. -/
theorem bitOf_putField_other (w : Word) (lo n v b : Nat) (h : lo + n ≤ 32) (hd : b < lo ∨ lo + n ≤ b) :
    bitOf (putField w lo n v) b = bitOf w b := by
  have : ¬ (lo ≤ b ∧ b < lo + n) := by omega
  simp [bitOf, getLsbD_putField _ _ _ _ _ h, this]

/-- A one-bit field reads as its bit. -/
theorem bitOf_putField_self (w : Word) (b v : Nat) (h : b < 32) : bitOf (putField w b 1 v) b = v.testBit 0 := by
  simp [bitOf, getLsbD_putField _ _ _ _ _ (show b + 1 ≤ 32 by omega)]

theorem fieldOf_lt (w : Word) (lo n : Nat) : fieldOf w lo n < 2 ^ n := BitVec.isLt _

/-- Little-endian bytes spell the number they were made from. -/
theorem ofLe_leBytes (n x : Nat) : ofLe (leBytes n x) = x % 256 ^ n := by
  induction n generalizing x with
  | zero => simp [leBytes, ofLe, Nat.mod_one]
  | succ n ih =>
    simp only [leBytes, ofLe, ih, BitVec.toNat_ofNat]
    have h1 := Nat.mod_mul_right_div_self x 256 (256 ^ n)
    have h2 := Nat.div_add_mod (x % (256 * 256 ^ n)) 256
    have h3 : x % (256 * 256 ^ n) % 256 = x % 256 := Nat.mod_mul_right_mod x 256 (256 ^ n)
    rw [show 256 ^ (n + 1) = 256 * 256 ^ n from Nat.pow_succ']
    omega

@[simp] theorem length_leBytes (n x : Nat) : (leBytes n x).length = n := by
  induction n generalizing x with
  | zero => rfl
  | succ n ih => simp [leBytes, ih]

end Sys2Proof.Machine
end

