-- ==== Sys2Proof/Laws/Table.lean ====
section
/-! SUPPORT. The laws of sparse tables: a read after a write, and that every operation keeps the canonical form. -/

namespace Sys2Proof.Machine

variable {α : Type}

theorem Table.get_after (d : Nat → α) (t : Table α) (k j : Nat) (h : k < j) : Table.get d (Table.after k t) j = Table.get d t j := by
  induction t with
  | nil => rfl
  | cons e r ih =>
    obtain ⟨k', v⟩ := e
    by_cases h1 : k' ≤ k
    · simp only [Table.after, h1, if_true, ih, Table.get]
      rw [if_neg (by omega), if_neg (by omega)]
    · simp [Table.after, h1]

theorem Table.get_after_self (d : Nat → α) (t : Table α) (k : Nat) : Table.get d (Table.after k t) k = d k := by
  induction t with
  | nil => rfl
  | cons e r ih =>
    obtain ⟨k', v⟩ := e
    by_cases h1 : k' ≤ k
    · simp only [Table.after, h1, if_true, ih]
    · simp only [Table.after, h1, if_false, Table.get]
      rw [if_pos (by omega)]

theorem Table.after_after (t : Table α) (k : Nat) : Table.after k (Table.after k t) = Table.after k t := by
  induction t with
  | nil => rfl
  | cons e r ih =>
    obtain ⟨k', v⟩ := e
    by_cases h1 : k' ≤ k
    · simp [Table.after, h1, ih]
    · simp [Table.after, h1]

variable [DecidableEq α]

/-- The key written reads the value written. -/
@[simp] theorem Table.get_set_self (d : Nat → α) (t : Table α) (k : Nat) (v : α) : Table.get d (Table.set d t k v) k = v := by
  induction t with
  | nil => by_cases h : v = d k <;> simp [Table.set, Table.get, h]
  | cons e r ih =>
    obtain ⟨k', v'⟩ := e
    simp only [Table.set]
    split
    · rename_i h1
      split
      · rename_i h2; simp [Table.get, h1, h2]
      · simp [Table.get]
    · split
      · split
        · rename_i h2; rw [Table.get_after_self]; exact h2.symm
        · simp [Table.get]
      · rename_i h1 h2; simp [Table.get, h1, h2, ih]

/-- Every other key reads what it read. -/
theorem Table.get_set_other (d : Nat → α) (t : Table α) (k j : Nat) (v : α) (hj : j ≠ k) :
    Table.get d (Table.set d t k v) j = Table.get d t j := by
  induction t with
  | nil =>
    simp only [Table.set]
    split
    · rfl
    · simp [Table.get, hj]
  | cons e r ih =>
    obtain ⟨k', v'⟩ := e
    simp only [Table.set]
    split
    · rename_i h1
      split
      · rfl
      · by_cases h3 : j < k
        · simp only [Table.get, h3, if_true]; rw [if_pos (by omega)]
        · simp [Table.get, h3, hj]
    · split
      · rename_i h1 h2
        subst h2
        by_cases h3 : j < k
        · split
          · have : Table.get d (Table.after k r) j = d j := by
              clear ih
              induction r with
              | nil => rfl
              | cons e r ih =>
                obtain ⟨k', v⟩ := e
                by_cases h1 : k' ≤ k
                · simp [Table.after, h1, ih]
                · simp only [Table.after, h1, if_false, Table.get]
                  rw [if_pos (by omega)]
            simp [Table.get, h3, this]
          · simp [Table.get, h3]
        · split
          · rw [Table.get_after _ _ _ _ (by omega)]; simp [Table.get, h3, hj]
          · simp only [Table.get, h3, hj, if_false]; rw [Table.get_after _ _ _ _ (by omega)]
      · rename_i h1 h2
        simp [Table.get, ih]

/-- A read after a write. -/
theorem Table.get_set (d : Nat → α) (t : Table α) (k j : Nat) (v : α) :
    Table.get d (Table.set d t k v) j = if j = k then v else Table.get d t j := by
  by_cases h : j = k
  · subst h; simp
  · simp [Table.get_set_other, h]

/-- The second of two writes to one key stands. -/
@[simp] theorem Table.set_set (d : Nat → α) (t : Table α) (k : Nat) (v w : α) :
    Table.set d (Table.set d t k v) k w = Table.set d t k w := by
  have aft : ∀ r : Table α, Table.set d (Table.after k r) k w = if w = d k then Table.after k r else (k, w) :: Table.after k r := by
    intro r
    induction r with
    | nil => rfl
    | cons e r ih =>
      obtain ⟨k', v'⟩ := e
      by_cases h1 : k' ≤ k
      · simp [Table.after, h1, ih]
      · simp only [Table.after, h1, if_false, Table.set]
        rw [if_pos (by omega)]
  induction t with
  | nil => by_cases h : v = d k <;> simp [Table.set, h, Table.after]
  | cons e r ih =>
    obtain ⟨k', v'⟩ := e
    by_cases h1 : k < k'
    · by_cases h2 : v = d k
      · simp [Table.set, h1, h2]
      · have h3 : Table.after k ((k', v') :: r) = (k', v') :: r := by
          simp only [Table.after]; rw [if_neg (by omega)]
        simp [Table.set, h1, h2, h3]
    · by_cases h2 : k = k'
      · by_cases h3 : v = d k
        · rw [show Table.set d ((k', v') :: r) k v = Table.after k r by simp only [Table.set]; rw [if_neg h1, if_pos h2, if_pos h3], aft]
          simp [Table.set, h2]
        · rw [show Table.set d ((k', v') :: r) k v = (k, v) :: Table.after k r by simp only [Table.set]; rw [if_neg h1, if_pos h2, if_neg h3]]
          simp only [Table.set, Nat.lt_irrefl, if_false, if_true, Table.after_after]
          rw [if_neg h1, if_pos h2]
      · simp [Table.set, h1, h2, ih]

theorem Table.above_weaken (d : Nat → α) (t : Table α) (b k : Nat) (hb : b ≤ k) (h : Table.above d (some k) t = true) :
    Table.above d (some b) t = true := by
  cases t with
  | nil => rfl
  | cons e r =>
    obtain ⟨k', v'⟩ := e
    simp only [Table.above, Bool.and_eq_true] at h ⊢
    exact ⟨⟨by simp [Table.beyond] at h ⊢; omega, h.1.2⟩, h.2⟩

theorem Table.above_none (d : Nat → α) (t : Table α) (k : Nat) (h : Table.above d (some k) t = true) :
    Table.above d none t = true := by
  cases t with
  | nil => rfl
  | cons e r =>
    obtain ⟨k', v'⟩ := e
    simp only [Table.above, Bool.and_eq_true] at h ⊢
    exact ⟨⟨rfl, h.1.2⟩, h.2⟩

theorem Table.above_after (d : Nat → α) (t : Table α) (b : Option Nat) (k : Nat) (h : Table.above d b t = true) :
    Table.above d (some k) (Table.after k t) = true := by
  induction t generalizing b with
  | nil => rfl
  | cons e r ih =>
    obtain ⟨k', v'⟩ := e
    simp only [Table.above, Bool.and_eq_true] at h
    by_cases h1 : k' ≤ k
    · simpa [Table.after, h1] using ih _ h.2
    · simp only [Table.after, h1, if_false, Table.above, Bool.and_eq_true]
      exact ⟨⟨by simp [Table.beyond] at h ⊢; omega, h.1.2⟩, h.2⟩

theorem Table.low_ok (b : Option Nat) (k : Nat) (hk : ∀ x, b = some x → x < k) :
    Table.beyond b k = true := by
  cases b with
  | none => rfl
  | some x => simpa [Table.beyond] using hk x rfl

theorem Table.above_set (d : Nat → α) (t : Table α) (b : Option Nat) (k : Nat) (v : α) (hk : ∀ x, b = some x → x < k)
    (h : Table.above d b t = true) : Table.above d b (Table.set d t k v) = true := by
  have low := Table.low_ok b k hk
  have bound : ∀ r : Table α, Table.above d (some k) r = true → Table.above d b r = true := by
    intro r hr
    cases b with
    | none => exact Table.above_none d r k hr
    | some x => exact Table.above_weaken d r x k (Nat.le_of_lt (hk x rfl)) hr
  induction t generalizing b with
  | nil =>
    simp only [Table.set]
    split
    · rfl
    · rename_i h1; simp only [Table.above, Bool.and_eq_true, Bool.not_eq_true', decide_eq_false_iff_not]; exact ⟨⟨low, h1⟩, trivial⟩
  | cons e r ih =>
    obtain ⟨k', v'⟩ := e
    have h0 := h
    simp only [Table.above, Bool.and_eq_true] at h
    simp only [Table.set]
    split
    · rename_i h1
      split
      · exact h0
      · rename_i h2
        simp only [Table.above, Bool.and_eq_true, Bool.not_eq_true', decide_eq_false_iff_not]
        exact ⟨⟨low, h2⟩, ⟨by simpa [Table.beyond] using h1, by simpa using h.1.2⟩, h.2⟩
    · split
      · rename_i h1 h2
        have ha := Table.above_after d r _ k h.2
        split
        · exact bound _ ha
        · rename_i h3
          simp only [Table.above, Bool.and_eq_true, Bool.not_eq_true', decide_eq_false_iff_not]
          exact ⟨⟨low, h3⟩, ha⟩
      · rename_i h1 h2
        simp only [Table.above, Bool.and_eq_true]
        have hlt : k' < k := by omega
        exact ⟨h.1, ih (some k') (by intro x hx; cases hx; exact hlt) h.2 (by simpa [Table.beyond] using hlt)
          (fun r' hr' => Table.above_weaken d r' k' k (Nat.le_of_lt hlt) hr')⟩

/-- A write keeps the canonical form. -/
theorem Table.wf_set (d : Nat → α) (t : Table α) (k : Nat) (v : α) (h : Table.wf d t = true) : Table.wf d (Table.set d t k v) = true :=
  Table.above_set d t none k v (by simp) h

/-- Dropping entries keeps the canonical form. -/
theorem Table.above_filter (d : Nat → α) (t : Table α) (p : Nat × α → Bool) (b : Option Nat) (h : Table.above d b t = true) :
    Table.above d b (t.filter p) = true := by
  induction t generalizing b with
  | nil => rfl
  | cons e r ih =>
    obtain ⟨k, v⟩ := e
    simp only [Table.above, Bool.and_eq_true] at h
    have h2 := ih _ h.2
    by_cases hp : p (k, v)
    · simp only [List.filter, hp, Table.above, Bool.and_eq_true]; exact ⟨h.1, h2⟩
    · simp only [List.filter, hp]
      cases b with
      | none => exact Table.above_none d _ k h2
      | some x => exact Table.above_weaken d _ x k (Nat.le_of_lt (by simpa [Table.beyond] using h.1.1)) h2

theorem Table.wf_filter (d : Nat → α) (t : Table α) (p : Nat × α → Bool) (h : Table.wf d t = true) : Table.wf d (t.filter p) = true :=
  Table.above_filter d t p none h

end Sys2Proof.Machine
end

