-- ==== Sys2Proof/Laws/Memory.lean ====
section
/-! SUPPORT. The laws of the Shed (R258): what a byte reads after a store, and that a store keeps the canonical form. -/

namespace Sys2Proof.Machine

/-- A store keeps the canonical form. -/
theorem Memory.wf_store (m : Memory) (a : Nat) (l : List Byte) (h : Memory.wf m = true) : Memory.wf (Memory.store m a l) = true := by
  induction l generalizing m a with
  | nil => exact h
  | cons b r ih => exact ih _ _ (Table.wf_set _ _ _ _ h)

/-- Dropping cells keeps the canonical form. -/
theorem Memory.wf_filter (m : Memory) (p : Host.Cell → Bool) (h : Memory.wf m = true) : Memory.wf (m.filter p) = true :=
  Table.wf_filter _ _ p h

/-- A byte below the address stored to reads what it read. -/
theorem Memory.get_store_below (m : Memory) (a : Nat) (l : List Byte) (x : Nat) (h : x < a) :
    Table.get unlistedByte (Memory.store m a l) x = Table.get unlistedByte m x := by
  induction l generalizing m a with
  | nil => rfl
  | cons b r ih =>
    rw [Memory.store, ih _ _ (by omega), Table.get_set_other _ _ _ _ _ (by omega)]

/-- A byte past the stored bytes reads what it read. -/
theorem Memory.get_store_past (m : Memory) (a : Nat) (l : List Byte) (x : Nat) (h : a + l.length ≤ x) :
    Table.get unlistedByte (Memory.store m a l) x = Table.get unlistedByte m x := by
  induction l generalizing m a with
  | nil => rfl
  | cons b r ih =>
    simp only [List.length_cons] at h
    rw [Memory.store, ih _ _ (by omega), Table.get_set_other _ _ _ _ _ (by omega)]

/-- A stored byte reads what was stored. -/
theorem Memory.get_store_at (m : Memory) (a : Nat) (l : List Byte) (i : Nat) (h : i < l.length) :
    Table.get unlistedByte (Memory.store m a l) (a + i) = l[i] := by
  induction l generalizing m a i with
  | nil => simp at h
  | cons b r ih =>
    cases i with
    | zero => rw [Memory.store, Memory.get_store_below _ _ _ _ (by omega)]; simp
    | succ j =>
      have := ih (Table.set unlistedByte m a b) (a + 1) j (by simpa using h)
      simpa [Memory.store, Nat.add_assoc, Nat.add_comm 1 j] using this

theorem Core.shedByte_shedWrite_at (c : Core) (a : Nat) (l : List Byte) (i : Nat) (h : i < l.length) :
    (c.shedWrite a l).shedByte (a + i) = l[i] := Memory.get_store_at _ _ _ _ h

theorem Core.shedByte_shedWrite_other (c : Core) (a : Nat) (l : List Byte) (x : Nat) (h : x < a ∨ a + l.length ≤ x) :
    (c.shedWrite a l).shedByte x = c.shedByte x := by
  rcases h with h | h
  · exact Memory.get_store_below _ _ _ _ h
  · exact Memory.get_store_past _ _ _ _ h

@[simp] theorem Core.length_shedRead (c : Core) (a n : Nat) : (c.shedRead a n).length = n := by
  induction n generalizing a with
  | zero => rfl
  | succ n ih => simp [Core.shedRead, ih]

theorem Core.getElem_shedRead (c : Core) (a n i : Nat) (h : i < (c.shedRead a n).length) :
    (c.shedRead a n)[i] = c.shedByte (a + i) := by
  induction n generalizing a i with
  | zero => simp at h
  | succ n ih =>
    cases i with
    | zero => rfl
    | succ j =>
      have := ih (a + 1) j (by simpa using h)
      simpa [Core.shedRead, Nat.add_assoc, Nat.add_comm 1 j] using this

end Sys2Proof.Machine
end

