-- ==== Sys2Proof/Laws/State.lean ====
section
/-! SUPPORT. One lemma per field and primitive update of the device: what the update leaves as it was. -/

namespace Sys2Proof.Machine

@[simp] theorem Core.setReg_now (c : Core) (a : Nat) (v : Word) : (c.setReg a v).now = c.now := rfl
@[simp] theorem Core.setReg_yardRuns (c : Core) (a : Nat) (v : Word) : (c.setReg a v).yardRuns = c.yardRuns := rfl
@[simp] theorem Core.setReg_drawn (c : Core) (a : Nat) (v : Word) : (c.setReg a v).drawn = c.drawn := rfl
@[simp] theorem Core.setReg_out (c : Core) (a : Nat) (v : Word) : (c.setReg a v).out = c.out := rfl
@[simp] theorem Core.setReg_hwSet (c : Core) (a : Nat) (v : Word) : (c.setReg a v).hwSet = c.hwSet := rfl
@[simp] theorem Core.setReg_posted (c : Core) (a : Nat) (v : Word) : (c.setReg a v).posted = c.posted := rfl
@[simp] theorem Core.setReg_applied (c : Core) (a : Nat) (v : Word) : (c.setReg a v).applied = c.applied := rfl
@[simp] theorem Core.setReg_goLatch (c : Core) (a : Nat) (v : Word) : (c.setReg a v).goLatch = c.goLatch := rfl
@[simp] theorem Core.setReg_eoi (c : Core) (a : Nat) (v : Word) : (c.setReg a v).eoi = c.eoi := rfl
@[simp] theorem Core.setReg_frozen (c : Core) (a : Nat) (v : Word) : (c.setReg a v).frozen = c.frozen := rfl
@[simp] theorem Core.setReg_captured (c : Core) (a : Nat) (v : Word) : (c.setReg a v).captured = c.captured := rfl
@[simp] theorem Core.setReg_linkUp (c : Core) (a : Nat) (v : Word) : (c.setReg a v).linkUp = c.linkUp := rfl
@[simp] theorem Core.setReg_busMaster (c : Core) (a : Nat) (v : Word) : (c.setReg a v).busMaster = c.busMaster := rfl
@[simp] theorem Core.setReg_unmasked (c : Core) (a : Nat) (v : Word) : (c.setReg a v).unmasked = c.unmasked := rfl
@[simp] theorem Core.setReg_vecPend (c : Core) (a : Nat) (v : Word) : (c.setReg a v).vecPend = c.vecPend := rfl
@[simp] theorem Core.setReg_again (c : Core) (a : Nat) (v : Word) : (c.setReg a v).again = c.again := rfl
@[simp] theorem Core.setReg_bar2Log (c : Core) (a : Nat) (v : Word) : (c.setReg a v).bar2Log = c.bar2Log := rfl
@[simp] theorem Core.setReg_tracks (c : Core) (a : Nat) (v : Word) : (c.setReg a v).tracks = c.tracks := rfl
@[simp] theorem Core.setReg_tt (c : Core) (a : Nat) (v : Word) : (c.setReg a v).tt = c.tt := rfl
@[simp] theorem Core.setReg_made (c : Core) (a : Nat) (v : Word) : (c.setReg a v).made = c.made := rfl
@[simp] theorem Core.setReg_queues (c : Core) (a : Nat) (v : Word) : (c.setReg a v).queues = c.queues := rfl
@[simp] theorem Core.setReg_fetched (c : Core) (a : Nat) (v : Word) : (c.setReg a v).fetched = c.fetched := rfl
@[simp] theorem Core.setReg_inflight (c : Core) (a : Nat) (v : Word) : (c.setReg a v).inflight = c.inflight := rfl
@[simp] theorem Core.setReg_awaits (c : Core) (a : Nat) (v : Word) : (c.setReg a v).awaits = c.awaits := rfl
@[simp] theorem Core.setReg_rearm (c : Core) (a : Nat) (v : Word) : (c.setReg a v).rearm = c.rearm := rfl
@[simp] theorem Core.setReg_ringWasFull (c : Core) (a : Nat) (v : Word) : (c.setReg a v).ringWasFull = c.ringWasFull := rfl
@[simp] theorem Core.setReg_shed (c : Core) (a : Nat) (v : Word) : (c.setReg a v).shed = c.shed := rfl
@[simp] theorem Core.setReg_shedBad (c : Core) (a : Nat) (v : Word) : (c.setReg a v).shedBad = c.shedBad := rfl
@[simp] theorem Core.setReg_shedCe (c : Core) (a : Nat) (v : Word) : (c.setReg a v).shedCe = c.shedCe := rfl
@[simp] theorem Core.setReg_stalls (c : Core) (a : Nat) (v : Word) : (c.setReg a v).stalls = c.stalls := rfl
@[simp] theorem Core.setReg_sched (c : Core) (a : Nat) (v : Word) : (c.setReg a v).sched = c.sched := rfl
@[simp] theorem Core.setReg_units (c : Core) (a : Nat) (v : Word) : (c.setReg a v).units = c.units := rfl
@[simp] theorem Core.setReg_checkSuspended (c : Core) (a : Nat) (v : Word) : (c.setReg a v).checkSuspended = c.checkSuspended := rfl
@[simp] theorem Core.setReg_scouts (c : Core) (a : Nat) (v : Word) : (c.setReg a v).scouts = c.scouts := rfl
@[simp] theorem Core.setReg_subs (c : Core) (a : Nat) (v : Word) : (c.setReg a v).subs = c.subs := rfl
@[simp] theorem Core.setReg_members (c : Core) (a : Nat) (v : Word) : (c.setReg a v).members = c.members := rfl
@[simp] theorem Core.setReg_bays (c : Core) (a : Nat) (v : Word) : (c.setReg a v).bays = c.bays := rfl
@[simp] theorem Core.setReg_pcieCap (c : Core) (a : Nat) (v : Word) : (c.setReg a v).pcieCap = c.pcieCap := rfl
@[simp] theorem Core.setReg_penStream (c : Core) (a : Nat) (v : Word) : (c.setReg a v).penStream = c.penStream := rfl
@[simp] theorem Core.setReg_penSince (c : Core) (a : Nat) (v : Word) : (c.setReg a v).penSince = c.penSince := rfl
@[simp] theorem Core.setReg_unitNext (c : Core) (a : Nat) (v : Word) : (c.setReg a v).unitNext = c.unitNext := rfl
@[simp] theorem Core.setReg_rfs (c : Core) (a : Nat) (v : Word) : (c.setReg a v).rfs = c.rfs := rfl
@[simp] theorem Core.setReg_fm (c : Core) (a : Nat) (v : Word) : (c.setReg a v).fm = c.fm := rfl
@[simp] theorem Core.setReg_am (c : Core) (a : Nat) (v : Word) : (c.setReg a v).am = c.am := rfl
@[simp] theorem Core.setReg_dab (c : Core) (a : Nat) (v : Word) : (c.setReg a v).dab = c.dab := rfl
@[simp] theorem Core.setReg_drm (c : Core) (a : Nat) (v : Word) : (c.setReg a v).drm = c.drm := rfl
@[simp] theorem Core.setReg_tc (c : Core) (a : Nat) (v : Word) : (c.setReg a v).tc = c.tc := rfl
@[simp] theorem Core.setReg_check (c : Core) (a : Nat) (v : Word) : (c.setReg a v).check = c.check := rfl
@[simp] theorem Core.setReg_decs (c : Core) (a : Nat) (v : Word) : (c.setReg a v).decs = c.decs := rfl
@[simp] theorem Core.setReg_hoists (c : Core) (a : Nat) (v : Word) : (c.setReg a v).hoists = c.hoists := rfl
@[simp] theorem Core.setReg_measScout (c : Core) (a : Nat) (v : Word) : (c.setReg a v).measScout = c.measScout := rfl
@[simp] theorem Core.setReg_starved (c : Core) (a : Nat) (v : Word) : (c.setReg a v).starved = c.starved := rfl
@[simp] theorem Core.setReg_saps (c : Core) (a : Nat) (v : Word) : (c.setReg a v).saps = c.saps := rfl
@[simp] theorem Core.setReg_aess (c : Core) (a : Nat) (v : Word) : (c.setReg a v).aess = c.aess := rfl
@[simp] theorem Core.setReg_ptp (c : Core) (a : Nat) (v : Word) : (c.setReg a v).ptp = c.ptp := rfl
@[simp] theorem Core.setReg_penLost (c : Core) (a : Nat) (v : Word) : (c.setReg a v).penLost = c.penLost := rfl
@[simp] theorem Core.setReg_regions (c : Core) (a : Nat) (v : Word) : (c.setReg a v).regions = c.regions := rfl
@[simp] theorem Core.setReg_radio (c : Core) (a : Nat) (v : Word) : (c.setReg a v).radio = c.radio := rfl
@[simp] theorem Core.setReg_detectors (c : Core) (a : Nat) (v : Word) : (c.setReg a v).detectors = c.detectors := rfl
@[simp] theorem Core.setReg_link (c : Core) (a : Nat) (v : Word) : (c.setReg a v).link = c.link := rfl
@[simp] theorem Core.setReg_peers (c : Core) (a : Nat) (v : Word) : (c.setReg a v).peers = c.peers := rfl
@[simp] theorem Core.setReg_syn (c : Core) (a : Nat) (v : Word) : (c.setReg a v).syn = c.syn := rfl
@[simp] theorem Core.setReg_twb (c : Core) (a : Nat) (v : Word) : (c.setReg a v).twb = c.twb := rfl
@[simp] theorem Core.setReg_calPend (c : Core) (a : Nat) (v : Word) : (c.setReg a v).calPend = c.calPend := rfl
@[simp] theorem Core.setReg_cal (c : Core) (a : Nat) (v : Word) : (c.setReg a v).cal = c.cal := rfl
@[simp] theorem Core.setReg_start (c : Core) (a : Nat) (v : Word) : (c.setReg a v).start = c.start := rfl
@[simp] theorem Core.setReg_counts (c : Core) (a : Nat) (v : Word) : (c.setReg a v).counts = c.counts := rfl
@[simp] theorem Core.setReg_bins (c : Core) (a : Nat) (v : Word) : (c.setReg a v).bins = c.bins := rfl
@[simp] theorem Core.setReg_logJobs (c : Core) (a : Nat) (v : Word) : (c.setReg a v).logJobs = c.logJobs := rfl
@[simp] theorem Core.setReg_nv (c : Core) (a : Nat) (v : Word) : (c.setReg a v).nv = c.nv := rfl
@[simp] theorem Core.setReg_guard (c : Core) (a : Nat) (v : Word) : (c.setReg a v).guard = c.guard := rfl
@[simp] theorem Core.setReg_upd (c : Core) (a : Nat) (v : Word) : (c.setReg a v).upd = c.upd := rfl
@[simp] theorem Core.setReg_ste (c : Core) (a : Nat) (v : Word) : (c.setReg a v).ste = c.ste := rfl
@[simp] theorem Core.setReg_alertWord (c : Core) (a : Nat) (v : Word) : (c.setReg a v).alertWord = c.alertWord := rfl
@[simp] theorem Core.setReg_resets (c : Core) (a : Nat) (v : Word) : (c.setReg a v).resets = c.resets := rfl
@[simp] theorem Core.setReg_freezing (c : Core) (a : Nat) (v : Word) : (c.setReg a v).freezing = c.freezing := rfl
@[simp] theorem Core.setReg_pcieReads (c : Core) (a : Nat) (v : Word) : (c.setReg a v).pcieReads = c.pcieReads := rfl

@[simp] theorem Core.put_now (c : Core) (o : Output) : (c.put o).now = c.now := rfl
@[simp] theorem Core.put_yardRuns (c : Core) (o : Output) : (c.put o).yardRuns = c.yardRuns := rfl
@[simp] theorem Core.put_regs (c : Core) (o : Output) : (c.put o).regs = c.regs := rfl
@[simp] theorem Core.put_drawn (c : Core) (o : Output) : (c.put o).drawn = c.drawn := rfl
@[simp] theorem Core.put_hwSet (c : Core) (o : Output) : (c.put o).hwSet = c.hwSet := rfl
@[simp] theorem Core.put_posted (c : Core) (o : Output) : (c.put o).posted = c.posted := rfl
@[simp] theorem Core.put_applied (c : Core) (o : Output) : (c.put o).applied = c.applied := rfl
@[simp] theorem Core.put_goLatch (c : Core) (o : Output) : (c.put o).goLatch = c.goLatch := rfl
@[simp] theorem Core.put_eoi (c : Core) (o : Output) : (c.put o).eoi = c.eoi := rfl
@[simp] theorem Core.put_frozen (c : Core) (o : Output) : (c.put o).frozen = c.frozen := rfl
@[simp] theorem Core.put_captured (c : Core) (o : Output) : (c.put o).captured = c.captured := rfl
@[simp] theorem Core.put_linkUp (c : Core) (o : Output) : (c.put o).linkUp = c.linkUp := rfl
@[simp] theorem Core.put_busMaster (c : Core) (o : Output) : (c.put o).busMaster = c.busMaster := rfl
@[simp] theorem Core.put_unmasked (c : Core) (o : Output) : (c.put o).unmasked = c.unmasked := rfl
@[simp] theorem Core.put_vecPend (c : Core) (o : Output) : (c.put o).vecPend = c.vecPend := rfl
@[simp] theorem Core.put_again (c : Core) (o : Output) : (c.put o).again = c.again := rfl
@[simp] theorem Core.put_bar2Log (c : Core) (o : Output) : (c.put o).bar2Log = c.bar2Log := rfl
@[simp] theorem Core.put_tracks (c : Core) (o : Output) : (c.put o).tracks = c.tracks := rfl
@[simp] theorem Core.put_tt (c : Core) (o : Output) : (c.put o).tt = c.tt := rfl
@[simp] theorem Core.put_made (c : Core) (o : Output) : (c.put o).made = c.made := rfl
@[simp] theorem Core.put_queues (c : Core) (o : Output) : (c.put o).queues = c.queues := rfl
@[simp] theorem Core.put_fetched (c : Core) (o : Output) : (c.put o).fetched = c.fetched := rfl
@[simp] theorem Core.put_inflight (c : Core) (o : Output) : (c.put o).inflight = c.inflight := rfl
@[simp] theorem Core.put_awaits (c : Core) (o : Output) : (c.put o).awaits = c.awaits := rfl
@[simp] theorem Core.put_rearm (c : Core) (o : Output) : (c.put o).rearm = c.rearm := rfl
@[simp] theorem Core.put_ringWasFull (c : Core) (o : Output) : (c.put o).ringWasFull = c.ringWasFull := rfl
@[simp] theorem Core.put_shed (c : Core) (o : Output) : (c.put o).shed = c.shed := rfl
@[simp] theorem Core.put_shedBad (c : Core) (o : Output) : (c.put o).shedBad = c.shedBad := rfl
@[simp] theorem Core.put_shedCe (c : Core) (o : Output) : (c.put o).shedCe = c.shedCe := rfl
@[simp] theorem Core.put_stalls (c : Core) (o : Output) : (c.put o).stalls = c.stalls := rfl
@[simp] theorem Core.put_sched (c : Core) (o : Output) : (c.put o).sched = c.sched := rfl
@[simp] theorem Core.put_units (c : Core) (o : Output) : (c.put o).units = c.units := rfl
@[simp] theorem Core.put_checkSuspended (c : Core) (o : Output) : (c.put o).checkSuspended = c.checkSuspended := rfl
@[simp] theorem Core.put_scouts (c : Core) (o : Output) : (c.put o).scouts = c.scouts := rfl
@[simp] theorem Core.put_subs (c : Core) (o : Output) : (c.put o).subs = c.subs := rfl
@[simp] theorem Core.put_members (c : Core) (o : Output) : (c.put o).members = c.members := rfl
@[simp] theorem Core.put_bays (c : Core) (o : Output) : (c.put o).bays = c.bays := rfl
@[simp] theorem Core.put_pcieCap (c : Core) (o : Output) : (c.put o).pcieCap = c.pcieCap := rfl
@[simp] theorem Core.put_penStream (c : Core) (o : Output) : (c.put o).penStream = c.penStream := rfl
@[simp] theorem Core.put_penSince (c : Core) (o : Output) : (c.put o).penSince = c.penSince := rfl
@[simp] theorem Core.put_unitNext (c : Core) (o : Output) : (c.put o).unitNext = c.unitNext := rfl
@[simp] theorem Core.put_rfs (c : Core) (o : Output) : (c.put o).rfs = c.rfs := rfl
@[simp] theorem Core.put_fm (c : Core) (o : Output) : (c.put o).fm = c.fm := rfl
@[simp] theorem Core.put_am (c : Core) (o : Output) : (c.put o).am = c.am := rfl
@[simp] theorem Core.put_dab (c : Core) (o : Output) : (c.put o).dab = c.dab := rfl
@[simp] theorem Core.put_drm (c : Core) (o : Output) : (c.put o).drm = c.drm := rfl
@[simp] theorem Core.put_tc (c : Core) (o : Output) : (c.put o).tc = c.tc := rfl
@[simp] theorem Core.put_check (c : Core) (o : Output) : (c.put o).check = c.check := rfl
@[simp] theorem Core.put_decs (c : Core) (o : Output) : (c.put o).decs = c.decs := rfl
@[simp] theorem Core.put_hoists (c : Core) (o : Output) : (c.put o).hoists = c.hoists := rfl
@[simp] theorem Core.put_measScout (c : Core) (o : Output) : (c.put o).measScout = c.measScout := rfl
@[simp] theorem Core.put_starved (c : Core) (o : Output) : (c.put o).starved = c.starved := rfl
@[simp] theorem Core.put_saps (c : Core) (o : Output) : (c.put o).saps = c.saps := rfl
@[simp] theorem Core.put_aess (c : Core) (o : Output) : (c.put o).aess = c.aess := rfl
@[simp] theorem Core.put_ptp (c : Core) (o : Output) : (c.put o).ptp = c.ptp := rfl
@[simp] theorem Core.put_penLost (c : Core) (o : Output) : (c.put o).penLost = c.penLost := rfl
@[simp] theorem Core.put_regions (c : Core) (o : Output) : (c.put o).regions = c.regions := rfl
@[simp] theorem Core.put_radio (c : Core) (o : Output) : (c.put o).radio = c.radio := rfl
@[simp] theorem Core.put_detectors (c : Core) (o : Output) : (c.put o).detectors = c.detectors := rfl
@[simp] theorem Core.put_link (c : Core) (o : Output) : (c.put o).link = c.link := rfl
@[simp] theorem Core.put_peers (c : Core) (o : Output) : (c.put o).peers = c.peers := rfl
@[simp] theorem Core.put_syn (c : Core) (o : Output) : (c.put o).syn = c.syn := rfl
@[simp] theorem Core.put_twb (c : Core) (o : Output) : (c.put o).twb = c.twb := rfl
@[simp] theorem Core.put_calPend (c : Core) (o : Output) : (c.put o).calPend = c.calPend := rfl
@[simp] theorem Core.put_cal (c : Core) (o : Output) : (c.put o).cal = c.cal := rfl
@[simp] theorem Core.put_start (c : Core) (o : Output) : (c.put o).start = c.start := rfl
@[simp] theorem Core.put_counts (c : Core) (o : Output) : (c.put o).counts = c.counts := rfl
@[simp] theorem Core.put_bins (c : Core) (o : Output) : (c.put o).bins = c.bins := rfl
@[simp] theorem Core.put_logJobs (c : Core) (o : Output) : (c.put o).logJobs = c.logJobs := rfl
@[simp] theorem Core.put_nv (c : Core) (o : Output) : (c.put o).nv = c.nv := rfl
@[simp] theorem Core.put_guard (c : Core) (o : Output) : (c.put o).guard = c.guard := rfl
@[simp] theorem Core.put_upd (c : Core) (o : Output) : (c.put o).upd = c.upd := rfl
@[simp] theorem Core.put_ste (c : Core) (o : Output) : (c.put o).ste = c.ste := rfl
@[simp] theorem Core.put_alertWord (c : Core) (o : Output) : (c.put o).alertWord = c.alertWord := rfl
@[simp] theorem Core.put_resets (c : Core) (o : Output) : (c.put o).resets = c.resets := rfl
@[simp] theorem Core.put_freezing (c : Core) (o : Output) : (c.put o).freezing = c.freezing := rfl
@[simp] theorem Core.put_pcieReads (c : Core) (o : Output) : (c.put o).pcieReads = c.pcieReads := rfl

@[simp] theorem Core.hwFlags_now (c : Core) (a : Nat) (bits : Word) : (c.hwFlags a bits).now = c.now := rfl
@[simp] theorem Core.hwFlags_yardRuns (c : Core) (a : Nat) (bits : Word) : (c.hwFlags a bits).yardRuns = c.yardRuns := rfl
@[simp] theorem Core.hwFlags_drawn (c : Core) (a : Nat) (bits : Word) : (c.hwFlags a bits).drawn = c.drawn := rfl
@[simp] theorem Core.hwFlags_out (c : Core) (a : Nat) (bits : Word) : (c.hwFlags a bits).out = c.out := rfl
@[simp] theorem Core.hwFlags_posted (c : Core) (a : Nat) (bits : Word) : (c.hwFlags a bits).posted = c.posted := rfl
@[simp] theorem Core.hwFlags_applied (c : Core) (a : Nat) (bits : Word) : (c.hwFlags a bits).applied = c.applied := rfl
@[simp] theorem Core.hwFlags_goLatch (c : Core) (a : Nat) (bits : Word) : (c.hwFlags a bits).goLatch = c.goLatch := rfl
@[simp] theorem Core.hwFlags_eoi (c : Core) (a : Nat) (bits : Word) : (c.hwFlags a bits).eoi = c.eoi := rfl
@[simp] theorem Core.hwFlags_frozen (c : Core) (a : Nat) (bits : Word) : (c.hwFlags a bits).frozen = c.frozen := rfl
@[simp] theorem Core.hwFlags_captured (c : Core) (a : Nat) (bits : Word) : (c.hwFlags a bits).captured = c.captured := rfl
@[simp] theorem Core.hwFlags_linkUp (c : Core) (a : Nat) (bits : Word) : (c.hwFlags a bits).linkUp = c.linkUp := rfl
@[simp] theorem Core.hwFlags_busMaster (c : Core) (a : Nat) (bits : Word) : (c.hwFlags a bits).busMaster = c.busMaster := rfl
@[simp] theorem Core.hwFlags_unmasked (c : Core) (a : Nat) (bits : Word) : (c.hwFlags a bits).unmasked = c.unmasked := rfl
@[simp] theorem Core.hwFlags_vecPend (c : Core) (a : Nat) (bits : Word) : (c.hwFlags a bits).vecPend = c.vecPend := rfl
@[simp] theorem Core.hwFlags_again (c : Core) (a : Nat) (bits : Word) : (c.hwFlags a bits).again = c.again := rfl
@[simp] theorem Core.hwFlags_bar2Log (c : Core) (a : Nat) (bits : Word) : (c.hwFlags a bits).bar2Log = c.bar2Log := rfl
@[simp] theorem Core.hwFlags_tracks (c : Core) (a : Nat) (bits : Word) : (c.hwFlags a bits).tracks = c.tracks := rfl
@[simp] theorem Core.hwFlags_tt (c : Core) (a : Nat) (bits : Word) : (c.hwFlags a bits).tt = c.tt := rfl
@[simp] theorem Core.hwFlags_made (c : Core) (a : Nat) (bits : Word) : (c.hwFlags a bits).made = c.made := rfl
@[simp] theorem Core.hwFlags_queues (c : Core) (a : Nat) (bits : Word) : (c.hwFlags a bits).queues = c.queues := rfl
@[simp] theorem Core.hwFlags_fetched (c : Core) (a : Nat) (bits : Word) : (c.hwFlags a bits).fetched = c.fetched := rfl
@[simp] theorem Core.hwFlags_inflight (c : Core) (a : Nat) (bits : Word) : (c.hwFlags a bits).inflight = c.inflight := rfl
@[simp] theorem Core.hwFlags_awaits (c : Core) (a : Nat) (bits : Word) : (c.hwFlags a bits).awaits = c.awaits := rfl
@[simp] theorem Core.hwFlags_rearm (c : Core) (a : Nat) (bits : Word) : (c.hwFlags a bits).rearm = c.rearm := rfl
@[simp] theorem Core.hwFlags_ringWasFull (c : Core) (a : Nat) (bits : Word) : (c.hwFlags a bits).ringWasFull = c.ringWasFull := rfl
@[simp] theorem Core.hwFlags_shed (c : Core) (a : Nat) (bits : Word) : (c.hwFlags a bits).shed = c.shed := rfl
@[simp] theorem Core.hwFlags_shedBad (c : Core) (a : Nat) (bits : Word) : (c.hwFlags a bits).shedBad = c.shedBad := rfl
@[simp] theorem Core.hwFlags_shedCe (c : Core) (a : Nat) (bits : Word) : (c.hwFlags a bits).shedCe = c.shedCe := rfl
@[simp] theorem Core.hwFlags_stalls (c : Core) (a : Nat) (bits : Word) : (c.hwFlags a bits).stalls = c.stalls := rfl
@[simp] theorem Core.hwFlags_sched (c : Core) (a : Nat) (bits : Word) : (c.hwFlags a bits).sched = c.sched := rfl
@[simp] theorem Core.hwFlags_units (c : Core) (a : Nat) (bits : Word) : (c.hwFlags a bits).units = c.units := rfl
@[simp] theorem Core.hwFlags_checkSuspended (c : Core) (a : Nat) (bits : Word) : (c.hwFlags a bits).checkSuspended = c.checkSuspended := rfl
@[simp] theorem Core.hwFlags_scouts (c : Core) (a : Nat) (bits : Word) : (c.hwFlags a bits).scouts = c.scouts := rfl
@[simp] theorem Core.hwFlags_subs (c : Core) (a : Nat) (bits : Word) : (c.hwFlags a bits).subs = c.subs := rfl
@[simp] theorem Core.hwFlags_members (c : Core) (a : Nat) (bits : Word) : (c.hwFlags a bits).members = c.members := rfl
@[simp] theorem Core.hwFlags_bays (c : Core) (a : Nat) (bits : Word) : (c.hwFlags a bits).bays = c.bays := rfl
@[simp] theorem Core.hwFlags_pcieCap (c : Core) (a : Nat) (bits : Word) : (c.hwFlags a bits).pcieCap = c.pcieCap := rfl
@[simp] theorem Core.hwFlags_penStream (c : Core) (a : Nat) (bits : Word) : (c.hwFlags a bits).penStream = c.penStream := rfl
@[simp] theorem Core.hwFlags_penSince (c : Core) (a : Nat) (bits : Word) : (c.hwFlags a bits).penSince = c.penSince := rfl
@[simp] theorem Core.hwFlags_unitNext (c : Core) (a : Nat) (bits : Word) : (c.hwFlags a bits).unitNext = c.unitNext := rfl
@[simp] theorem Core.hwFlags_rfs (c : Core) (a : Nat) (bits : Word) : (c.hwFlags a bits).rfs = c.rfs := rfl
@[simp] theorem Core.hwFlags_fm (c : Core) (a : Nat) (bits : Word) : (c.hwFlags a bits).fm = c.fm := rfl
@[simp] theorem Core.hwFlags_am (c : Core) (a : Nat) (bits : Word) : (c.hwFlags a bits).am = c.am := rfl
@[simp] theorem Core.hwFlags_dab (c : Core) (a : Nat) (bits : Word) : (c.hwFlags a bits).dab = c.dab := rfl
@[simp] theorem Core.hwFlags_drm (c : Core) (a : Nat) (bits : Word) : (c.hwFlags a bits).drm = c.drm := rfl
@[simp] theorem Core.hwFlags_tc (c : Core) (a : Nat) (bits : Word) : (c.hwFlags a bits).tc = c.tc := rfl
@[simp] theorem Core.hwFlags_check (c : Core) (a : Nat) (bits : Word) : (c.hwFlags a bits).check = c.check := rfl
@[simp] theorem Core.hwFlags_decs (c : Core) (a : Nat) (bits : Word) : (c.hwFlags a bits).decs = c.decs := rfl
@[simp] theorem Core.hwFlags_hoists (c : Core) (a : Nat) (bits : Word) : (c.hwFlags a bits).hoists = c.hoists := rfl
@[simp] theorem Core.hwFlags_measScout (c : Core) (a : Nat) (bits : Word) : (c.hwFlags a bits).measScout = c.measScout := rfl
@[simp] theorem Core.hwFlags_starved (c : Core) (a : Nat) (bits : Word) : (c.hwFlags a bits).starved = c.starved := rfl
@[simp] theorem Core.hwFlags_saps (c : Core) (a : Nat) (bits : Word) : (c.hwFlags a bits).saps = c.saps := rfl
@[simp] theorem Core.hwFlags_aess (c : Core) (a : Nat) (bits : Word) : (c.hwFlags a bits).aess = c.aess := rfl
@[simp] theorem Core.hwFlags_ptp (c : Core) (a : Nat) (bits : Word) : (c.hwFlags a bits).ptp = c.ptp := rfl
@[simp] theorem Core.hwFlags_penLost (c : Core) (a : Nat) (bits : Word) : (c.hwFlags a bits).penLost = c.penLost := rfl
@[simp] theorem Core.hwFlags_regions (c : Core) (a : Nat) (bits : Word) : (c.hwFlags a bits).regions = c.regions := rfl
@[simp] theorem Core.hwFlags_radio (c : Core) (a : Nat) (bits : Word) : (c.hwFlags a bits).radio = c.radio := rfl
@[simp] theorem Core.hwFlags_detectors (c : Core) (a : Nat) (bits : Word) : (c.hwFlags a bits).detectors = c.detectors := rfl
@[simp] theorem Core.hwFlags_link (c : Core) (a : Nat) (bits : Word) : (c.hwFlags a bits).link = c.link := rfl
@[simp] theorem Core.hwFlags_peers (c : Core) (a : Nat) (bits : Word) : (c.hwFlags a bits).peers = c.peers := rfl
@[simp] theorem Core.hwFlags_syn (c : Core) (a : Nat) (bits : Word) : (c.hwFlags a bits).syn = c.syn := rfl
@[simp] theorem Core.hwFlags_twb (c : Core) (a : Nat) (bits : Word) : (c.hwFlags a bits).twb = c.twb := rfl
@[simp] theorem Core.hwFlags_calPend (c : Core) (a : Nat) (bits : Word) : (c.hwFlags a bits).calPend = c.calPend := rfl
@[simp] theorem Core.hwFlags_cal (c : Core) (a : Nat) (bits : Word) : (c.hwFlags a bits).cal = c.cal := rfl
@[simp] theorem Core.hwFlags_start (c : Core) (a : Nat) (bits : Word) : (c.hwFlags a bits).start = c.start := rfl
@[simp] theorem Core.hwFlags_counts (c : Core) (a : Nat) (bits : Word) : (c.hwFlags a bits).counts = c.counts := rfl
@[simp] theorem Core.hwFlags_bins (c : Core) (a : Nat) (bits : Word) : (c.hwFlags a bits).bins = c.bins := rfl
@[simp] theorem Core.hwFlags_logJobs (c : Core) (a : Nat) (bits : Word) : (c.hwFlags a bits).logJobs = c.logJobs := rfl
@[simp] theorem Core.hwFlags_nv (c : Core) (a : Nat) (bits : Word) : (c.hwFlags a bits).nv = c.nv := rfl
@[simp] theorem Core.hwFlags_guard (c : Core) (a : Nat) (bits : Word) : (c.hwFlags a bits).guard = c.guard := rfl
@[simp] theorem Core.hwFlags_upd (c : Core) (a : Nat) (bits : Word) : (c.hwFlags a bits).upd = c.upd := rfl
@[simp] theorem Core.hwFlags_ste (c : Core) (a : Nat) (bits : Word) : (c.hwFlags a bits).ste = c.ste := rfl
@[simp] theorem Core.hwFlags_alertWord (c : Core) (a : Nat) (bits : Word) : (c.hwFlags a bits).alertWord = c.alertWord := rfl
@[simp] theorem Core.hwFlags_resets (c : Core) (a : Nat) (bits : Word) : (c.hwFlags a bits).resets = c.resets := rfl
@[simp] theorem Core.hwFlags_freezing (c : Core) (a : Nat) (bits : Word) : (c.hwFlags a bits).freezing = c.freezing := rfl
@[simp] theorem Core.hwFlags_pcieReads (c : Core) (a : Nat) (bits : Word) : (c.hwFlags a bits).pcieReads = c.pcieReads := rfl

@[simp] theorem Core.tally_now (c : Core) (i k : Nat) : (c.tally i k).now = c.now := rfl
@[simp] theorem Core.tally_yardRuns (c : Core) (i k : Nat) : (c.tally i k).yardRuns = c.yardRuns := rfl
@[simp] theorem Core.tally_regs (c : Core) (i k : Nat) : (c.tally i k).regs = c.regs := rfl
@[simp] theorem Core.tally_drawn (c : Core) (i k : Nat) : (c.tally i k).drawn = c.drawn := rfl
@[simp] theorem Core.tally_out (c : Core) (i k : Nat) : (c.tally i k).out = c.out := rfl
@[simp] theorem Core.tally_hwSet (c : Core) (i k : Nat) : (c.tally i k).hwSet = c.hwSet := rfl
@[simp] theorem Core.tally_posted (c : Core) (i k : Nat) : (c.tally i k).posted = c.posted := rfl
@[simp] theorem Core.tally_applied (c : Core) (i k : Nat) : (c.tally i k).applied = c.applied := rfl
@[simp] theorem Core.tally_goLatch (c : Core) (i k : Nat) : (c.tally i k).goLatch = c.goLatch := rfl
@[simp] theorem Core.tally_eoi (c : Core) (i k : Nat) : (c.tally i k).eoi = c.eoi := rfl
@[simp] theorem Core.tally_frozen (c : Core) (i k : Nat) : (c.tally i k).frozen = c.frozen := rfl
@[simp] theorem Core.tally_captured (c : Core) (i k : Nat) : (c.tally i k).captured = c.captured := rfl
@[simp] theorem Core.tally_linkUp (c : Core) (i k : Nat) : (c.tally i k).linkUp = c.linkUp := rfl
@[simp] theorem Core.tally_busMaster (c : Core) (i k : Nat) : (c.tally i k).busMaster = c.busMaster := rfl
@[simp] theorem Core.tally_unmasked (c : Core) (i k : Nat) : (c.tally i k).unmasked = c.unmasked := rfl
@[simp] theorem Core.tally_vecPend (c : Core) (i k : Nat) : (c.tally i k).vecPend = c.vecPend := rfl
@[simp] theorem Core.tally_again (c : Core) (i k : Nat) : (c.tally i k).again = c.again := rfl
@[simp] theorem Core.tally_bar2Log (c : Core) (i k : Nat) : (c.tally i k).bar2Log = c.bar2Log := rfl
@[simp] theorem Core.tally_tracks (c : Core) (i k : Nat) : (c.tally i k).tracks = c.tracks := rfl
@[simp] theorem Core.tally_tt (c : Core) (i k : Nat) : (c.tally i k).tt = c.tt := rfl
@[simp] theorem Core.tally_made (c : Core) (i k : Nat) : (c.tally i k).made = c.made := rfl
@[simp] theorem Core.tally_queues (c : Core) (i k : Nat) : (c.tally i k).queues = c.queues := rfl
@[simp] theorem Core.tally_fetched (c : Core) (i k : Nat) : (c.tally i k).fetched = c.fetched := rfl
@[simp] theorem Core.tally_inflight (c : Core) (i k : Nat) : (c.tally i k).inflight = c.inflight := rfl
@[simp] theorem Core.tally_awaits (c : Core) (i k : Nat) : (c.tally i k).awaits = c.awaits := rfl
@[simp] theorem Core.tally_rearm (c : Core) (i k : Nat) : (c.tally i k).rearm = c.rearm := rfl
@[simp] theorem Core.tally_ringWasFull (c : Core) (i k : Nat) : (c.tally i k).ringWasFull = c.ringWasFull := rfl
@[simp] theorem Core.tally_shed (c : Core) (i k : Nat) : (c.tally i k).shed = c.shed := rfl
@[simp] theorem Core.tally_shedBad (c : Core) (i k : Nat) : (c.tally i k).shedBad = c.shedBad := rfl
@[simp] theorem Core.tally_shedCe (c : Core) (i k : Nat) : (c.tally i k).shedCe = c.shedCe := rfl
@[simp] theorem Core.tally_stalls (c : Core) (i k : Nat) : (c.tally i k).stalls = c.stalls := rfl
@[simp] theorem Core.tally_sched (c : Core) (i k : Nat) : (c.tally i k).sched = c.sched := rfl
@[simp] theorem Core.tally_units (c : Core) (i k : Nat) : (c.tally i k).units = c.units := rfl
@[simp] theorem Core.tally_checkSuspended (c : Core) (i k : Nat) : (c.tally i k).checkSuspended = c.checkSuspended := rfl
@[simp] theorem Core.tally_scouts (c : Core) (i k : Nat) : (c.tally i k).scouts = c.scouts := rfl
@[simp] theorem Core.tally_subs (c : Core) (i k : Nat) : (c.tally i k).subs = c.subs := rfl
@[simp] theorem Core.tally_members (c : Core) (i k : Nat) : (c.tally i k).members = c.members := rfl
@[simp] theorem Core.tally_bays (c : Core) (i k : Nat) : (c.tally i k).bays = c.bays := rfl
@[simp] theorem Core.tally_pcieCap (c : Core) (i k : Nat) : (c.tally i k).pcieCap = c.pcieCap := rfl
@[simp] theorem Core.tally_penStream (c : Core) (i k : Nat) : (c.tally i k).penStream = c.penStream := rfl
@[simp] theorem Core.tally_penSince (c : Core) (i k : Nat) : (c.tally i k).penSince = c.penSince := rfl
@[simp] theorem Core.tally_unitNext (c : Core) (i k : Nat) : (c.tally i k).unitNext = c.unitNext := rfl
@[simp] theorem Core.tally_rfs (c : Core) (i k : Nat) : (c.tally i k).rfs = c.rfs := rfl
@[simp] theorem Core.tally_fm (c : Core) (i k : Nat) : (c.tally i k).fm = c.fm := rfl
@[simp] theorem Core.tally_am (c : Core) (i k : Nat) : (c.tally i k).am = c.am := rfl
@[simp] theorem Core.tally_dab (c : Core) (i k : Nat) : (c.tally i k).dab = c.dab := rfl
@[simp] theorem Core.tally_drm (c : Core) (i k : Nat) : (c.tally i k).drm = c.drm := rfl
@[simp] theorem Core.tally_tc (c : Core) (i k : Nat) : (c.tally i k).tc = c.tc := rfl
@[simp] theorem Core.tally_check (c : Core) (i k : Nat) : (c.tally i k).check = c.check := rfl
@[simp] theorem Core.tally_decs (c : Core) (i k : Nat) : (c.tally i k).decs = c.decs := rfl
@[simp] theorem Core.tally_hoists (c : Core) (i k : Nat) : (c.tally i k).hoists = c.hoists := rfl
@[simp] theorem Core.tally_measScout (c : Core) (i k : Nat) : (c.tally i k).measScout = c.measScout := rfl
@[simp] theorem Core.tally_starved (c : Core) (i k : Nat) : (c.tally i k).starved = c.starved := rfl
@[simp] theorem Core.tally_saps (c : Core) (i k : Nat) : (c.tally i k).saps = c.saps := rfl
@[simp] theorem Core.tally_aess (c : Core) (i k : Nat) : (c.tally i k).aess = c.aess := rfl
@[simp] theorem Core.tally_ptp (c : Core) (i k : Nat) : (c.tally i k).ptp = c.ptp := rfl
@[simp] theorem Core.tally_penLost (c : Core) (i k : Nat) : (c.tally i k).penLost = c.penLost := rfl
@[simp] theorem Core.tally_regions (c : Core) (i k : Nat) : (c.tally i k).regions = c.regions := rfl
@[simp] theorem Core.tally_radio (c : Core) (i k : Nat) : (c.tally i k).radio = c.radio := rfl
@[simp] theorem Core.tally_detectors (c : Core) (i k : Nat) : (c.tally i k).detectors = c.detectors := rfl
@[simp] theorem Core.tally_link (c : Core) (i k : Nat) : (c.tally i k).link = c.link := rfl
@[simp] theorem Core.tally_peers (c : Core) (i k : Nat) : (c.tally i k).peers = c.peers := rfl
@[simp] theorem Core.tally_syn (c : Core) (i k : Nat) : (c.tally i k).syn = c.syn := rfl
@[simp] theorem Core.tally_twb (c : Core) (i k : Nat) : (c.tally i k).twb = c.twb := rfl
@[simp] theorem Core.tally_calPend (c : Core) (i k : Nat) : (c.tally i k).calPend = c.calPend := rfl
@[simp] theorem Core.tally_cal (c : Core) (i k : Nat) : (c.tally i k).cal = c.cal := rfl
@[simp] theorem Core.tally_start (c : Core) (i k : Nat) : (c.tally i k).start = c.start := rfl
@[simp] theorem Core.tally_bins (c : Core) (i k : Nat) : (c.tally i k).bins = c.bins := rfl
@[simp] theorem Core.tally_logJobs (c : Core) (i k : Nat) : (c.tally i k).logJobs = c.logJobs := rfl
@[simp] theorem Core.tally_nv (c : Core) (i k : Nat) : (c.tally i k).nv = c.nv := rfl
@[simp] theorem Core.tally_guard (c : Core) (i k : Nat) : (c.tally i k).guard = c.guard := rfl
@[simp] theorem Core.tally_upd (c : Core) (i k : Nat) : (c.tally i k).upd = c.upd := rfl
@[simp] theorem Core.tally_ste (c : Core) (i k : Nat) : (c.tally i k).ste = c.ste := rfl
@[simp] theorem Core.tally_alertWord (c : Core) (i k : Nat) : (c.tally i k).alertWord = c.alertWord := rfl
@[simp] theorem Core.tally_resets (c : Core) (i k : Nat) : (c.tally i k).resets = c.resets := rfl
@[simp] theorem Core.tally_freezing (c : Core) (i k : Nat) : (c.tally i k).freezing = c.freezing := rfl
@[simp] theorem Core.tally_pcieReads (c : Core) (i k : Nat) : (c.tally i k).pcieReads = c.pcieReads := rfl

@[simp] theorem Core.tallyBin_now (c : Core) (h b : Nat) : (c.tallyBin h b).now = c.now := rfl
@[simp] theorem Core.tallyBin_yardRuns (c : Core) (h b : Nat) : (c.tallyBin h b).yardRuns = c.yardRuns := rfl
@[simp] theorem Core.tallyBin_regs (c : Core) (h b : Nat) : (c.tallyBin h b).regs = c.regs := rfl
@[simp] theorem Core.tallyBin_drawn (c : Core) (h b : Nat) : (c.tallyBin h b).drawn = c.drawn := rfl
@[simp] theorem Core.tallyBin_out (c : Core) (h b : Nat) : (c.tallyBin h b).out = c.out := rfl
@[simp] theorem Core.tallyBin_hwSet (c : Core) (h b : Nat) : (c.tallyBin h b).hwSet = c.hwSet := rfl
@[simp] theorem Core.tallyBin_posted (c : Core) (h b : Nat) : (c.tallyBin h b).posted = c.posted := rfl
@[simp] theorem Core.tallyBin_applied (c : Core) (h b : Nat) : (c.tallyBin h b).applied = c.applied := rfl
@[simp] theorem Core.tallyBin_goLatch (c : Core) (h b : Nat) : (c.tallyBin h b).goLatch = c.goLatch := rfl
@[simp] theorem Core.tallyBin_eoi (c : Core) (h b : Nat) : (c.tallyBin h b).eoi = c.eoi := rfl
@[simp] theorem Core.tallyBin_frozen (c : Core) (h b : Nat) : (c.tallyBin h b).frozen = c.frozen := rfl
@[simp] theorem Core.tallyBin_captured (c : Core) (h b : Nat) : (c.tallyBin h b).captured = c.captured := rfl
@[simp] theorem Core.tallyBin_linkUp (c : Core) (h b : Nat) : (c.tallyBin h b).linkUp = c.linkUp := rfl
@[simp] theorem Core.tallyBin_busMaster (c : Core) (h b : Nat) : (c.tallyBin h b).busMaster = c.busMaster := rfl
@[simp] theorem Core.tallyBin_unmasked (c : Core) (h b : Nat) : (c.tallyBin h b).unmasked = c.unmasked := rfl
@[simp] theorem Core.tallyBin_vecPend (c : Core) (h b : Nat) : (c.tallyBin h b).vecPend = c.vecPend := rfl
@[simp] theorem Core.tallyBin_again (c : Core) (h b : Nat) : (c.tallyBin h b).again = c.again := rfl
@[simp] theorem Core.tallyBin_bar2Log (c : Core) (h b : Nat) : (c.tallyBin h b).bar2Log = c.bar2Log := rfl
@[simp] theorem Core.tallyBin_tracks (c : Core) (h b : Nat) : (c.tallyBin h b).tracks = c.tracks := rfl
@[simp] theorem Core.tallyBin_tt (c : Core) (h b : Nat) : (c.tallyBin h b).tt = c.tt := rfl
@[simp] theorem Core.tallyBin_made (c : Core) (h b : Nat) : (c.tallyBin h b).made = c.made := rfl
@[simp] theorem Core.tallyBin_queues (c : Core) (h b : Nat) : (c.tallyBin h b).queues = c.queues := rfl
@[simp] theorem Core.tallyBin_fetched (c : Core) (h b : Nat) : (c.tallyBin h b).fetched = c.fetched := rfl
@[simp] theorem Core.tallyBin_inflight (c : Core) (h b : Nat) : (c.tallyBin h b).inflight = c.inflight := rfl
@[simp] theorem Core.tallyBin_awaits (c : Core) (h b : Nat) : (c.tallyBin h b).awaits = c.awaits := rfl
@[simp] theorem Core.tallyBin_rearm (c : Core) (h b : Nat) : (c.tallyBin h b).rearm = c.rearm := rfl
@[simp] theorem Core.tallyBin_ringWasFull (c : Core) (h b : Nat) : (c.tallyBin h b).ringWasFull = c.ringWasFull := rfl
@[simp] theorem Core.tallyBin_shed (c : Core) (h b : Nat) : (c.tallyBin h b).shed = c.shed := rfl
@[simp] theorem Core.tallyBin_shedBad (c : Core) (h b : Nat) : (c.tallyBin h b).shedBad = c.shedBad := rfl
@[simp] theorem Core.tallyBin_shedCe (c : Core) (h b : Nat) : (c.tallyBin h b).shedCe = c.shedCe := rfl
@[simp] theorem Core.tallyBin_stalls (c : Core) (h b : Nat) : (c.tallyBin h b).stalls = c.stalls := rfl
@[simp] theorem Core.tallyBin_sched (c : Core) (h b : Nat) : (c.tallyBin h b).sched = c.sched := rfl
@[simp] theorem Core.tallyBin_units (c : Core) (h b : Nat) : (c.tallyBin h b).units = c.units := rfl
@[simp] theorem Core.tallyBin_checkSuspended (c : Core) (h b : Nat) : (c.tallyBin h b).checkSuspended = c.checkSuspended := rfl
@[simp] theorem Core.tallyBin_scouts (c : Core) (h b : Nat) : (c.tallyBin h b).scouts = c.scouts := rfl
@[simp] theorem Core.tallyBin_subs (c : Core) (h b : Nat) : (c.tallyBin h b).subs = c.subs := rfl
@[simp] theorem Core.tallyBin_members (c : Core) (h b : Nat) : (c.tallyBin h b).members = c.members := rfl
@[simp] theorem Core.tallyBin_bays (c : Core) (h b : Nat) : (c.tallyBin h b).bays = c.bays := rfl
@[simp] theorem Core.tallyBin_pcieCap (c : Core) (h b : Nat) : (c.tallyBin h b).pcieCap = c.pcieCap := rfl
@[simp] theorem Core.tallyBin_penStream (c : Core) (h b : Nat) : (c.tallyBin h b).penStream = c.penStream := rfl
@[simp] theorem Core.tallyBin_penSince (c : Core) (h b : Nat) : (c.tallyBin h b).penSince = c.penSince := rfl
@[simp] theorem Core.tallyBin_unitNext (c : Core) (h b : Nat) : (c.tallyBin h b).unitNext = c.unitNext := rfl
@[simp] theorem Core.tallyBin_rfs (c : Core) (h b : Nat) : (c.tallyBin h b).rfs = c.rfs := rfl
@[simp] theorem Core.tallyBin_fm (c : Core) (h b : Nat) : (c.tallyBin h b).fm = c.fm := rfl
@[simp] theorem Core.tallyBin_am (c : Core) (h b : Nat) : (c.tallyBin h b).am = c.am := rfl
@[simp] theorem Core.tallyBin_dab (c : Core) (h b : Nat) : (c.tallyBin h b).dab = c.dab := rfl
@[simp] theorem Core.tallyBin_drm (c : Core) (h b : Nat) : (c.tallyBin h b).drm = c.drm := rfl
@[simp] theorem Core.tallyBin_tc (c : Core) (h b : Nat) : (c.tallyBin h b).tc = c.tc := rfl
@[simp] theorem Core.tallyBin_check (c : Core) (h b : Nat) : (c.tallyBin h b).check = c.check := rfl
@[simp] theorem Core.tallyBin_decs (c : Core) (h b : Nat) : (c.tallyBin h b).decs = c.decs := rfl
@[simp] theorem Core.tallyBin_hoists (c : Core) (h b : Nat) : (c.tallyBin h b).hoists = c.hoists := rfl
@[simp] theorem Core.tallyBin_measScout (c : Core) (h b : Nat) : (c.tallyBin h b).measScout = c.measScout := rfl
@[simp] theorem Core.tallyBin_starved (c : Core) (h b : Nat) : (c.tallyBin h b).starved = c.starved := rfl
@[simp] theorem Core.tallyBin_saps (c : Core) (h b : Nat) : (c.tallyBin h b).saps = c.saps := rfl
@[simp] theorem Core.tallyBin_aess (c : Core) (h b : Nat) : (c.tallyBin h b).aess = c.aess := rfl
@[simp] theorem Core.tallyBin_ptp (c : Core) (h b : Nat) : (c.tallyBin h b).ptp = c.ptp := rfl
@[simp] theorem Core.tallyBin_penLost (c : Core) (h b : Nat) : (c.tallyBin h b).penLost = c.penLost := rfl
@[simp] theorem Core.tallyBin_regions (c : Core) (h b : Nat) : (c.tallyBin h b).regions = c.regions := rfl
@[simp] theorem Core.tallyBin_radio (c : Core) (h b : Nat) : (c.tallyBin h b).radio = c.radio := rfl
@[simp] theorem Core.tallyBin_detectors (c : Core) (h b : Nat) : (c.tallyBin h b).detectors = c.detectors := rfl
@[simp] theorem Core.tallyBin_link (c : Core) (h b : Nat) : (c.tallyBin h b).link = c.link := rfl
@[simp] theorem Core.tallyBin_peers (c : Core) (h b : Nat) : (c.tallyBin h b).peers = c.peers := rfl
@[simp] theorem Core.tallyBin_syn (c : Core) (h b : Nat) : (c.tallyBin h b).syn = c.syn := rfl
@[simp] theorem Core.tallyBin_twb (c : Core) (h b : Nat) : (c.tallyBin h b).twb = c.twb := rfl
@[simp] theorem Core.tallyBin_calPend (c : Core) (h b : Nat) : (c.tallyBin h b).calPend = c.calPend := rfl
@[simp] theorem Core.tallyBin_cal (c : Core) (h b : Nat) : (c.tallyBin h b).cal = c.cal := rfl
@[simp] theorem Core.tallyBin_start (c : Core) (h b : Nat) : (c.tallyBin h b).start = c.start := rfl
@[simp] theorem Core.tallyBin_counts (c : Core) (h b : Nat) : (c.tallyBin h b).counts = c.counts := rfl
@[simp] theorem Core.tallyBin_logJobs (c : Core) (h b : Nat) : (c.tallyBin h b).logJobs = c.logJobs := rfl
@[simp] theorem Core.tallyBin_nv (c : Core) (h b : Nat) : (c.tallyBin h b).nv = c.nv := rfl
@[simp] theorem Core.tallyBin_guard (c : Core) (h b : Nat) : (c.tallyBin h b).guard = c.guard := rfl
@[simp] theorem Core.tallyBin_upd (c : Core) (h b : Nat) : (c.tallyBin h b).upd = c.upd := rfl
@[simp] theorem Core.tallyBin_ste (c : Core) (h b : Nat) : (c.tallyBin h b).ste = c.ste := rfl
@[simp] theorem Core.tallyBin_alertWord (c : Core) (h b : Nat) : (c.tallyBin h b).alertWord = c.alertWord := rfl
@[simp] theorem Core.tallyBin_resets (c : Core) (h b : Nat) : (c.tallyBin h b).resets = c.resets := rfl
@[simp] theorem Core.tallyBin_freezing (c : Core) (h b : Nat) : (c.tallyBin h b).freezing = c.freezing := rfl
@[simp] theorem Core.tallyBin_pcieReads (c : Core) (h b : Nat) : (c.tallyBin h b).pcieReads = c.pcieReads := rfl

@[simp] theorem Core.emit_now (c : Core) (p : Pennant) : (c.emit p).now = c.now := rfl
@[simp] theorem Core.emit_yardRuns (c : Core) (p : Pennant) : (c.emit p).yardRuns = c.yardRuns := rfl
@[simp] theorem Core.emit_regs (c : Core) (p : Pennant) : (c.emit p).regs = c.regs := rfl
@[simp] theorem Core.emit_drawn (c : Core) (p : Pennant) : (c.emit p).drawn = c.drawn := rfl
@[simp] theorem Core.emit_out (c : Core) (p : Pennant) : (c.emit p).out = c.out := rfl
@[simp] theorem Core.emit_hwSet (c : Core) (p : Pennant) : (c.emit p).hwSet = c.hwSet := rfl
@[simp] theorem Core.emit_posted (c : Core) (p : Pennant) : (c.emit p).posted = c.posted := rfl
@[simp] theorem Core.emit_applied (c : Core) (p : Pennant) : (c.emit p).applied = c.applied := rfl
@[simp] theorem Core.emit_goLatch (c : Core) (p : Pennant) : (c.emit p).goLatch = c.goLatch := rfl
@[simp] theorem Core.emit_eoi (c : Core) (p : Pennant) : (c.emit p).eoi = c.eoi := rfl
@[simp] theorem Core.emit_frozen (c : Core) (p : Pennant) : (c.emit p).frozen = c.frozen := rfl
@[simp] theorem Core.emit_captured (c : Core) (p : Pennant) : (c.emit p).captured = c.captured := rfl
@[simp] theorem Core.emit_linkUp (c : Core) (p : Pennant) : (c.emit p).linkUp = c.linkUp := rfl
@[simp] theorem Core.emit_busMaster (c : Core) (p : Pennant) : (c.emit p).busMaster = c.busMaster := rfl
@[simp] theorem Core.emit_unmasked (c : Core) (p : Pennant) : (c.emit p).unmasked = c.unmasked := rfl
@[simp] theorem Core.emit_vecPend (c : Core) (p : Pennant) : (c.emit p).vecPend = c.vecPend := rfl
@[simp] theorem Core.emit_again (c : Core) (p : Pennant) : (c.emit p).again = c.again := rfl
@[simp] theorem Core.emit_bar2Log (c : Core) (p : Pennant) : (c.emit p).bar2Log = c.bar2Log := rfl
@[simp] theorem Core.emit_tracks (c : Core) (p : Pennant) : (c.emit p).tracks = c.tracks := rfl
@[simp] theorem Core.emit_tt (c : Core) (p : Pennant) : (c.emit p).tt = c.tt := rfl
@[simp] theorem Core.emit_queues (c : Core) (p : Pennant) : (c.emit p).queues = c.queues := rfl
@[simp] theorem Core.emit_fetched (c : Core) (p : Pennant) : (c.emit p).fetched = c.fetched := rfl
@[simp] theorem Core.emit_inflight (c : Core) (p : Pennant) : (c.emit p).inflight = c.inflight := rfl
@[simp] theorem Core.emit_awaits (c : Core) (p : Pennant) : (c.emit p).awaits = c.awaits := rfl
@[simp] theorem Core.emit_rearm (c : Core) (p : Pennant) : (c.emit p).rearm = c.rearm := rfl
@[simp] theorem Core.emit_ringWasFull (c : Core) (p : Pennant) : (c.emit p).ringWasFull = c.ringWasFull := rfl
@[simp] theorem Core.emit_shed (c : Core) (p : Pennant) : (c.emit p).shed = c.shed := rfl
@[simp] theorem Core.emit_shedBad (c : Core) (p : Pennant) : (c.emit p).shedBad = c.shedBad := rfl
@[simp] theorem Core.emit_shedCe (c : Core) (p : Pennant) : (c.emit p).shedCe = c.shedCe := rfl
@[simp] theorem Core.emit_stalls (c : Core) (p : Pennant) : (c.emit p).stalls = c.stalls := rfl
@[simp] theorem Core.emit_sched (c : Core) (p : Pennant) : (c.emit p).sched = c.sched := rfl
@[simp] theorem Core.emit_units (c : Core) (p : Pennant) : (c.emit p).units = c.units := rfl
@[simp] theorem Core.emit_checkSuspended (c : Core) (p : Pennant) : (c.emit p).checkSuspended = c.checkSuspended := rfl
@[simp] theorem Core.emit_scouts (c : Core) (p : Pennant) : (c.emit p).scouts = c.scouts := rfl
@[simp] theorem Core.emit_subs (c : Core) (p : Pennant) : (c.emit p).subs = c.subs := rfl
@[simp] theorem Core.emit_members (c : Core) (p : Pennant) : (c.emit p).members = c.members := rfl
@[simp] theorem Core.emit_bays (c : Core) (p : Pennant) : (c.emit p).bays = c.bays := rfl
@[simp] theorem Core.emit_pcieCap (c : Core) (p : Pennant) : (c.emit p).pcieCap = c.pcieCap := rfl
@[simp] theorem Core.emit_penStream (c : Core) (p : Pennant) : (c.emit p).penStream = c.penStream := rfl
@[simp] theorem Core.emit_penSince (c : Core) (p : Pennant) : (c.emit p).penSince = c.penSince := rfl
@[simp] theorem Core.emit_unitNext (c : Core) (p : Pennant) : (c.emit p).unitNext = c.unitNext := rfl
@[simp] theorem Core.emit_rfs (c : Core) (p : Pennant) : (c.emit p).rfs = c.rfs := rfl
@[simp] theorem Core.emit_fm (c : Core) (p : Pennant) : (c.emit p).fm = c.fm := rfl
@[simp] theorem Core.emit_am (c : Core) (p : Pennant) : (c.emit p).am = c.am := rfl
@[simp] theorem Core.emit_dab (c : Core) (p : Pennant) : (c.emit p).dab = c.dab := rfl
@[simp] theorem Core.emit_drm (c : Core) (p : Pennant) : (c.emit p).drm = c.drm := rfl
@[simp] theorem Core.emit_tc (c : Core) (p : Pennant) : (c.emit p).tc = c.tc := rfl
@[simp] theorem Core.emit_check (c : Core) (p : Pennant) : (c.emit p).check = c.check := rfl
@[simp] theorem Core.emit_decs (c : Core) (p : Pennant) : (c.emit p).decs = c.decs := rfl
@[simp] theorem Core.emit_hoists (c : Core) (p : Pennant) : (c.emit p).hoists = c.hoists := rfl
@[simp] theorem Core.emit_measScout (c : Core) (p : Pennant) : (c.emit p).measScout = c.measScout := rfl
@[simp] theorem Core.emit_starved (c : Core) (p : Pennant) : (c.emit p).starved = c.starved := rfl
@[simp] theorem Core.emit_saps (c : Core) (p : Pennant) : (c.emit p).saps = c.saps := rfl
@[simp] theorem Core.emit_aess (c : Core) (p : Pennant) : (c.emit p).aess = c.aess := rfl
@[simp] theorem Core.emit_ptp (c : Core) (p : Pennant) : (c.emit p).ptp = c.ptp := rfl
@[simp] theorem Core.emit_penLost (c : Core) (p : Pennant) : (c.emit p).penLost = c.penLost := rfl
@[simp] theorem Core.emit_regions (c : Core) (p : Pennant) : (c.emit p).regions = c.regions := rfl
@[simp] theorem Core.emit_radio (c : Core) (p : Pennant) : (c.emit p).radio = c.radio := rfl
@[simp] theorem Core.emit_detectors (c : Core) (p : Pennant) : (c.emit p).detectors = c.detectors := rfl
@[simp] theorem Core.emit_link (c : Core) (p : Pennant) : (c.emit p).link = c.link := rfl
@[simp] theorem Core.emit_peers (c : Core) (p : Pennant) : (c.emit p).peers = c.peers := rfl
@[simp] theorem Core.emit_syn (c : Core) (p : Pennant) : (c.emit p).syn = c.syn := rfl
@[simp] theorem Core.emit_twb (c : Core) (p : Pennant) : (c.emit p).twb = c.twb := rfl
@[simp] theorem Core.emit_calPend (c : Core) (p : Pennant) : (c.emit p).calPend = c.calPend := rfl
@[simp] theorem Core.emit_cal (c : Core) (p : Pennant) : (c.emit p).cal = c.cal := rfl
@[simp] theorem Core.emit_start (c : Core) (p : Pennant) : (c.emit p).start = c.start := rfl
@[simp] theorem Core.emit_counts (c : Core) (p : Pennant) : (c.emit p).counts = c.counts := rfl
@[simp] theorem Core.emit_bins (c : Core) (p : Pennant) : (c.emit p).bins = c.bins := rfl
@[simp] theorem Core.emit_logJobs (c : Core) (p : Pennant) : (c.emit p).logJobs = c.logJobs := rfl
@[simp] theorem Core.emit_nv (c : Core) (p : Pennant) : (c.emit p).nv = c.nv := rfl
@[simp] theorem Core.emit_guard (c : Core) (p : Pennant) : (c.emit p).guard = c.guard := rfl
@[simp] theorem Core.emit_upd (c : Core) (p : Pennant) : (c.emit p).upd = c.upd := rfl
@[simp] theorem Core.emit_ste (c : Core) (p : Pennant) : (c.emit p).ste = c.ste := rfl
@[simp] theorem Core.emit_alertWord (c : Core) (p : Pennant) : (c.emit p).alertWord = c.alertWord := rfl
@[simp] theorem Core.emit_resets (c : Core) (p : Pennant) : (c.emit p).resets = c.resets := rfl
@[simp] theorem Core.emit_freezing (c : Core) (p : Pennant) : (c.emit p).freezing = c.freezing := rfl
@[simp] theorem Core.emit_pcieReads (c : Core) (p : Pennant) : (c.emit p).pcieReads = c.pcieReads := rfl

@[simp] theorem Core.shedWrite_now (c : Core) (a : Nat) (l : List Byte) : (c.shedWrite a l).now = c.now := rfl
@[simp] theorem Core.shedWrite_yardRuns (c : Core) (a : Nat) (l : List Byte) : (c.shedWrite a l).yardRuns = c.yardRuns := rfl
@[simp] theorem Core.shedWrite_regs (c : Core) (a : Nat) (l : List Byte) : (c.shedWrite a l).regs = c.regs := rfl
@[simp] theorem Core.shedWrite_drawn (c : Core) (a : Nat) (l : List Byte) : (c.shedWrite a l).drawn = c.drawn := rfl
@[simp] theorem Core.shedWrite_out (c : Core) (a : Nat) (l : List Byte) : (c.shedWrite a l).out = c.out := rfl
@[simp] theorem Core.shedWrite_hwSet (c : Core) (a : Nat) (l : List Byte) : (c.shedWrite a l).hwSet = c.hwSet := rfl
@[simp] theorem Core.shedWrite_posted (c : Core) (a : Nat) (l : List Byte) : (c.shedWrite a l).posted = c.posted := rfl
@[simp] theorem Core.shedWrite_applied (c : Core) (a : Nat) (l : List Byte) : (c.shedWrite a l).applied = c.applied := rfl
@[simp] theorem Core.shedWrite_goLatch (c : Core) (a : Nat) (l : List Byte) : (c.shedWrite a l).goLatch = c.goLatch := rfl
@[simp] theorem Core.shedWrite_eoi (c : Core) (a : Nat) (l : List Byte) : (c.shedWrite a l).eoi = c.eoi := rfl
@[simp] theorem Core.shedWrite_frozen (c : Core) (a : Nat) (l : List Byte) : (c.shedWrite a l).frozen = c.frozen := rfl
@[simp] theorem Core.shedWrite_captured (c : Core) (a : Nat) (l : List Byte) : (c.shedWrite a l).captured = c.captured := rfl
@[simp] theorem Core.shedWrite_linkUp (c : Core) (a : Nat) (l : List Byte) : (c.shedWrite a l).linkUp = c.linkUp := rfl
@[simp] theorem Core.shedWrite_busMaster (c : Core) (a : Nat) (l : List Byte) : (c.shedWrite a l).busMaster = c.busMaster := rfl
@[simp] theorem Core.shedWrite_unmasked (c : Core) (a : Nat) (l : List Byte) : (c.shedWrite a l).unmasked = c.unmasked := rfl
@[simp] theorem Core.shedWrite_vecPend (c : Core) (a : Nat) (l : List Byte) : (c.shedWrite a l).vecPend = c.vecPend := rfl
@[simp] theorem Core.shedWrite_again (c : Core) (a : Nat) (l : List Byte) : (c.shedWrite a l).again = c.again := rfl
@[simp] theorem Core.shedWrite_bar2Log (c : Core) (a : Nat) (l : List Byte) : (c.shedWrite a l).bar2Log = c.bar2Log := rfl
@[simp] theorem Core.shedWrite_tracks (c : Core) (a : Nat) (l : List Byte) : (c.shedWrite a l).tracks = c.tracks := rfl
@[simp] theorem Core.shedWrite_tt (c : Core) (a : Nat) (l : List Byte) : (c.shedWrite a l).tt = c.tt := rfl
@[simp] theorem Core.shedWrite_made (c : Core) (a : Nat) (l : List Byte) : (c.shedWrite a l).made = c.made := rfl
@[simp] theorem Core.shedWrite_queues (c : Core) (a : Nat) (l : List Byte) : (c.shedWrite a l).queues = c.queues := rfl
@[simp] theorem Core.shedWrite_fetched (c : Core) (a : Nat) (l : List Byte) : (c.shedWrite a l).fetched = c.fetched := rfl
@[simp] theorem Core.shedWrite_inflight (c : Core) (a : Nat) (l : List Byte) : (c.shedWrite a l).inflight = c.inflight := rfl
@[simp] theorem Core.shedWrite_awaits (c : Core) (a : Nat) (l : List Byte) : (c.shedWrite a l).awaits = c.awaits := rfl
@[simp] theorem Core.shedWrite_rearm (c : Core) (a : Nat) (l : List Byte) : (c.shedWrite a l).rearm = c.rearm := rfl
@[simp] theorem Core.shedWrite_ringWasFull (c : Core) (a : Nat) (l : List Byte) : (c.shedWrite a l).ringWasFull = c.ringWasFull := rfl
@[simp] theorem Core.shedWrite_stalls (c : Core) (a : Nat) (l : List Byte) : (c.shedWrite a l).stalls = c.stalls := rfl
@[simp] theorem Core.shedWrite_sched (c : Core) (a : Nat) (l : List Byte) : (c.shedWrite a l).sched = c.sched := rfl
@[simp] theorem Core.shedWrite_units (c : Core) (a : Nat) (l : List Byte) : (c.shedWrite a l).units = c.units := rfl
@[simp] theorem Core.shedWrite_checkSuspended (c : Core) (a : Nat) (l : List Byte) : (c.shedWrite a l).checkSuspended = c.checkSuspended := rfl
@[simp] theorem Core.shedWrite_scouts (c : Core) (a : Nat) (l : List Byte) : (c.shedWrite a l).scouts = c.scouts := rfl
@[simp] theorem Core.shedWrite_subs (c : Core) (a : Nat) (l : List Byte) : (c.shedWrite a l).subs = c.subs := rfl
@[simp] theorem Core.shedWrite_members (c : Core) (a : Nat) (l : List Byte) : (c.shedWrite a l).members = c.members := rfl
@[simp] theorem Core.shedWrite_bays (c : Core) (a : Nat) (l : List Byte) : (c.shedWrite a l).bays = c.bays := rfl
@[simp] theorem Core.shedWrite_pcieCap (c : Core) (a : Nat) (l : List Byte) : (c.shedWrite a l).pcieCap = c.pcieCap := rfl
@[simp] theorem Core.shedWrite_penStream (c : Core) (a : Nat) (l : List Byte) : (c.shedWrite a l).penStream = c.penStream := rfl
@[simp] theorem Core.shedWrite_penSince (c : Core) (a : Nat) (l : List Byte) : (c.shedWrite a l).penSince = c.penSince := rfl
@[simp] theorem Core.shedWrite_unitNext (c : Core) (a : Nat) (l : List Byte) : (c.shedWrite a l).unitNext = c.unitNext := rfl
@[simp] theorem Core.shedWrite_rfs (c : Core) (a : Nat) (l : List Byte) : (c.shedWrite a l).rfs = c.rfs := rfl
@[simp] theorem Core.shedWrite_fm (c : Core) (a : Nat) (l : List Byte) : (c.shedWrite a l).fm = c.fm := rfl
@[simp] theorem Core.shedWrite_am (c : Core) (a : Nat) (l : List Byte) : (c.shedWrite a l).am = c.am := rfl
@[simp] theorem Core.shedWrite_dab (c : Core) (a : Nat) (l : List Byte) : (c.shedWrite a l).dab = c.dab := rfl
@[simp] theorem Core.shedWrite_drm (c : Core) (a : Nat) (l : List Byte) : (c.shedWrite a l).drm = c.drm := rfl
@[simp] theorem Core.shedWrite_tc (c : Core) (a : Nat) (l : List Byte) : (c.shedWrite a l).tc = c.tc := rfl
@[simp] theorem Core.shedWrite_check (c : Core) (a : Nat) (l : List Byte) : (c.shedWrite a l).check = c.check := rfl
@[simp] theorem Core.shedWrite_decs (c : Core) (a : Nat) (l : List Byte) : (c.shedWrite a l).decs = c.decs := rfl
@[simp] theorem Core.shedWrite_hoists (c : Core) (a : Nat) (l : List Byte) : (c.shedWrite a l).hoists = c.hoists := rfl
@[simp] theorem Core.shedWrite_measScout (c : Core) (a : Nat) (l : List Byte) : (c.shedWrite a l).measScout = c.measScout := rfl
@[simp] theorem Core.shedWrite_starved (c : Core) (a : Nat) (l : List Byte) : (c.shedWrite a l).starved = c.starved := rfl
@[simp] theorem Core.shedWrite_saps (c : Core) (a : Nat) (l : List Byte) : (c.shedWrite a l).saps = c.saps := rfl
@[simp] theorem Core.shedWrite_aess (c : Core) (a : Nat) (l : List Byte) : (c.shedWrite a l).aess = c.aess := rfl
@[simp] theorem Core.shedWrite_ptp (c : Core) (a : Nat) (l : List Byte) : (c.shedWrite a l).ptp = c.ptp := rfl
@[simp] theorem Core.shedWrite_penLost (c : Core) (a : Nat) (l : List Byte) : (c.shedWrite a l).penLost = c.penLost := rfl
@[simp] theorem Core.shedWrite_regions (c : Core) (a : Nat) (l : List Byte) : (c.shedWrite a l).regions = c.regions := rfl
@[simp] theorem Core.shedWrite_radio (c : Core) (a : Nat) (l : List Byte) : (c.shedWrite a l).radio = c.radio := rfl
@[simp] theorem Core.shedWrite_detectors (c : Core) (a : Nat) (l : List Byte) : (c.shedWrite a l).detectors = c.detectors := rfl
@[simp] theorem Core.shedWrite_link (c : Core) (a : Nat) (l : List Byte) : (c.shedWrite a l).link = c.link := rfl
@[simp] theorem Core.shedWrite_peers (c : Core) (a : Nat) (l : List Byte) : (c.shedWrite a l).peers = c.peers := rfl
@[simp] theorem Core.shedWrite_syn (c : Core) (a : Nat) (l : List Byte) : (c.shedWrite a l).syn = c.syn := rfl
@[simp] theorem Core.shedWrite_twb (c : Core) (a : Nat) (l : List Byte) : (c.shedWrite a l).twb = c.twb := rfl
@[simp] theorem Core.shedWrite_calPend (c : Core) (a : Nat) (l : List Byte) : (c.shedWrite a l).calPend = c.calPend := rfl
@[simp] theorem Core.shedWrite_cal (c : Core) (a : Nat) (l : List Byte) : (c.shedWrite a l).cal = c.cal := rfl
@[simp] theorem Core.shedWrite_start (c : Core) (a : Nat) (l : List Byte) : (c.shedWrite a l).start = c.start := rfl
@[simp] theorem Core.shedWrite_counts (c : Core) (a : Nat) (l : List Byte) : (c.shedWrite a l).counts = c.counts := rfl
@[simp] theorem Core.shedWrite_bins (c : Core) (a : Nat) (l : List Byte) : (c.shedWrite a l).bins = c.bins := rfl
@[simp] theorem Core.shedWrite_logJobs (c : Core) (a : Nat) (l : List Byte) : (c.shedWrite a l).logJobs = c.logJobs := rfl
@[simp] theorem Core.shedWrite_nv (c : Core) (a : Nat) (l : List Byte) : (c.shedWrite a l).nv = c.nv := rfl
@[simp] theorem Core.shedWrite_guard (c : Core) (a : Nat) (l : List Byte) : (c.shedWrite a l).guard = c.guard := rfl
@[simp] theorem Core.shedWrite_upd (c : Core) (a : Nat) (l : List Byte) : (c.shedWrite a l).upd = c.upd := rfl
@[simp] theorem Core.shedWrite_ste (c : Core) (a : Nat) (l : List Byte) : (c.shedWrite a l).ste = c.ste := rfl
@[simp] theorem Core.shedWrite_alertWord (c : Core) (a : Nat) (l : List Byte) : (c.shedWrite a l).alertWord = c.alertWord := rfl
@[simp] theorem Core.shedWrite_resets (c : Core) (a : Nat) (l : List Byte) : (c.shedWrite a l).resets = c.resets := rfl
@[simp] theorem Core.shedWrite_freezing (c : Core) (a : Nat) (l : List Byte) : (c.shedWrite a l).freezing = c.freezing := rfl
@[simp] theorem Core.shedWrite_pcieReads (c : Core) (a : Nat) (l : List Byte) : (c.shedWrite a l).pcieReads = c.pcieReads := rfl

end Sys2Proof.Machine
end

