-- ==== Sys2Proof/Laws/Ops.lean ====
section
/-! SUPPORT. What the shared operations over registers, events and records do: one lemma says what each leaves in every register. -/

namespace Sys2Proof.Machine

/-! ### Registers -/

/-- A register read after a register write. -/
theorem Core.reg_setReg (c : Core) (a : Nat) (v : Word) (b : Nat) : (c.setReg a v).reg b = if b = a then v else c.reg b :=
  Table.get_set resetValue c.regs a b v

@[simp] theorem Core.reg_setReg_self (c : Core) (a : Nat) (v : Word) : (c.setReg a v).reg a = v := by simp [Core.reg_setReg]

theorem Core.reg_setReg_other (c : Core) (a : Nat) (v : Word) (b : Nat) (h : b ≠ a) : (c.setReg a v).reg b = c.reg b := by
  simp [Core.reg_setReg, h]

theorem Core.reg_setNat (c : Core) (a v b : Nat) : (c.setNat a v).reg b = if b = a then BitVec.ofNat 32 v else c.reg b :=
  Core.reg_setReg c a _ b

theorem Core.reg_setFld (c : Core) (a lo n v b : Nat) : (c.setFld a lo n v).reg b = if b = a then putField (c.reg a) lo n v else c.reg b :=
  Core.reg_setReg c a _ b

theorem Core.reg_bumpBy (c : Core) (a k b : Nat) :
    (c.bumpBy a k).reg b = if b = a then BitVec.ofNat 32 (satAdd 32 (c.reg a).toNat k) else c.reg b := Core.reg_setReg c a _ b

theorem Core.reg_bump (c : Core) (a b : Nat) :
    (c.bump a).reg b = if b = a then BitVec.ofNat 32 (satAdd 32 (c.reg a).toNat 1) else c.reg b := Core.reg_setReg c a _ b

theorem Core.reg_bumpFld (c : Core) (a lo n b : Nat) :
    (c.bumpFld a lo n).reg b = if b = a then putField (c.reg a) lo n (satAdd n (c.fld a lo n) 1) else c.reg b := Core.reg_setReg c a _ b

theorem Core.reg_wrapFld (c : Core) (a lo n b : Nat) :
    (c.wrapFld a lo n).reg b = if b = a then putField (c.reg a) lo n (c.fld a lo n + 1) else c.reg b := Core.reg_setReg c a _ b

theorem Core.reg_setPair (c : Core) (a b v x : Nat) :
    (c.setPair a b v).reg x = if x = b then BitVec.ofNat 32 (v / 2 ^ 32) else if x = a then BitVec.ofNat 32 v else c.reg x := by
  simp only [Core.setPair, Core.reg_setNat]

theorem Core.reg_stampTick (c : Core) (a b : Nat) : (c.stampTick a).reg b = if b = a then BitVec.ofNat 32 c.now else c.reg b :=
  Core.reg_setReg c a _ b

/-- An operation that touches no register. -/
theorem Core.reg_congr {c d : Core} (h : d.regs = c.regs) (a : Nat) : d.reg a = c.reg a := by simp [Core.reg, h]

@[simp] theorem Core.reg_put (c : Core) (o : Output) (a : Nat) : (c.put o).reg a = c.reg a := rfl
@[simp] theorem Core.reg_emit (c : Core) (p : Pennant) (a : Nat) : (c.emit p).reg a = c.reg a := rfl
@[simp] theorem Core.reg_tally (c : Core) (i k a : Nat) : (c.tally i k).reg a = c.reg a := rfl
@[simp] theorem Core.reg_tallyBin (c : Core) (h b a : Nat) : (c.tallyBin h b).reg a = c.reg a := rfl
@[simp] theorem Core.reg_shedWrite (c : Core) (x : Nat) (l : List Byte) (a : Nat) : (c.shedWrite x l).reg a = c.reg a := rfl
@[simp] theorem Core.reg_complete (c : Core) (o q st tb te : Nat) (r : List Byte) (a : Nat) : (c.complete o q st tb te r).reg a = c.reg a := rfl

/-! ### Events -/

theorem Core.reg_hwFlags (c : Core) (a : Nat) (bits : Word) (b : Nat) :
    (c.hwFlags a bits).reg b = if b = a then c.reg a ||| bits else c.reg b := Core.reg_setReg c a _ b

theorem Core.reg_event (c : Core) (p e b : Nat) :
    (c.event p e).reg b = if b = R.PG_EVENT.at p then c.reg (R.PG_EVENT.at p) ||| bit e else c.reg b := Core.reg_hwFlags c _ _ b

theorem Core.reg_stEvent (c : Core) (n e b : Nat) :
    (c.stEvent n e).reg b = if b = R.ST_EVENT.at n then c.reg (R.ST_EVENT.at n) ||| bit e else c.reg b := Core.reg_hwFlags c _ _ b

theorem Core.reg_qEvent (c : Core) (q e b : Nat) :
    (c.qEvent q e).reg b = if b = R.Q_EVENT.at q then c.reg (R.Q_EVENT.at q) ||| bit e else c.reg b := Core.reg_hwFlags c _ _ b

theorem bitOf_bit (b : Nat) (h : b < 32) (x : Nat) : bitOf (bit b) x = decide (x = b) := by
  simp only [bitOf, bit, BitVec.getLsbD_ofNat, Nat.testBit_two_pow]
  by_cases hx : x = b
  · subst hx; simp [h]
  · have : ¬ b = x := fun e => hx e.symm
    simp [hx, this]

/-- An event bit is set, and every other bit of the register stays. -/
theorem bitOf_or_bit (w : Word) (b x : Nat) (h : b < 32) : bitOf (w ||| bit b) x = (bitOf w x || decide (x = b)) := by
  have := bitOf_bit b h x
  simp only [bitOf] at this ⊢
  rw [BitVec.getLsbD_or, this]

/-- What a host access error leaves in the registers. -/
theorem Core.reg_hostErr (c : Core) (port : Port) (a b x : Nat)
    (h1 : x ≠ R.HOST_ERR.at) (h2 : x ≠ R.HOST_ERR_ADDR.at) (h3 : x ≠ R.PG_EVENT.at 0) : (c.hostErr port a b).reg x = c.reg x := by
  simp only [Core.hostErr]
  repeat' split
  all_goals simp [Core.reg_event, Core.reg_hwFlags, Core.reg_setNat, h1, h2, h3]

/-! ### Commands and acts -/

/-- A command that runs when the device is READY. -/
theorem Core.command_ready (c : Core) (h : CmdHead) (op : Nat) (f : Core → Core) (hr : c.ready = true) : c.command h op f = f c := by
  simp [Core.command, hr]

/-- No port has written the command's registers in this tick: the command acts. -/
theorem Core.writes_free (c : Core) (h : CmdHead) (op : Nat) (l : List Nat) (f : Core → Core)
    (hf : ∀ a, a ∈ l → c.takenBits .command a = 0) : c.writes h op l f = f c := by
  have : l.filter (fun a => decide (c.takenBits .command a ≠ 0)) = [] := by
    rw [List.filter_eq_nil_iff]; intro a ha; simp [hf a ha]
  simp only [Core.writes, this, List.isEmpty_nil, if_true]

theorem Core.takenBits_nil (c : Core) (port : Port) (a : Nat) (h : c.applied = []) : c.takenBits port a = 0 := by
  simp [Core.takenBits, h]

/-- A completion awaits its effect, or is made at once. -/
theorem Core.finish_eq (c : Core) (h : CmdHead) (op st tb key : Nat) (r : List Byte) (hn : (h.atEffect && decide (st = 0)) = false) :
    c.finish h op st tb key r = c.complete op h.seq st tb c.now r := by simp [Core.finish, hn]

theorem State.run_eq (s : State) (f : Core → Core) : s.run f = .next { s with core := f s.core } := rfl

theorem State.act_on (s : State) (p : Nat) (f : Core → Core) (h : s.runs p = true) : s.act p f = .next { s with core := f s.core } := by
  simp [State.act, State.run, h]

/-- A stopped block takes part in no event. -/
theorem State.act_off (s : State) (p : Nat) (f : Core → Core) (h : s.runs p = false) : s.act p f = .next s := by
  simp [State.act, State.run, h]

/-- A full write that no rule refuses runs the register's handler on the value. -/
theorem Core.hostWrite_plain (c : Core) (port : Port) (r : RegRow) (a : Nat) (v : Word) (hd : Core → Word → Core × Bool) (host : Nat)
    (hb : c.bootBlocks port (a / 4096) = false) (hr : c.inReset (a / 4096) = false) (ht : c.takenBits port a = 0) (hl : c.locked (a / 4096) = false) :
    c.hostWrite port r a v hd host = hd { c with applied := c.applied ++ [⟨port, a, BitVec.ofNat 32 (r.rw ||| r.rwl)⟩] } v := by
  have h1 : ~~~ BitVec.allOnes 32 = (0 : Word) := by decide
  have h2 : ~~~ (0 : Word) = BitVec.allOnes 32 := by decide
  have h3 : ∀ x : Word, x &&& 0 = 0 := fun x => BitVec.and_zero
  have h4 : ∀ x : Word, 0 &&& x = 0 := fun x => BitVec.zero_and
  have h5 : ∀ x : Word, x ||| 0 = x := fun x => BitVec.or_zero
  simp only [Core.hostWrite, Core.maskedWrite, hb, hr, ht, hl, h1, h2, h3, h4, h5, BitVec.and_allOnes, if_true, if_false, Bool.false_eq_true, ne_eq, not_true_eq_false, decide_false, decide_true, Bool.not_false, Bool.and_true]

/-- A register without RWL fields: the page lock does not matter. -/
theorem Core.hostWrite_open (c : Core) (port : Port) (r : RegRow) (a : Nat) (v : Word) (hd : Core → Word → Core × Bool) (host : Nat)
    (hb : c.bootBlocks port (a / 4096) = false) (hr : c.inReset (a / 4096) = false) (ht : c.takenBits port a = 0) (hl : r.rwl = 0) :
    c.hostWrite port r a v hd host = hd { c with applied := c.applied ++ [⟨port, a, BitVec.ofNat 32 (r.rw ||| r.rwl)⟩] } v := by
  have h1 : ~~~ BitVec.allOnes 32 = (0 : Word) := by decide
  have h2 : ~~~ (0 : Word) = BitVec.allOnes 32 := by decide
  have h3 : ∀ x : Word, x &&& 0 = 0 := fun x => BitVec.and_zero
  have h4 : ∀ x : Word, 0 &&& x = 0 := fun x => BitVec.zero_and
  have h5 : ∀ x : Word, x ||| 0 = x := fun x => BitVec.or_zero
  have h6 : BitVec.ofNat 32 0 = (0 : Word) := rfl
  simp only [Core.hostWrite, Core.maskedWrite, hb, hr, ht, hl, h1, h2, h3, h4, h5, h6, ite_self, BitVec.and_allOnes, if_true, if_false, Bool.false_eq_true, ne_eq, not_true_eq_false, decide_false, decide_true, Bool.not_false, Bool.and_true]

/-- A write that meets nothing in its way, of a register without RWL fields, is its handler's effect. -/
theorem State.write_open (s : State) (port : Port) (r : RegRow) (a : Nat) (v : Word) (hd : Core → Word → Core × Bool) (host : Nat)
    (hb : s.core.bootBlocks port (a / 4096) = false) (hr : s.core.inReset (a / 4096) = false) (ht : s.core.takenBits port a = 0) (hl : r.rwl = 0) :
    s.write port r a v hd host =
      .next { s with core := (hd { s.core with applied := s.core.applied ++ [⟨port, a, BitVec.ofNat 32 (r.rw ||| r.rwl)⟩] } v).1 } := by
  simp only [State.write, State.run, Core.hostWrite_open _ _ _ _ _ _ _ hb hr ht hl]

/-- The same on a page that is not locked. -/
theorem State.write_plain (s : State) (port : Port) (r : RegRow) (a : Nat) (v : Word) (hd : Core → Word → Core × Bool) (host : Nat)
    (hb : s.core.bootBlocks port (a / 4096) = false) (hr : s.core.inReset (a / 4096) = false) (ht : s.core.takenBits port a = 0) (hl : s.core.locked (a / 4096) = false) :
    s.write port r a v hd host =
      .next { s with core := (hd { s.core with applied := s.core.applied ++ [⟨port, a, BitVec.ofNat 32 (r.rw ||| r.rwl)⟩] } v).1 } := by
  simp only [State.write, State.run, Core.hostWrite_plain _ _ _ _ _ _ _ hb hr ht hl]

end Sys2Proof.Machine
end

