-- ==== Sys2Proof/Tests/Slice0.lean ====
section
/-! SUPPORT. Tests: the manual's worked examples and check values, ill-formed commands that WellFormed refuses, and for each statement
with hypotheses a state and operands that meet them. -/

open Sys2Proof Sys2Proof.Machine

section

-- One theorem is checked at a time: many kernel evaluations at once take more memory than one run has.
set_option Elab.async false

/-! ### Small states -/

/-- A device that is READY, with some registers written. -/
def withRegs (l : List (Nat × Word)) : Core := l.foldl (fun c e => c.setReg e.1 e.2) (({} : Core).setReg (R.PG_STATUS.at 0) 1)

/-- The same device with track `k` as given. -/
def withTrack (l : List (Nat × Word)) (k : Nat) (t : Track) : Core := (withRegs l).setTrack k t

/-- A device whose inputs are ON and whose stall 5 is an FM stall in state `st`. -/
def fmStall (st : Nat) (l : List (Nat × Word)) : Core :=
  withRegs ([(R.RF_CTRL.at 0, 2), (R.RF_CTRL.at 1, 2), (R.RF_CTRL.at 2, 2), (R.SYN0_STATUS.at, 1), (R.OPEN_SEL.at, 5), (R.ST_CLASS.at 5, 1),
    (R.ST_FREQ.at 5, 97100000), (R.ST_ROUTE.at 5, 0xFF00), (R.ST_STATUS.at 5, BitVec.ofNat 32 st)] ++ l)

/-- A device whose stall 5 is in state `st` and of class `cls`. -/
def classStall (cls st : Nat) (l : List (Nat × Word)) : Core :=
  withRegs ([(R.SYN0_STATUS.at, 1), (R.ST_CLASS.at 5, BitVec.ofNat 32 cls), (R.ST_FREQ.at 5, 225648000), (R.ST_ROUTE.at 5, 0xFF00), (R.ST_STATUS.at 5, BitVec.ofNat 32 st)] ++ l)


/-- A READY device whose timetable entry 3 is due and writes PG_EVENT_EN of page 9. -/
def dueWrite : Core :=
  { withRegs [] with
    tt := [(3, { valid := true, action := 1, target := R.PG_EVENT_EN.at 9, value := 5, mask := 7, mark := some false })] }

/-- A device in stage BRING_UP with its units tested and boot profile 2. -/
def bootReady : Core :=
  let c : Core := ({} : Core).setFld R.BOOT_STATUS.at 0 4 5
  { c with start := { c.start with tested := true },
           nv := { c.nv with profiles := [(4, some ⟨7, true, [(R.PG_EVENT_EN.at 9, 3)], true⟩)] } }

/-! ### Check values and worked examples -/

/-- R235: the check value for "123456789". -/
theorem test_crc16_check : crc16 [0x31, 0x32, 0x33, 0x34, 0x35, 0x36, 0x37, 0x38, 0x39] = 0x29B1 := by decide +kernel

/-- Chapter 14, example, step 1: the PEC of WRITE_AT to IRQ_EOI. -/
theorem test_pec_example : crc8 [0xB4, 0x10, 0x07, 0x7C, 0, 0, 8, 0, 0, 0] = 0x7E := by decide +kernel

/-- Chapter 14, example, step 1: the transfer posts the write. -/
theorem test_write_at_posts :
    (match execWriteAt ⟨0x5A, 7000⟩ [0x10, 7, 0x7C, 0, 0, 8, 0, 0, 0, 0x7E]
        { core := withRegs [(R.BOOT_STATUS.at, 6), (R.TWB_CFG.at, 0x19)] } with
      | .next t => t.core.posted
      | _ => []) = [⟨.twb, 0x7C, 8⟩] := by decide +kernel

/-- Chapter 14, example, step 2: with the PEC byte 0x7F nothing is posted, and HOST_ERR and HOST_ERR_ADDR tell it. -/
theorem test_write_at_bad_pec :
    (match execWriteAt ⟨0x5A, 7000⟩ [0x10, 7, 0x7C, 0, 0, 8, 0, 0, 0, 0x7F]
        { core := withRegs [(R.BOOT_STATUS.at, 6), (R.TWB_CFG.at, 0x19)] } with
      | .next t => (t.core.posted, t.core.reg R.HOST_ERR.at, t.core.reg R.HOST_ERR_ADDR.at)
      | _ => ([], 0, 0)) = ([], 0x80, 0xA000007C) := by decide +kernel

/-- Chapter 1, example: ST_EVENT of stall 37 stands at 0x2_2508, and its clip shows in the summaries and raises G3. -/
theorem test_overload_of_stall_37 :
    R.ST_EVENT.at 37 = 0x22508 ∧
    (withRegs [(R.ST_EVENT.at 37, 4), (R.ST_EVENT_EN.at 37, 4)]).stallSums 1 = 0x20 ∧
    fieldOf ((withRegs [(R.ST_EVENT.at 37, 4), (R.ST_EVENT_EN.at 37, 4)]).irqGlobal) 0 8 = 8 := by decide +kernel

/-- Chapter 3, example, step 5: the antenna-referred samples before and after the step. -/
theorem test_antenna_referred : (antennaReferred 1000 33090).1 = 64629 ∧ (antennaReferred 501 65993).1 = 64575 := by decide +kernel

/-- Chapter 4, example, steps 1 to 3: bins, NCO word, SETTLE and filter delay of the DAB stall at 174.928 MHz. -/
theorem test_dab_chain :
    binsOf clsDab 174928000 = (85, true) ∧ ncoWord true clsDab 174928000 = 0xF5000000 ∧
    (classChain clsDab).map (fun g => (g.settle, g.filt)) = some (51, 2998) := by decide +kernel

/-- Chapter 4, example, step 3: WIN_CHAIN. -/
theorem test_win_chain : (withRegs [(R.ST_CLASS.at 40, 3), (R.ST_FREQ.at 40, 174928000)]).winChain 40 = 0x05580121 := by decide +kernel

/-- Chapter 9, example, step 1: the entry of STALL_OPEN for stall 6. -/
theorem test_stall_open_entry :
    (ringEntry (.stallOpen { seq := 0x100, now := true } 6 1 0 true 97100000 0x80000001 0xFF02)).map (fun e => e.1.take 26) =
      some [0x00, 0x01, 0x10, 0x01, 0, 0, 0, 0, 0, 0, 0, 0, 6, 1, 0, 1, 0xE0, 0xA0, 0xC9, 0x05, 1, 0, 0, 0x80, 0x02, 0xFF] := by
  decide +kernel

/-- Chapter 12, example, steps 3 and 4: symbols and durations of the beacon and of the host's frame. -/
theorem test_frame_times :
    payloadSymbols 7 28 = 83 ∧ headerSymbols 7 = 16 ∧ frameTime 7 12 28 = 3617588 ∧
    payloadSymbols 9 24 = 58 ∧ headerSymbols 9 = 12 ∧ frameTime 9 12 24 = 10821305 := by decide +kernel

/-- Chapter 12, example, step 4: the header bytes. -/
theorem test_header_bytes : headerBytes 24 1 1 0x2A 0 = [0x18, 0x11, 0x2A, 0x67] := by decide +kernel

/-- Chapter 12, example, step 5: the interleaver, the source of repeated bit 731, and the symbol of 91. -/
theorem test_coding_checks :
    (payloadCode 256).perm 5 = 731 ∧ (payloadCode 256).source 731 = 158 ∧ graySymbol 91 = 236 := by decide +kernel

/-- R32: the reset routing of pages 0 to 7. -/
theorem test_irq_route_reset : resetValue (R.IRQ_ROUTE.at 0) = 0xBAAAA998 := by decide +kernel

/-- R16, R46: a write to a reserved page from the HRP is captured with VALID, port 0 and its address. -/
theorem test_reserved_write :
    (match execRegisterWrite .hrp 0x1D040 0x1234 { core := withRegs [] } with
      | .next t => (t.core.reg R.HOST_ERR.at, t.core.reg R.HOST_ERR_ADDR.at)
      | _ => (0, 0)) = (4, 0x8001D040) := by decide +kernel

/-- R9, R22: a clear leaves a flag that hardware set in the same tick. -/
theorem test_set_wins :
    (match execEventClear .hrp (.stall 37) 4 { core := (withRegs []).stEvent 37 2 } with
      | .next t => t.core.reg (R.ST_EVENT.at 37)
      | _ => 0) = 4 := by decide +kernel

/-- R36, R37: odd parity on every byte posts the write, and one wrong parity bit discards it. -/
theorem test_hrp_parity :
    (match execHrpWriteCycle 0x10 0x00000001 0xE { core := withRegs [(R.BOOT_STATUS.at, 6)] } with
      | .next t => t.core.posted | _ => []) = [⟨.hrp, 0x40, 1⟩] ∧
    (match execHrpWriteCycle 0x10 0x00000001 0xF { core := withRegs [(R.BOOT_STATUS.at, 6)] } with
      | .next t => t.core.posted | _ => []) = [] := by decide +kernel

/-- The opcode table gives no row any bits. -/
theorem test_no_word_spells_a_command : decodeTableWord 16 0 = none ∧ decodeTableWord 32 0xFFFFFFFF = none := by decide

/-- A word leaves the queue as it is. -/
theorem test_with_fetch_word : (State.reset.withFetchWord 32 5).pending = [] := by decide

/-- The memory at reset has the canonical form. -/
theorem test_reset_memory : Memory.wf State.reset.core.shed = true := by decide

/-! ### Ill-formed commands -/

/-- WellFormed refuses each of these terms, one for each of its checks. -/
theorem test_ill_formed_1 :
    (Instr.registerWrite .hrp (2 ^ 20) 0).wellFormed = false ∧
    (Instr.nop { seq := 0x10000 }).wellFormed = false ∧
    (Instr.regWrite { seq := 0x10000 } 0 0 0).wellFormed = false ∧
    (Instr.regWrite {} (2 ^ 24) 0 0).wellFormed = false ∧
    (Instr.regRead { seq := 0x10000 } 0).wellFormed = false ∧
    (Instr.regRead {} (2 ^ 24)).wellFormed = false ∧
    (Instr.stallOpen { seq := 0x10000 } 0 0 0 false 0 0 0).wellFormed = false ∧
    (Instr.stallOpen {} 0 (256) 0 false 0 0 0).wellFormed = false ∧
    (Instr.stallOpen {} 0 0 (256) false 0 0 0).wellFormed = false ∧
    (Instr.stallOpen {} 0 0 0 false 0 0 (2 ^ 16)).wellFormed = false ∧
    (Instr.stallClose { seq := 0x10000 } 0).wellFormed = false ∧
    (Instr.stallMove { seq := 0x10000 } 0).wellFormed = false ∧
    (Instr.stallRetune { seq := 0x10000 } 0 0 0 0).wellFormed = false ∧
    (Instr.stallRetune {} 0 (256) 0 0).wellFormed = false ∧
    (Instr.stallRetune {} 0 0 0 (256)).wellFormed = false ∧
    (Instr.ttAdd { seq := 0x10000 } false 0 0 0 0 0).wellFormed = false ∧
    (Instr.ttAdd {} false (16) 0 0 0 0).wellFormed = false ∧
    (Instr.ttAdd {} false 0 (256) 0 0 0).wellFormed = false ∧
    (Instr.ttAdd {} false 0 0 (2 ^ 24) 0 0).wellFormed = false ∧
    (Instr.ttCancel { seq := 0x10000 } 0).wellFormed = false ∧
    (Instr.ttCancel {} (2 ^ 16)).wellFormed = false ∧
    (Instr.stepAdd { seq := 0x10000 } 0 0).wellFormed = false ∧
    (Instr.stepAdd {} (256) 0).wellFormed = false ∧
    (Instr.stepAdd {} 0 (256)).wellFormed = false := by
  decide +kernel

/-- WellFormed refuses each of these terms, one for each of its checks. -/
theorem test_ill_formed_2 :
    (Instr.lsAdd { seq := 0x10000 } 0 0 0 0).wellFormed = false ∧
    (Instr.lsAdd {} 0 (256) 0 0).wellFormed = false ∧
    (Instr.lsAdd {} 0 0 (256) 0).wellFormed = false ∧
    (Instr.lsDrop { seq := 0x10000 } 0).wellFormed = false ∧
    (Instr.lsDrop {} (256)).wellFormed = false ∧
    (Instr.hoistCmd { seq := 0x10000 } 0 0 0).wellFormed = false ∧
    (Instr.hoistCmd {} 0 (256) 0).wellFormed = false ∧
    (Instr.hoistCmd {} 0 0 (256)).wellFormed = false ∧
    (Instr.routeSet { seq := 0x10000 } 0 0).wellFormed = false ∧
    (Instr.routeSet {} (256) 0).wellFormed = false ∧
    (Instr.routeSet {} 0 (256)).wellFormed = false ∧
    (Instr.teamOpen { seq := 0x10000 } 0 0).wellFormed = false ∧
    (Instr.teamOpen {} (256) 0).wellFormed = false ∧
    (Instr.teamOpen {} 0 (256)).wellFormed = false ∧
    (Instr.teamClose { seq := 0x10000 } 0).wellFormed = false ∧
    (Instr.teamClose {} (256)).wellFormed = false ∧
    (Instr.subAdd { seq := 0x10000 } 0 0 0 0 0).wellFormed = false ∧
    (Instr.subAdd {} (256) 0 0 0 0).wellFormed = false ∧
    (Instr.subAdd {} 0 (256) 0 0 0).wellFormed = false ∧
    (Instr.subAdd {} 0 0 (256) 0 0).wellFormed = false ∧
    (Instr.subAdd {} 0 0 0 (256) 0).wellFormed = false ∧
    (Instr.subAdd {} 0 0 0 0 (256)).wellFormed = false ∧
    (Instr.subDrop { seq := 0x10000 } 0).wellFormed = false ∧
    (Instr.subDrop {} (256)).wellFormed = false := by
  decide +kernel

/-- WellFormed refuses each of these terms, one for each of its checks. -/
theorem test_ill_formed_3 :
    (Instr.sapMap { seq := 0x10000 } 0 0 0).wellFormed = false ∧
    (Instr.sapMap {} (256) 0 0).wellFormed = false ∧
    (Instr.sapMap {} 0 (256) 0).wellFormed = false ∧
    (Instr.sapMap {} 0 0 (2 ^ 16)).wellFormed = false ∧
    (Instr.sapMask { seq := 0x10000 } 0 0).wellFormed = false ∧
    (Instr.sapMask {} (256) 0).wellFormed = false ∧
    (Instr.aesMap { seq := 0x10000 } 0 0 0).wellFormed = false ∧
    (Instr.aesMap {} (256) 0 0).wellFormed = false ∧
    (Instr.aesMap {} 0 (256) 0).wellFormed = false ∧
    (Instr.aesMap {} 0 0 (2 ^ 16)).wellFormed = false ∧
    (Instr.aesEn { seq := 0x10000 } 0 false).wellFormed = false ∧
    (Instr.aesEn {} (256) false).wellFormed = false ∧
    (Instr.wlSend { seq := 0x10000 } 0 0 0 0 0 0).wellFormed = false ∧
    (Instr.wlSend {} 0 (256) 0 0 0 0).wellFormed = false ∧
    (Instr.wlSend {} 0 0 (256) 0 0 0).wellFormed = false ∧
    (Instr.wlSend {} 0 0 0 (256) 0 0).wellFormed = false ∧
    (Instr.wlSend {} 0 0 0 0 (256) 0).wellFormed = false ∧
    (Instr.wlSend {} 0 0 0 0 0 (2 ^ 40)).wellFormed = false ∧
    (Instr.wlPeerAdd { seq := 0x10000 } 0 0 0 false).wellFormed = false ∧
    (Instr.wlPeerAdd {} 0 (256) 0 false).wellFormed = false ∧
    (Instr.wlPeerAdd {} 0 0 (256) false).wellFormed = false ∧
    (Instr.wlPeerDel { seq := 0x10000 } 0).wellFormed = false ∧
    (Instr.wlRoute { seq := 0x10000 } 0 false 0 0 0).wellFormed = false ∧
    (Instr.wlRoute {} (256) false 0 0 0).wellFormed = false := by
  decide +kernel

/-- WellFormed refuses each of these terms, one for each of its checks. -/
theorem test_ill_formed_4 :
    (Instr.wlForward { seq := 0x10000 } 0 0 0 0).wellFormed = false ∧
    (Instr.wlForward {} 0 (256) 0 0).wellFormed = false ∧
    (Instr.wlForward {} 0 0 (256) 0).wellFormed = false ∧
    (Instr.wlForward {} 0 0 0 (2 ^ 40)).wellFormed = false ∧
    (Instr.calRun { seq := 0x10000 } 0 {}).wellFormed = false ∧
    (Instr.calStore { seq := 0x10000 } false).wellFormed = false ∧
    (Instr.calRestore { seq := 0x10000 } 0 0).wellFormed = false ∧
    (Instr.steRun { seq := 0x10000 } 0 0 0).wellFormed = false ∧
    (Instr.steRun {} (2 ^ 16) 0 0).wellFormed = false ∧
    (Instr.steRun {} 0 0 (2 ^ 32)).wellFormed = false ∧
    (Instr.steStop { seq := 0x10000 }).wellFormed = false ∧
    (Instr.checkNow { seq := 0x10000 } 0).wellFormed = false ∧
    (Instr.updOffer { seq := 0x10000 } 0 false).wellFormed = false ∧
    (Instr.updOffer {} (2 ^ 40) false).wellFormed = false ∧
    (Instr.updBlock { seq := 0x10000 } 0 0 false).wellFormed = false ∧
    (Instr.updBlock {} (2 ^ 16) 0 false).wellFormed = false ∧
    (Instr.updBlock {} 0 (2 ^ 40) false).wellFormed = false ∧
    (Instr.updVerify { seq := 0x10000 }).wellFormed = false ∧
    (Instr.updActivate { seq := 0x10000 }).wellFormed = false ∧
    (Instr.updConfirm { seq := 0x10000 } false).wellFormed = false ∧
    (Instr.updAbort { seq := 0x10000 }).wellFormed = false ∧
    (Instr.profileSave { seq := 0x10000 } 0 0 0 false).wellFormed = false ∧
    (Instr.profileSave {} (256) 0 0 false).wellFormed = false ∧
    (Instr.profileSave {} 0 (2 ^ 16) 0 false).wellFormed = false := by
  decide +kernel

/-- WellFormed refuses each of these terms, one for each of its checks. -/
theorem test_ill_formed_5 :
    (Instr.profileSave {} 0 0 (2 ^ 40) false).wellFormed = false ∧
    (Instr.profileErase { seq := 0x10000 } 0 false).wellFormed = false ∧
    (Instr.profileErase {} (256) false).wellFormed = false ∧
    (Instr.profileSetBoot { seq := 0x10000 } 0 false).wellFormed = false ∧
    (Instr.profileSetBoot {} (256) false).wellFormed = false ∧
    (Instr.lcAdvance { seq := 0x10000 } 0).wellFormed = false ∧
    (Instr.lcAdvance {} (256)).wellFormed = false ∧
    (Instr.fuseReglock { seq := 0x10000 } 0 0 0 0 0).wellFormed = false ∧
    (Instr.keyProgram { seq := 0x10000 } 0 0).wellFormed = false ∧
    (Instr.keyProgram {} (256) 0).wellFormed = false ∧
    (Instr.keyProgram {} 0 (2 ^ 40)).wellFormed = false ∧
    (Instr.keyRevoke { seq := 0x10000 } 0).wellFormed = false ∧
    (Instr.keyRevoke {} (256)).wellFormed = false ∧
    (Instr.lbSnapshot { seq := 0x10000 } false).wellFormed = false ∧
    (Instr.lbDump { seq := 0x10000 } 0).wellFormed = false ∧
    (Instr.lbDump {} (2 ^ 40)).wellFormed = false ∧
    (Instr.lbRecord { seq := 0x10000 } 0 0).wellFormed = false ∧
    (Instr.lbRecord {} (2 ^ 16) 0).wellFormed = false ∧
    (Instr.lbRecord {} 0 (2 ^ 40)).wellFormed = false ∧
    (Instr.pcieBar2Write (2 ^ 34) [0]).wellFormed = false ∧
    (Instr.pcieBar2Read (2 ^ 34) 1).wellFormed = false ∧
    (Instr.adcClip 0 0).wellFormed = false ∧
    (Instr.adcClip 0 769).wellFormed = false ∧
    (Instr.levelWindowEnd ⟨[], [], List.replicate 192 0, 0, [], [], []⟩).wellFormed = false := by
  decide +kernel

/-- WellFormed refuses each of these terms, one for each of its checks. -/
theorem test_ill_formed_6 :
    (Instr.levelWindowEnd ⟨[], List.replicate 192 0, [], 0, [], [], []⟩).wellFormed = false ∧
    (Instr.binSat false 0 0 []).wellFormed = false ∧
    (Instr.devHistPeriodEnd 0 [] 0).wellFormed = false ∧
    (Instr.fibDecode 0 0 [] [] 0).wellFormed = false ∧
    (Instr.commandFetch []).wellFormed = false ∧
    (Instr.wrAgcBlock 97 0 0).wellFormed = false ∧
    (Instr.frameRxEnd 0 0 0 [] [] ⟨0, 0, 0⟩ 0 0).wellFormed = false ∧
    (Instr.chainBlock 0 (some [])).wellFormed = false ∧
    (Instr.fuseReglock {} 0x2000 0 0 0 0).wellFormed = false ∧
    (Instr.fuseReglock {} 0 0x100 0 0 0).wellFormed = false ∧
    (Instr.fuseReglock {} 0 0 0x100 0 0).wellFormed = false ∧
    (Instr.fuseReglock {} 0 0 0 0x100 0).wellFormed = false ∧
    (Instr.pcieLinkUp 0 3).wellFormed = false ∧
    (Instr.nop { phase := 0x10000 }).wellFormed = false ∧
    (Instr.nop { epoch := 2 ^ 32 }).wellFormed = false := by
  decide +kernel

/-! ### Witnesses: what the hypotheses of a statement name exists, clause by clause -/

theorem witness_every_step_keeps_the_shed_canonical :
    (∃ (s : State) (t : State), s.Inv ∧ step s = .next t) :=
  ⟨{ core := { shed := [⟨5, 1⟩] }, pending := [.hrpProto 0] }, { core := { shed := [⟨5, 1⟩] } }, by unfold State.Inv; decide +kernel, rfl⟩

theorem witness_event_flags_and_page_locks :
    (∃ (s : State) (port : Port) (src : Source), s.core.Free port (sourceEvent src)) ∧
    (∃ (s : State) (port : Port) (p : Fin 29), s.core.Free port (R.PG_EVENT_FORCE.at p)) ∧
    (∃ (s : State) (port : Port) (p : Fin 29) (v : Word), s.core.Free port (R.PG_LOCK.at p) ∧ bitOf v 0 = true ∧ s.core.locked p = false) ∧
    (∃ (s : State) (port : Port) (p : Fin 29) (v : Word), s.core.Free port (R.PG_LOCK.at p) ∧ (bitOf v 0 = false ∨ s.core.locked p = true)) ∧
    (∃ (s : State) (p : Fin 29), s.core.locked p = true ∧ s.core.pageCrc p ≠ Table.get (fun _ => 0) s.core.captured p ∧ bitOf (s.core.reg (R.PG_STATUS.at p)) 3 = false) ∧
    (∃ (s : State) (p : Fin 29), (s.core.locked p = false ∨ s.core.pageCrc p = Table.get (fun _ => 0) s.core.captured p ∨ bitOf (s.core.reg (R.PG_STATUS.at p)) 3 = true)) :=
  ⟨⟨{ core := withRegs [(R.PG_EVENT.at 3, 7)] }, .hrp, .page 3, by unfold Core.Free; decide +kernel⟩,
   ⟨{ core := withRegs [(R.PG_EVENT.at 3, 7)] }, .hrp, 3, by unfold Core.Free; decide +kernel⟩,
   ⟨{ core := withRegs [] }, .hrp, 5, 1, by unfold Core.Free; decide +kernel⟩,
   ⟨{ core := withRegs [(R.PG_LOCK.at 5, 1)] }, .hrp, 5, 1, by unfold Core.Free; decide +kernel⟩,
   ⟨{ core := withRegs [(R.PG_LOCK.at 5, 1)] }, 5, by decide +kernel⟩,
   ⟨{ core := withRegs [] }, 5, by decide +kernel⟩⟩

theorem witness_page_control_follows_the_word :
    (∃ (s : State) (port : Port) (p : Fin 29) (v : Word), s.core.Free port (R.PG_CTRL.at p) ∧ s.core.ctrlRefused p v = true) ∧
    (∃ (s : State) (port : Port) (p : Fin 29) (v : Word), s.core.Free port (R.PG_CTRL.at p) ∧ s.core.ctrlRefused p v = false ∧ bitOf v 1 = false ∧ bitOf v 2 = bitOf (s.core.reg (R.PG_CTRL.at p)) 2) ∧
    (∃ (s : State) (port : Port) (p : Fin 29) (v : Word), s.core.Free port (R.PG_CTRL.at p) ∧ s.core.ctrlRefused p v = false ∧ bitOf v 1 = true) ∧
    (∃ (s : State) (port : Port) (p : Fin 29) (v : Word), s.core.Free port (R.PG_CTRL.at p) ∧ s.core.ctrlRefused p v = false ∧ bitOf v 1 = false ∧ bitOf v 2 = true ∧ bitOf (s.core.reg (R.PG_CTRL.at p)) 2 = false) ∧
    (∃ (s : State) (port : Port) (n : Fin 256) (v : Word), s.core.Free port (R.ST_CTRL.at n) ∧ ((s.core.live n = true → bitOf v 0 = true)) ∧ ((s.core.stState n = 4 → bitOf v 0 = false)) ∧ bitOf v 1 = false ∧ bitOf v 2 = true ∧ bitOf (s.core.reg (R.ST_CTRL.at n)) 2 = false) :=
  ⟨⟨{ core := withRegs [] }, .hrp, 0, 0, by unfold Core.Free; decide +kernel⟩,
   ⟨{ core := withRegs [] }, .hrp, 9, 0, by unfold Core.Free; decide +kernel⟩,
   ⟨{ core := withRegs [(R.PG_EVENT_EN.at 9, 3)] }, .hrp, 9, 3, by unfold Core.Free; decide +kernel⟩,
   ⟨{ core := withRegs [] }, .hrp, 9, 5, by unfold Core.Free; decide +kernel⟩,
   ⟨{ core := withRegs [(R.ST_STATUS.at 5, 3), (R.ST_CTRL.at 5, 1)] }, .hrp, 5, 5, by unfold Core.Free; decide +kernel⟩⟩

theorem witness_register_writes_store_lock_and_reject :
    (∃ (s : State) (port : Port) (a : Nat) (r : RegRow) (h : Nat), s.core.target s.view port a = some (r, h, plainWrite r h) ∧ s.core.Free port h ∧ s.core.locked (h / 4096) = false) ∧
    (∃ (s : State) (port : Port) (a : Nat) (v : Word) (r : RegRow) (h : Nat), s.core.target s.view port a = some (r, h, plainWrite r h) ∧ s.core.Free port h ∧ s.core.locked (h / 4096) = true ∧ r.rw = 0 ∧ r.w1c = 0 ∧ r.w1s = 0 ∧ v &&& BitVec.ofNat 32 r.rwl ≠ s.core.reg h &&& BitVec.ofNat 32 r.rwl ∧ h ≠ R.PG_EVENT.at (h / 4096)) ∧
    (∃ (s : State) (a : Nat), s.view.rowAt a = none) ∧
    (∃ (s : State) (port : Port), s.core.Free port R.TS_QUERY_SEL.at) :=
  ⟨⟨{ core := withRegs [] }, .hrp, R.TT_STAGE_EPOCH.at, R.TT_STAGE_EPOCH, R.TT_STAGE_EPOCH.at, rfl, by unfold Core.Free; decide +kernel, by decide +kernel⟩,
   ⟨{ core := withRegs [(R.PG_LOCK.at 0x12, 1)] }, .hrp, R.WL_HUB_ADDR.at, 5, R.WL_HUB_ADDR, R.WL_HUB_ADDR.at, rfl, by unfold Core.Free; decide +kernel, by decide +kernel⟩,
   ⟨{ core := withRegs [], image := withRegs [] }, 0x80000, by decide +kernel⟩,
   ⟨{ core := withRegs [] }, .pcie, by unfold Core.Free; decide +kernel⟩⟩

theorem witness_register_commands_read_and_write :
    (∃ (s : State) (a : Nat), s.core.ready = true ∧ a < 2 ^ 20 ∧ (s.view.rowAt a).isSome = true) ∧
    (∃ (s : State) (a : Nat), s.core.ready = true ∧ (2 ^ 20 ≤ a ∨ s.view.rowAt a = none)) ∧
    (∃ (s : State) (a : Nat) (r : RegRow) (x : Nat), s.core.ready = true ∧ a < 2 ^ 20 ∧ s.core.target s.view .command a = some (r, x, plainWrite r x) ∧ r.writable ≠ 0 ∧ isGo r = false ∧ goBits r = 0 ∧ r.base ≠ R.UPD_CFG.base ∧ s.core.takenBits .command x = 0 ∧ s.core.inReset (x / 4096) = false ∧ s.core.locked (x / 4096) = false) ∧
    (∃ (s : State) (a : Nat), s.core.ready = true ∧ (2 ^ 20 ≤ a ∨ s.core.cmdTarget s.view a = none)) ∧
    (∃ (s : State), s.core.ready = false) ∧
    (∃ (s : State) (h : CmdHead), s.core.ready = true ∧ h.atEffect = false) :=
  ⟨⟨{ core := withRegs [] }, 4, by decide +kernel⟩,
   ⟨{ core := withRegs [] }, 0x80000, by decide +kernel⟩,
   ⟨{ core := withRegs [] }, R.TT_STAGE_EPOCH.at, R.TT_STAGE_EPOCH, R.TT_STAGE_EPOCH.at, by decide +kernel, by decide +kernel, rfl, by decide +kernel⟩,
   ⟨{ core := withRegs [] }, 0x80000, by decide +kernel⟩,
   ⟨{ core := {} }, by decide +kernel⟩,
   ⟨{ core := withRegs [] }, {}, by decide +kernel⟩⟩

theorem witness_interrupts_are_judged_again :
    (∃ (s : State) (port : Port), s.core.Free port R.IRQ_EOI.at) :=
  ⟨{ core := withRegs [] }, .hrp, by unfold Core.Free; decide +kernel⟩

theorem witness_host_ports_carry_words :
    (∃ (s : State) (d : Word) (par : BitVec 4), s.core.portsServe = true ∧ (List.range 4).all (parityGood d par) = true) ∧
    (∃ (s : State) (d : Word) (par : BitVec 4), s.core.portsServe = true ∧ (List.range 4).all (parityGood d par) = false) ∧
    (∃ (s : State), s.core.portsServe = true) ∧
    (∃ (s : State), s.core.portsServe = false) ∧
    (∃ (s : State), s.core.portsServe = false) ∧
    (∃ (s : State), s.core.linkUp = true) ∧
    (∃ (s : State) (dw : Nat) (be : BitVec 4), s.core.linkUp = true ∧ ¬(dw = 1 ∧ be = 0xF)) ∧
    (∃ (s : State), s.core.linkUp = true ∧ ((∀ x ∈ s.core.posted, x.port ≠ .pcie)) ∧ s.core.pcieReads = []) ∧
    (∃ (s : State), s.core.linkUp = true ∧ ((∃ x ∈ s.core.posted, x.port = .pcie))) ∧
    (∃ (s : State) (dw : Nat) (be : BitVec 4), s.core.linkUp = true ∧ ¬(dw = 1 ∧ be = 0xF)) ∧
    (∃ (s : State), s.core.linkUp = true) ∧
    (∃ (s : State), s.core.linkUp = true) :=
  ⟨⟨{ core := withRegs [(R.BOOT_STATUS.at, 6)] }, 1, 0xE, by decide +kernel⟩,
   ⟨{ core := withRegs [(R.BOOT_STATUS.at, 6)] }, 1, 0xF, by decide +kernel⟩,
   ⟨{ core := withRegs [(R.BOOT_STATUS.at, 6)] }, by decide +kernel⟩,
   ⟨{}, by decide +kernel⟩,
   ⟨{}, by decide +kernel⟩,
   ⟨{ core := { ({} : Core) with linkUp := true } }, by decide +kernel⟩,
   ⟨{ core := { ({} : Core) with linkUp := true } }, 1, 1, by decide +kernel⟩,
   ⟨{ core := { ({} : Core) with linkUp := true } }, by decide +kernel⟩,
   ⟨{ core := { ({} : Core) with linkUp := true, posted := [⟨.pcie, 4, 1⟩] } }, by decide +kernel⟩,
   ⟨{ core := { ({} : Core) with linkUp := true } }, 2, 0xF, by decide +kernel⟩,
   ⟨{ core := { ({} : Core) with linkUp := true } }, by decide +kernel⟩,
   ⟨{ core := { ({} : Core) with linkUp := true } }, by decide +kernel⟩⟩

theorem witness_track_edges_lock_and_turn_epochs :
    (∃ (s : State) (k : Fin 4) (x : Nat) (e : Nat), s.core.sourceDelivers k = true ∧ (s.core.track k).state = .acquire ∧ (s.core.track k).lastEdge = some e ∧ (s.core.track k).windowTakes (s.core.trkSrc k) (x - e) (decide (s.core.fld R.ETH_STATUS.at 1 1 = 1)) = true ∧ (s.core.track k).qual + 1 < s.core.trkQualify k) ∧
    (∃ (s : State) (k : Fin 4) (x : Nat) (e : Nat), s.core.sourceDelivers k = true ∧ (s.core.track k).state = .acquire ∧ (s.core.track k).lastEdge = some e ∧ (s.core.track k).windowTakes (s.core.trkSrc k) (x - e) (decide (s.core.fld R.ETH_STATUS.at 1 1 = 1)) = true ∧ s.core.trkQualify k ≤ (s.core.track k).qual + 1) ∧
    (∃ (s : State) (k : Fin 4) (x : Nat) (e : Nat), s.core.sourceDelivers k = true ∧ (s.core.track k).state = .locked ∧ s.core.trkSrc k ≠ 6 ∧ (s.core.track k).lastEdge = some e ∧ (s.core.track k).windowTakes (s.core.trkSrc k) (x - e) (decide (s.core.fld R.ETH_STATUS.at 1 1 = 1)) = true ∧ (s.core.track k).grid = false ∧ (s.core.track k).slew = 0 ∧ (s.core.track k).len * 65536 ≤ 2 * (x * 65536 - (s.core.track k).start16) ∧ (s.core.track k).epoch < 2 ^ 48 - 1) ∧
    (∃ (s : State) (k : Fin 4) (x : Nat) (e : Nat), s.core.sourceDelivers k = true ∧ (s.core.track k).state = .locked ∧ s.core.trkSrc k ≠ 6 ∧ (s.core.track k).lastEdge = some e ∧ (s.core.track k).windowTakes (s.core.trkSrc k) (x - e) (decide (s.core.fld R.ETH_STATUS.at 1 1 = 1)) = false) ∧
    (∃ (s : State) (k : Fin 4) (x : Nat) (e : Nat), s.core.sourceDelivers k = true ∧ (s.core.track k).state = .acquire ∧ (s.core.track k).lastEdge = some e ∧ (s.core.track k).windowTakes (s.core.trkSrc k) (x - e) (decide (s.core.fld R.ETH_STATUS.at 1 1 = 1)) = false) ∧
    (∃ (s : State) (k : Fin 4) (x : Nat) (e : Nat), s.core.sourceDelivers k = true ∧ (s.core.track k).state = .requal ∧ (s.core.track k).lastEdge = some e ∧ (s.core.track k).windowTakes (s.core.trkSrc k) (x - e) (decide (s.core.fld R.ETH_STATUS.at 1 1 = 1)) = false ∧ (s.core.track k).grid = true ∧ (s.core.track k).mean16 ≠ 0 ∧ s.core.time * 65536 < (s.core.track k).start16 + (s.core.track k).mean16) ∧
    (∃ (s : State) (k : Fin 4), s.core.sourceDelivers k = false) :=
  ⟨⟨{ core := withTrack [(R.TRK_CFG.at 1, 0x20001)] 1 { state := .acquire, lastEdge := some 1000 } }, 1, 984040, 1000, by decide +kernel⟩,
   ⟨{ core := withTrack [(R.TRK_CFG.at 1, 0x20001)] 1 { state := .acquire, lastEdge := some 1000, qual := 1, armed := some 7 } }, 1, 984040, 1000, by decide +kernel⟩,
   ⟨{ core := withTrack [(R.TRK_CFG.at 1, 0x20001)] 1 { state := .locked, lastEdge := some 1000, start16 := 65536000, len := 983040, armed := some 7 } }, 1, 984040, 1000, by decide +kernel⟩,
   ⟨{ core := withTrack [(R.TRK_CFG.at 1, 0x20001)] 1 { state := .locked, lastEdge := some 1000, start16 := 65536000, len := 983040 } }, 1, 2000, 1000, by decide +kernel⟩,
   ⟨{ core := withTrack [(R.TRK_CFG.at 1, 0x20001)] 1 { state := .acquire, lastEdge := some 1000, qual := 1 } }, 1, 2000, 1000, by decide +kernel⟩,
   ⟨{ core := withTrack [(R.TRK_CFG.at 1, 0x20001)] 1 { state := .requal, lastEdge := some 1000, qual := 1, lens := [983040], grid := true, epoch := 9, coast16 := 64424509440, plan16 := 64424509440 } }, 1, 2000, 1000, by decide +kernel⟩,
   ⟨{ core := withRegs [(R.TRK_CFG.at 1, 0x20004)] }, 1, by decide +kernel⟩⟩

theorem witness_tracks_coast_and_return :
    (∃ (s : State) (k : Fin 4), s.core.lossDue k = true ∧ (s.core.track k).state = .locked) ∧
    (∃ (s : State) (k : Fin 4), s.core.lossDue k = false) ∧
    (∃ (s : State) (k : Fin 4), (s.core.track k).state = .coast ∧ s.core.trkSrc k ≠ 6 ∧ (s.core.track k).jump = none ∧ s.core.boundaryReached (s.core.track k) = true ∧ (s.core.track k).armed = none ∧ (s.core.track k).epoch < 2 ^ 48 - 1) ∧
    (∃ (s : State) (k : Fin 4), s.core.trkSrc k = 5 ∧ (s.core.track k).hasEpochs = true ∧ (s.core.track k).armed = none ∧ (s.core.track k).epoch < 2 ^ 48 - 1) ∧
    (∃ (s : State) (k : Fin 4) (d : Int), (s.core.track k).jump = some d ∧ (d.natAbs ≤ 16 ∨ s.core.fld (R.TRK_CFG.at k) 4 1 = 1) ∧ s.core.boundaryReached (s.core.track k) = true) ∧
    (∃ (s : State) (k : Fin 4) (d : Int), (s.core.track k).jump = some d ∧ 16 < d ∧ s.core.fld (R.TRK_CFG.at k) 4 1 = 0 ∧ s.core.boundaryReached (s.core.track k) = true) ∧
    (∃ (s : State) (k : Fin 4) (e : Nat), (s.core.track k).holdEnd16 = some e ∧ e ≤ s.core.time * 65536 ∧ (s.core.track k).armed = none ∧ (s.core.track k).epoch < 2 ^ 48 - 1) :=
  ⟨⟨{ core := { withTrack [(R.TRK_CFG.at 1, 0x20001), (R.SYN0_DISC.at, 0x43)] 1 { state := .locked, lens := [983040], lossBase := 0, armed := some 9, openAt := 0 } with now := 50000 } }, 1, by decide +kernel⟩,
   ⟨{ core := withTrack [(R.TRK_CFG.at 1, 0x20001)] 1 { state := .locked, lens := [983040] } }, 1, by decide +kernel⟩,
   ⟨{ core := { withTrack [(R.TRK_CFG.at 1, 0x20001)] 1 { state := .coast, plan16 := 65536, coast16 := 131072, grid := true } with now := 1 } }, 1, by decide +kernel⟩,
   ⟨{ core := withTrack [(R.TRK_CFG.at 1, 0x20005)] 1 { state := .locked } }, 1, by decide +kernel⟩,
   ⟨{ core := { withTrack [(R.TRK_CFG.at 1, 0x20001)] 1 { state := .locked, jump := some (-12), plan16 := 65536, coast16 := 65536000, grid := true } with now := 1 } }, 1, -12, by decide +kernel⟩,
   ⟨{ core := { withTrack [(R.TRK_CFG.at 1, 0x20001)] 1 { state := .locked, jump := some 100, plan16 := 65536, coast16 := 65536000, grid := true } with now := 1 } }, 1, 100, by decide +kernel⟩,
   ⟨{ core := { withTrack [] 1 { state := .locked, holdEnd16 := some 65536 } with now := 1 } }, 1, 65536, by decide +kernel⟩⟩

theorem witness_track_sources_change_by_their_epochs :
    (∃ (s : State) (port : Port) (k : Fin 4) (v : Word), s.core.Free port (R.TRK_CFG.at k) ∧ s.core.trkSrc k = 0 ∧ fieldOf v 0 3 ≠ 0 ∧ fieldOf v 0 3 < 6 ∧ 2 ≤ fieldOf v 16 4) ∧
    (∃ (s : State) (port : Port) (k : Fin 4) (v : Word), s.core.Free port (R.TRK_CFG.at k) ∧ s.core.trkSrc k ≠ 0 ∧ fieldOf v 0 3 = 0 ∧ s.core.trackInUse k = true ∧ 2 ≤ fieldOf v 16 4) ∧
    (∃ (s : State) (port : Port) (k : Fin 4) (v : Word), s.core.Free port (R.TRK_CFG.at k) ∧ s.core.trkSrc k ≠ 0 ∧ fieldOf v 0 3 ≠ 0 ∧ fieldOf v 0 3 < 7 ∧ fieldOf v 0 3 ≠ s.core.trkSrc k ∧ 2 ≤ fieldOf v 16 4 ∧ sameNominal (s.core.trkSrc k) (fieldOf v 0 3) (s.core.reg (R.TRK_FREE_LEN.at k)).toNat = false) ∧
    (∃ (s : State) (port : Port) (k : Fin 4) (v : Word), s.core.Free port (R.TRK_CFG.at k) ∧ (s.core.trkSrc k = 4 ∨ s.core.trkSrc k = 5) ∧ fieldOf v 0 3 = s.core.trkSrc k ∧ 2 ≤ fieldOf v 16 4 ∧ fieldOf v 8 8 ≠ s.core.fld (R.TRK_CFG.at k) 8 8 ∧ (s.core.track k).state = .locked) ∧
    (∃ (s : State) (port : Port) (k : Fin 4) (v : Word), s.core.Free port (R.TRK_EPOCH_SET_HI.at k) ∧ bitOf v 31 = true) :=
  ⟨⟨{ core := withRegs [] }, .hrp, 1, 0x20001, by unfold Core.Free; decide +kernel⟩,
   ⟨{ core := withTrack [(R.TRK_CFG.at 1, 0x20001), (R.SYN0_DISC.at, 0x43)] 1 { state := .locked } }, .hrp, 1, 0x20000, by unfold Core.Free; decide +kernel⟩,
   ⟨{ core := withTrack [(R.TRK_CFG.at 1, 0x20001)] 1 { state := .locked } }, .hrp, 1, 0x20002, by unfold Core.Free; decide +kernel⟩,
   ⟨{ core := withTrack [(R.TRK_CFG.at 1, 0x20004)] 1 { state := .locked, lens := [4718592], openAt := 5 } }, .hrp, 1, 0x20504, by unfold Core.Free; decide +kernel⟩,
   ⟨{ core := withTrack [(R.TRK_EPOCH_SET_LO.at 1, 5)] 1 { state := .locked } }, .hrp, 1, 0x80000001, by unfold Core.Free; decide +kernel⟩⟩

theorem witness_timetable_gos_add_and_cancel :
    (∃ (s : State) (i : Nat), s.core.ttCheck s.core.ttStaged = 0 ∧ s.core.freeEntry 0 448 = some i) ∧
    (∃ (s : State), s.core.ttCheck s.core.ttStaged ≠ 0) ∧
    (∃ (s : State) (i : Fin 512), i.val < 448 ∧ (s.core.entry i).valid = true) ∧
    (∃ (s : State) (i : Fin 512), (448 ≤ i.val ∨ (s.core.entry i).valid = false)) :=
  ⟨⟨{ core := withTrack [(R.TT_STAGE_CTL.at, 0x10000)] 1 { state := .acquire } }, 0, by decide +kernel⟩,
   ⟨{ core := withRegs [] }, by decide +kernel⟩,
   ⟨{ core := { withRegs [] with tt := [(3, { valid := true })] } }, 3, by decide +kernel⟩,
   ⟨{ core := withRegs [] }, 3, by decide +kernel⟩⟩

theorem witness_timetable_commands_and_firing :
    (∃ (s : State) (h : CmdHead) (pennant : Bool) (action : Nat) (rept : Nat) (target : Nat) (i : Nat) (value : Word) (mask : Word) (e : TTEntry), s.core.ready = true ∧ h.atEffect = false ∧ e = { track := h.track, epoch := h.epoch % 2 ^ 32, phase := h.phase % 2 ^ 16, action := action, pennant := pennant, rept := rept % 256, target := target % 2 ^ 20, value := value, mask := mask, valid := true } ∧ s.core.ttCheck { e with valid := false } = 0 ∧ s.core.freeEntry 0 448 = some i) ∧
    (∃ (s : State) (h : CmdHead) (i : Nat), s.core.ready = true ∧ h.atEffect = false ∧ i < 448 ∧ (s.core.entry i).valid = true) ∧
    (∃ (s : State) (i : Nat), s.core.ready = true ∧ (448 ≤ i ∨ (s.core.entry i).valid = false)) ∧
    (∃ (s : State) (i : Fin 512), s.core.entryDue i = true ∧ (s.core.entry i).action ≠ 1 ∧ (s.core.entry i).rept = 0) ∧
    (∃ (s : State) (i : Fin 512) (d : Core) (ok : Bool), s.core.entryDue i = true ∧ (s.core.entry i).action = 1 ∧ (s.core.entry i).rept = 0 ∧ s.core.writeTo s.view .action (s.core.entry i).target (s.core.entry i).value (s.core.entry i).mask = (d, ok) ∧ d.entry i = s.core.entry i ∧ ((s.core.yardRuns = true → d.yardRuns = true))) ∧
    (∃ (s : State) (i : Fin 512), s.core.entryDue i = false) :=
  ⟨⟨{ core := withTrack [] 1 { state := .acquire } }, { track := 1, epoch := 5, phase := 9 }, true, 0, 2, 4, 0, 1, 3, { track := 1, epoch := 5, phase := 9, pennant := true, action := 0, rept := 2, target := 4, value := 1, mask := 3, valid := true }, by decide +kernel⟩,
   ⟨{ core := { withRegs [] with tt := [(3, { valid := true })] } }, {}, 3, by decide +kernel⟩,
   ⟨{ core := withRegs [] }, 3, by decide +kernel⟩,
   ⟨{ core := { withRegs [] with tt := [(3, { valid := true, pennant := true, mark := some true })] } }, 3, by decide +kernel⟩,
   ⟨{ core := dueWrite }, 3, (dueWrite.writeTo dueWrite .action (R.PG_EVENT_EN.at 9) 5 7).1, (dueWrite.writeTo dueWrite .action (R.PG_EVENT_EN.at 9) 5 7).2, by decide +kernel, by decide +kernel, by decide +kernel, rfl, by decide +kernel, by decide +kernel⟩,
   ⟨{ core := withRegs [] }, 3, by decide +kernel⟩⟩

theorem witness_inputs_wake_and_sleep :
    (∃ (s : State) (port : Port) (i : Fin 3) (v : Word), s.core.Free port (R.RF_CTRL.at i) ∧ fieldOf v 0 2 = 2 ∧ s.core.power i < 2 ∧ bitOf v 2 = bitOf (s.core.reg (R.RF_CTRL.at i)) 2) ∧
    (∃ (s : State) (port : Port) (i : Fin 3) (v : Word), s.core.Free port (R.RF_CTRL.at i) ∧ fieldOf v 0 2 < 2 ∧ s.core.power i = 2 ∧ s.core.powerRefused i (fieldOf v 0 2) = false ∧ bitOf v 2 = false ∧ bitOf (s.core.reg (R.RF_CTRL.at i)) 2 = false) ∧
    (∃ (s : State) (port : Port) (i : Fin 3) (v : Word), s.core.Free port (R.RF_CTRL.at i) ∧ s.core.powerRefused i (fieldOf v 0 2) = true) ∧
    (∃ (s : State) (i : Fin 3) (w : Nat), s.runs (3 + i) = true ∧ (s.core.rf i).wake = some w ∧ w ≤ s.core.now ∧ s.core.samplesFlow = true) ∧
    (∃ (s : State) (i : Fin 3) (w : Nat), ((s.core.rf i).wake = none ∨ ((s.core.rf i).wake = some w ∧ s.core.now < w))) :=
  ⟨⟨{ core := withRegs [] }, .hrp, 1, 2, by unfold Core.Free; decide +kernel⟩,
   ⟨{ core := withRegs [(R.RF_CTRL.at 1, 2), (R.RF_SETTING.at 1, 0x0F05)] }, .hrp, 1, 0, by unfold Core.Free; decide +kernel⟩,
   ⟨{ core := withRegs [] }, .hrp, 1, 3, by unfold Core.Free; decide +kernel⟩,
   ⟨{ core := { (withRegs [(R.SYN0_STATUS.at, 1)]).setRf 1 { wake := some 3 } with now := 5 } }, 1, 3, by decide +kernel⟩,
   ⟨{ core := withRegs [] }, 1, 3, by decide +kernel⟩⟩

theorem witness_agc_mode_changes :
    (∃ (s : State) (port : Port) (i : Fin 3) (v : Word), s.core.Free port (R.RF_CTRL.at i) ∧ fieldOf v 0 2 = s.core.power i ∧ s.core.power i ≠ 3 ∧ bitOf v 2 = true ∧ bitOf (s.core.reg (R.RF_CTRL.at i)) 2 = false ∧ ((∀ x ∈ (s.core.rf i).steps, x.agc = true))) ∧
    (∃ (s : State) (port : Port) (i : Fin 3) (v : Word), s.core.Free port (R.RF_CTRL.at i) ∧ bitOf v 2 = true ∧ bitOf (s.core.reg (R.RF_CTRL.at i)) 2 = false ∧ ((∃ x ∈ (s.core.rf i).steps, x.agc = false))) ∧
    (∃ (s : State) (port : Port) (i : Fin 3) (v : Word), s.core.Free port (R.RF_CTRL.at i) ∧ fieldOf v 0 2 = s.core.power i ∧ s.core.power i ≠ 3 ∧ bitOf v 2 = false ∧ bitOf (s.core.reg (R.RF_CTRL.at i)) 2 = true ∧ ((∀ x ∈ (s.core.rf i).steps, x.seq = none))) ∧
    (∃ (s : State) (i : Fin 3) (x : RfStep) (d : Nat), s.runs (3 + i) = true ∧ s.core.samplesFlow = true ∧ bitOf (s.core.reg (R.RF_CTRL.at i)) 2 = false ∧ (s.core.rf i).steps = [x] ∧ x.agc = true ∧ x.committed = true ∧ x.due = some d ∧ d ≤ s.core.now ∧ x.seq = none ∧ x.setting < 32 ∧ (s.core.rf i).want = none) :=
  ⟨⟨{ core := (withRegs [(R.RF_CTRL.at 1, 2)]).setRf 1 { quiet := 5 } }, .hrp, 1, 6, by unfold Core.Free; decide +kernel⟩,
   ⟨{ core := (withRegs [(R.RF_CTRL.at 1, 2)]).setRf 1 { steps := [{ setting := 3, due := some 5 }] } }, .hrp, 1, 6, by unfold Core.Free; decide +kernel⟩,
   ⟨{ core := (withRegs [(R.RF_CTRL.at 1, 6)]).setRf 1 { steps := [{ setting := 3, due := some 5, agc := true }, { setting := 4, due := some 5, agc := true, committed := true }] } }, .hrp, 1, 2, by unfold Core.Free; decide +kernel⟩,
   ⟨{ core := { (withRegs [(R.RF_CTRL.at 1, 2), (R.SYN0_STATUS.at, 1)]).setRf 1 { steps := [{ setting := 3, due := some 1, agc := true, committed := true }] } with now := 1 } }, 1, { setting := 3, due := some 1, agc := true, committed := true }, 1, by decide +kernel⟩⟩

theorem witness_gain_steps_are_placed :
    (∃ (s : State) (i : Fin 3) (x : RfStep), s.runs (3 + i) = true ∧ s.core.fld (R.STEP_CTL.at i) 18 1 = 1 ∧ x = { setting := s.core.fld (R.STEP_CTL.at i) 24 5, track := s.core.fld (R.STEP_CTL.at i) 16 2, epoch := (s.core.reg (R.STEP_EPOCH.at i)).toNat, phase := s.core.fld (R.STEP_CTL.at i) 0 16, seq := none, due := some (s.core.now + 2), waiting := false } ∧ s.core.stepCheck i x = 0) ∧
    (∃ (s : State) (i : Fin 3), s.runs (3 + i) = true ∧ s.core.power i ≠ 2) ∧
    (∃ (s : State) (i : Fin 3), s.runs (3 + i) = true ∧ ((∀ x ∈ (s.core.rf i).steps, x.seq = none))) ∧
    (∃ (s : State) (h : CmdHead) (i : Fin 3) (setting : Nat) (x : RfStep), s.core.ready = true ∧ h.now = true ∧ h.atEffect = false ∧ x = { setting := setting, track := h.track, epoch := h.epoch % 2 ^ 32, phase := h.phase % 65536, seq := none, due := some (s.core.now + 2), waiting := false } ∧ s.core.stepCheck i x = 0) ∧
    (∃ (s : State) (page : Nat), s.core.ready = true ∧ (page < 3 ∨ 5 < page)) :=
  ⟨⟨{ core := withRegs [(R.RF_CTRL.at 1, 2), (R.STEP_CTL.at 1, 0x05040000)] }, 1, { setting := 5, due := some 2 }, by decide +kernel⟩,
   ⟨{ core := withRegs [] }, 1, by decide +kernel⟩,
   ⟨{ core := (withRegs [(R.RF_CTRL.at 1, 6)]).setRf 1 { steps := [{ setting := 3, due := some 5, agc := true }, { setting := 4, due := some 5, agc := true, committed := true }] } }, 1, by decide +kernel⟩,
   ⟨{ core := withRegs [(R.RF_CTRL.at 1, 2)] }, { now := true, track := 2, epoch := 7 }, 1, 9, { setting := 9, track := 2, epoch := 7, due := some 2 }, by decide +kernel⟩,
   ⟨{ core := withRegs [] }, 6, by decide +kernel⟩⟩

theorem witness_gain_steps_commit_and_land :
    (∃ (s : State) (i : Fin 3) (x : RfStep), s.runs (3 + i) = true ∧ s.core.samplesFlow = true ∧ s.core.committing i = some x) ∧
    (∃ (s : State) (i : Fin 3), s.core.committing i = none) ∧
    (∃ (s : State) (i : Fin 3) (x : RfStep) (d : Nat), s.runs (3 + i) = true ∧ s.core.samplesFlow = true ∧ (s.core.rf i).steps = [x] ∧ x.committed = true ∧ x.due = some d ∧ d ≤ s.core.now ∧ x.seq = none ∧ x.setting < 32 ∧ (s.core.rf i).want = none) ∧
    (∃ (s : State) (i : Fin 3), s.core.samplesFlow = true ∧ ((∀ x ∈ (s.core.rf i).steps, x.committed = false))) :=
  ⟨⟨{ core := (withRegs [(R.RF_CTRL.at 1, 2), (R.SYN0_STATUS.at, 1)]).setRf 1 { steps := [{ setting := 3, due := some 1 }, { setting := 4, due := some 9 }] } }, 1, { setting := 3, due := some 1 }, by decide +kernel⟩,
   ⟨{ core := withRegs [] }, 1, by decide +kernel⟩,
   ⟨{ core := { (withRegs [(R.RF_CTRL.at 1, 2), (R.SYN0_STATUS.at, 1)]).setRf 1 { steps := [{ setting := 3, due := some 1, committed := true, late := true }] } with now := 1 } }, 1, { setting := 3, due := some 1, committed := true, late := true }, 1, by decide +kernel⟩,
   ⟨{ core := (withRegs [(R.SYN0_STATUS.at, 1)]).setRf 1 { steps := [{ setting := 3, due := some 1 }] } }, 1, by decide +kernel⟩⟩

theorem witness_clips_tones_and_windows_are_shown :
    (∃ (s : State) (i : Fin 3) (n : Nat), s.runs (3 + i) = true ∧ 0 < n ∧ s.core.samplesFlow = true ∧ s.core.inputOn i = true ∧ s.core.agcOn i = false) ∧
    (∃ (s : State) (i : Fin 3), s.core.inputOn i = false) ∧
    (∃ (s : State) (port : Port) (i : Fin 3) (v : Word), s.core.Free port (R.TONE_CTRL.at i) ∧ bitOf (s.core.reg (R.TONE_CTRL.at i)) 1 = false ∧ fieldOf v 12 4 ≤ 10 ∧ (if i.val = 0 then 32 else 128) ≤ fieldOf v 4 8 ∧ fieldOf v 4 8 ≤ (if i.val = 0 then 44 else 146)) ∧
    (∃ (s : State) (port : Port) (i : Fin 3) (v : Word), s.core.Free port (R.TONE_CTRL.at i) ∧ (bitOf (s.core.reg (R.TONE_CTRL.at i)) 1 = true ∨ 10 < fieldOf v 12 4)) ∧
    (∃ (s : State) (w : LevelWin) (i : Fin 3) (p : Nat) (q : Nat), s.core.now % 1024 = 0 ∧ 0 < s.core.now ∧ s.core.enabled (3 + i) = true ∧ s.core.enabled 6 = true ∧ s.core.samplesFlow = true ∧ s.core.inputOn i = true ∧ w.rf[i.val]? = some (p, q)) ∧
    (∃ (s : State), s.core.now % 1024 ≠ 0) ∧
    (∃ (s : State), s.runs 0x1C = true) :=
  ⟨⟨{ core := withRegs [(R.RF_CTRL.at 1, 2), (R.SYN0_STATUS.at, 1), (R.ST_STATUS.at 4, 3), (R.ST_CLASS.at 4, 1), (R.ST_ANT.at 4, 1), (R.ST_FREQ.at 4, 97100000)] }, 1, 7, by decide +kernel⟩,
   ⟨{ core := withRegs [] }, 1, by decide +kernel⟩,
   ⟨{ core := withRegs [] }, .hrp, 1, 0x8801, by unfold Core.Free; decide +kernel⟩,
   ⟨{ core := withRegs [(R.TONE_CTRL.at 1, 2)] }, .hrp, 1, 0x8801, by unfold Core.Free; decide +kernel⟩,
   ⟨{ core := { withRegs [(R.RF_CTRL.at 1, 6), (R.SYN0_STATUS.at, 1), (R.WR_STATUS.at, 2)] with now := 1024 } }, { rf := [(1, 2), (3, 4), (5, 6)], binsA := [], binsB := [], rssi := 5, noise := [], temps := [0x7F00], supplies := [1, 2, 3] }, 1, 3, 4, by decide +kernel⟩,
   ⟨{ core := { withRegs [(R.RF_CTRL.at 1, 6), (R.SYN0_STATUS.at, 1)] with now := 1025 } }, by decide +kernel⟩,
   ⟨{ core := withRegs [(R.GPIO_EDGE.at, 0x20001), (R.GPIO_IN.at, 2)] }, by decide +kernel⟩⟩

theorem witness_stall_gos_are_checked_and_placed :
    (∃ (s : State) (u : Nat), s.runs 7 = true ∧ s.core.fld R.OPEN_CTL.at 18 1 = 1 ∧ s.core.freeUnits.head? = some u ∧ s.core.openCheck s.core.openSel true (s.core.fld R.OPEN_CTL.at 16 2) (s.core.reg R.OPEN_EPOCH.at).toNat (s.core.fld R.OPEN_CTL.at 0 16) = 0) ∧
    (∃ (s : State) (code : Nat), s.runs 7 = true ∧ code ≠ 0 ∧ s.core.openCheck s.core.openSel (decide (s.core.fld R.OPEN_CTL.at 18 1 = 1)) (s.core.fld R.OPEN_CTL.at 16 2) (s.core.reg R.OPEN_EPOCH.at).toNat (s.core.fld R.OPEN_CTL.at 0 16) = code) ∧
    (∃ (s : State), s.runs 7 = true ∧ s.core.fld R.OPEN_CTL.at 18 1 = 1 ∧ s.core.stState s.core.openSel ≠ 0 ∧ s.core.stState s.core.openSel ≠ 6 ∧ s.core.sched.length < 64) ∧
    (∃ (s : State), s.runs 7 = true ∧ (s.core.stState s.core.openSel = 0 ∨ s.core.stState s.core.openSel = 6)) ∧
    (∃ (s : State) (u : Nat) (i : Nat), s.runs 7 = true ∧ (s.core.stState s.core.openSel = 2 ∨ s.core.stState s.core.openSel = 3) ∧ s.core.hsState s.core.openSel ≠ 4 ∧ s.core.freeUnits.head? = some u ∧ s.core.ownEntry false = some i) ∧
    (∃ (s : State), s.runs 7 = true ∧ s.core.stState s.core.openSel = 0) :=
  ⟨⟨{ core := fmStall 0 [(R.OPEN_CTL.at, 0x40000)] }, 0, by decide +kernel⟩,
   ⟨{ core := fmStall 3 [(R.OPEN_CTL.at, 0x40000)] }, 1, by decide +kernel⟩,
   ⟨{ core := fmStall 3 [(R.OPEN_CTL.at, 0x40000)] }, by decide +kernel⟩,
   ⟨{ core := fmStall 0 [(R.OPEN_CTL.at, 0x40000)] }, by decide +kernel⟩,
   ⟨{ core := (fmStall 3 []).setUnit 0 1 5 }, 1, 448, by decide +kernel⟩,
   ⟨{ core := fmStall 0 [] }, by decide +kernel⟩⟩

theorem witness_stall_commands_act :
    (∃ (s : State) (h : CmdHead) (n : Fin 256) (cls : Nat) (ant : Nat) (run : Bool) (freq : Word) (preset : Word) (route : Nat) (u : Nat), s.core.ready = true ∧ h.now = true ∧ h.atEffect = false ∧ s.core.stState n = 0 ∧ ((∀ a ∈ [R.ST_CLASS.at n, R.ST_FREQ.at n, R.ST_ANT.at n, R.ST_PRESET.at n, R.ST_ROUTE.at n, R.ST_CTRL.at n], s.core.takenBits .command a = 0)) ∧ (s.core.writeSlot n cls ant run freq preset route).openCheck n true h.track (h.epoch % 2 ^ 32) (h.phase % 65536) = 0 ∧ s.core.freeUnits.head? = some u) ∧
    (∃ (s : State) (n : Fin 256), s.core.ready = true ∧ s.core.stState n ≠ 0 ∧ ((∀ a ∈ [R.ST_CLASS.at n, R.ST_FREQ.at n, R.ST_ANT.at n, R.ST_PRESET.at n, R.ST_ROUTE.at n, R.ST_CTRL.at n], s.core.takenBits .command a = 0))) ∧
    (∃ (s : State) (h : CmdHead) (n : Fin 256), s.core.ready = true ∧ h.now = true ∧ h.atEffect = false ∧ s.core.stState n ≠ 0 ∧ s.core.stState n ≠ 6 ∧ s.core.sched.length < 64 ∧ 0 < s.core.now) ∧
    (∃ (s : State) (h : CmdHead) (n : Fin 256) (u : Nat) (i : Nat), s.core.ready = true ∧ h.atEffect = false ∧ (s.core.stState n = 2 ∨ s.core.stState n = 3) ∧ s.core.hsState n ≠ 4 ∧ s.core.freeUnits.head? = some u ∧ s.core.ownEntry false = some i) ∧
    (∃ (s : State) (n : Fin 256) (ant : Nat) (freq : Word), s.core.ready = true ∧ s.core.stState n = 3 ∧ s.core.cls n = 1 ∧ (s.core.stallRec n).move = none ∧ s.core.hsState n = 0 ∧ ant % 4 < 3 ∧ (freqRange 1 0).1 ≤ freq.toNat ∧ freq.toNat ≤ (freqRange 1 0).2 ∧ ((∀ a ∈ [R.ST_FREQ.at n, R.ST_ANT.at n, R.ST_PRESET.at n], s.core.takenBits .command a = 0))) ∧
    (∃ (s : State) (n : Fin 256), s.core.ready = true ∧ s.core.stState n = 0 ∧ ((∀ a ∈ [R.ST_FREQ.at n, R.ST_ANT.at n, R.ST_PRESET.at n], s.core.takenBits .command a = 0))) :=
  ⟨⟨{ core := fmStall 0 [] }, { now := true, seq := 3 }, 5, 1, 0, true, 97100000, 0, 0xFF00, 0, by decide +kernel⟩,
   ⟨{ core := fmStall 3 [] }, 5, by decide +kernel⟩,
   ⟨{ core := { fmStall 3 [] with now := 9 } }, { now := true, seq := 3 }, 5, by decide +kernel⟩,
   ⟨{ core := (fmStall 3 []).setUnit 0 1 5 }, { seq := 3 }, 5, 1, 448, by decide +kernel⟩,
   ⟨{ core := (fmStall 3 []).setUnit 0 1 5 }, 5, 1, 98100000, by decide +kernel⟩,
   ⟨{ core := fmStall 0 [] }, 5, by decide +kernel⟩⟩

theorem witness_stalls_open_settle_and_close :
    (∃ (s : State) (n : Fin 256), s.runs 7 = true ∧ (s.core.takeDue n true).isSome = true ∧ s.core.stState n = 1 ∧ bitOf (s.image.reg (R.ST_CTRL.at n)) 0 = true ∧ (s.core.stallRec n).syncAt = none) ∧
    (∃ (s : State) (n : Fin 256), s.runs 7 = true ∧ (s.core.takeDue n true).isSome = true ∧ s.core.stState n = 1 ∧ bitOf (s.image.reg (R.ST_CTRL.at n)) 0 = false) ∧
    (∃ (s : State) (n : Fin 256), s.runs 7 = true ∧ (s.core.takeDue n false).isSome = true ∧ s.core.stState n = 3 ∧ (s.core.stallRec n).openedAt ≠ some s.core.now) ∧
    (∃ (s : State) (n : Fin 256), s.runs 7 = true ∧ s.core.stState n = 6) ∧
    (∃ (s : State) (n : Fin 256), s.core.stState n ≠ 6) ∧
    (∃ (s : State) (n : Fin 256), s.runs 6 = true ∧ s.core.settling n = true ∧ s.core.settleTick n = s.core.now ∧ (s.core.stallRec n).syncAt = none ∧ s.core.stState n = 2) ∧
    (∃ (s : State) (n : Fin 256), (s.core.settling n = false ∨ s.core.settleTick n ≠ s.core.now)) ∧
    (∃ (s : State) (n : Fin 256), (s.core.stallRec n).syncAt = some s.core.now ∧ s.core.stState n ≠ 0) ∧
    (∃ (s : State) (n : Fin 256), (s.core.stallRec n).syncAt = none) :=
  ⟨⟨{ core := { (fmStall 1 []).setUnit 0 1 5 with sched := [{ stall := 5, opens := true, due := some 0, track := 0, epoch := 0, phase := 0 }] }, image := withRegs [(R.ST_CTRL.at 5, 1)] }, 5, by decide +kernel⟩,
   ⟨{ core := { (fmStall 1 []).setUnit 0 1 5 with sched := [{ stall := 5, opens := true, due := some 0, track := 0, epoch := 0, phase := 0 }] } }, 5, by decide +kernel⟩,
   ⟨{ core := { (fmStall 3 []).setUnit 0 1 5 with sched := [{ stall := 5, opens := false, due := some 0, track := 0, epoch := 0, phase := 0 }] } }, 5, by decide +kernel⟩,
   ⟨{ core := (fmStall 6 []).setUnit 0 1 5 }, 5, by decide +kernel⟩,
   ⟨{ core := fmStall 3 [] }, 5, by decide +kernel⟩,
   ⟨{ core := withRegs [(R.ST_STATUS.at 5, 0x12)] }, 5, by decide +kernel⟩,
   ⟨{ core := fmStall 3 [] }, 5, by decide +kernel⟩,
   ⟨{ core := (fmStall 2 []).setStallRec 5 { syncAt := some 0 } }, 5, by decide +kernel⟩,
   ⟨{ core := fmStall 3 [] }, 5, by decide +kernel⟩⟩

theorem witness_units_are_moved_and_rebound :
    (∃ (s : State) (n : Fin 256) (m : Move), s.runs 7 = true ∧ (s.core.stallRec n).move = some m ∧ m.m ≤ s.core.now ∧ s.core.stState n = 5 ∧ (m.prior = 2 ∨ m.prior = 3) ∧ m.tgt < 512 ∧ (s.core.awaits = [])) ∧
    (∃ (s : State) (n : Fin 256), (s.core.stallRec n).move = none) ∧
    (∃ (s : State) (n : Fin 256) (cause : Nat) (u : Nat) (i : Nat), s.runs 7 = true ∧ (s.core.stallRec n).retry = some cause ∧ (s.core.stallRec n).retryAt ≤ s.core.now ∧ s.core.freeUnits.head? = some u ∧ s.core.ownEntry false = some i ∧ (s.core.stState n = 2 ∨ s.core.stState n = 3) ∧ s.core.hsState n ≠ 4) ∧
    (∃ (s : State) (n : Fin 256), (s.core.stallRec n).retry = none) ∧
    (∃ (s : State) (n : Fin 256) (u : Nat), s.runs 7 = true ∧ s.core.freeUnits.head? = some u ∧ s.core.stState n = 7 ∧ s.core.fld R.STABLE_CFG.at 0 1 = 1 ∧ (s.core.stallRec n).stoppedAt < s.core.now ∧ bitOf (s.core.reg (R.ST_CTRL.at n)) 0 = true) ∧
    (∃ (s : State) (n : Fin 256), s.core.stState n ≠ 7) ∧
    (∃ (s : State) (u : Nat), s.runs 7 = true ∧ s.core.freeUnits.getLast? = some u ∧ s.core.unitInUse 2 = none ∧ 2 ≤ s.image.freeUnits.length ∧ 2 ≤ s.core.freeUnits.length ∧ s.core.ready = true) ∧
    (∃ (s : State), (s.core.unitInUse 2).isSome = true) :=
  ⟨⟨{ core := ((fmStall 5 []).setUnit 0 1 5).setStallRec 5 { move := some ⟨0, 1, 0, 0, 2, 3, 448⟩ } }, 5, ⟨0, 1, 0, 0, 2, 3, 448⟩, by decide +kernel⟩,
   ⟨{ core := fmStall 3 [] }, 5, by decide +kernel⟩,
   ⟨{ core := ((fmStall 3 []).setUnit 0 1 5).setStallRec 5 { retry := some 2 } }, 5, 2, 1, 448, by decide +kernel⟩,
   ⟨{ core := fmStall 3 [] }, 5, by decide +kernel⟩,
   ⟨{ core := { fmStall 7 [(R.STABLE_CFG.at, 1), (R.ST_CTRL.at 5, 1)] with now := 8 } }, 5, 0, by decide +kernel⟩,
   ⟨{ core := fmStall 3 [] }, 5, by decide +kernel⟩,
   ⟨{ core := fmStall 3 [] }, 271, by decide +kernel⟩,
   ⟨{ core := (fmStall 3 []).setUnit 271 2 0 }, by decide +kernel⟩⟩

theorem witness_stall_words_are_written :
    (∃ (s : State) (port : Port) (n : Fin 256), s.core.Free port (R.ST_FREQ.at n) ∧ s.core.stState n = 0) ∧
    (∃ (s : State) (port : Port) (n : Fin 256) (v : Word), s.core.Free port (R.ST_FREQ.at n) ∧ s.core.stState n = 3 ∧ (s.core.stallRec n).move = none ∧ s.core.hsState n = 0 ∧ (freqRange (s.core.cls n) (s.core.iqCode n)).1 ≤ v.toNat ∧ v.toNat ≤ (freqRange (s.core.cls n) (s.core.iqCode n)).2) ∧
    (∃ (s : State) (port : Port) (n : Fin 256), s.core.Free port (R.ST_FREQ.at n) ∧ s.core.stState n = 1) ∧
    (∃ (s : State) (port : Port) (n : Fin 256) (v : Word), s.core.Free port (R.ST_ANT.at n) ∧ s.core.stState n = 0 ∧ fieldOf v 0 2 ≠ 3) ∧
    (∃ (s : State) (port : Port) (n : Fin 256) (v : Word), s.core.Free port (R.ST_ANT.at n) ∧ fieldOf v 0 2 = 3) ∧
    (∃ (s : State) (port : Port) (n : Fin 256) (v : Word), s.core.Free port (R.ST_ANT.at n) ∧ s.core.stState n = 3 ∧ s.core.cls n = 1 ∧ (s.core.stallRec n).move = none ∧ s.core.hsState n = 0 ∧ fieldOf v 0 2 ≠ 3 ∧ fieldOf v 0 2 ≠ s.core.fld (R.ST_ANT.at n) 0 2 ∧ s.core.iqCode n = 0) ∧
    (∃ (s : State) (port : Port) (n : Fin 256), s.core.Free port (R.ST_PRESET.at n) ∧ s.core.stState n = 0) ∧
    (∃ (s : State) (port : Port) (n : Fin 256), s.core.Free port (R.ST_PRESET.at n) ∧ s.core.stState n = 1) ∧
    (∃ (s : State) (port : Port) (n : Fin 256), s.core.Free port (R.ST_CLASS.at n) ∧ s.core.stState n = 0) ∧
    (∃ (s : State) (port : Port) (n : Fin 256), s.core.Free port (R.ST_CLASS.at n) ∧ s.core.stState n ≠ 0) ∧
    (∃ (s : State) (port : Port) (n : Fin 256) (v : Word), s.core.Free port (R.ST_ROUTE.at n) ∧ s.core.stState n = 0 ∧ fieldOf v 0 6 ≠ 1) ∧
    (∃ (s : State) (port : Port) (n : Fin 256), s.core.Free port (R.ST_ROUTE.at n) ∧ s.core.stState n ≠ 0 ∧ s.core.stState n ≠ 4) ∧
    (∃ (s : State) (port : Port) (n : Fin 256) (v : Word), s.core.Free port (R.ST_CTRL.at n) ∧ s.core.live n = true ∧ bitOf v 0 = false) ∧
    (∃ (s : State) (port : Port) (n : Fin 256) (v : Word), s.core.Free port (R.ST_CTRL.at n) ∧ s.core.stState n = 4 ∧ bitOf v 0 = true) ∧
    (∃ (s : State) (port : Port) (n : Fin 256) (v : Word), s.core.Free port (R.ST_CTRL.at n) ∧ (s.core.stState n = 2 ∨ s.core.stState n = 3) ∧ bitOf v 0 = true ∧ bitOf v 1 = true) :=
  ⟨⟨{ core := fmStall 0 [] }, .hrp, 5, by unfold Core.Free; decide +kernel⟩,
   ⟨{ core := (fmStall 3 []).setUnit 0 1 5 }, .hrp, 5, 98100000, by unfold Core.Free; decide +kernel⟩,
   ⟨{ core := fmStall 1 [] }, .hrp, 5, by unfold Core.Free; decide +kernel⟩,
   ⟨{ core := fmStall 0 [] }, .hrp, 5, 6, by unfold Core.Free; decide +kernel⟩,
   ⟨{ core := fmStall 0 [] }, .hrp, 5, 3, by unfold Core.Free; decide +kernel⟩,
   ⟨{ core := (fmStall 3 []).setUnit 0 1 5 }, .hrp, 5, 1, by unfold Core.Free; decide +kernel⟩,
   ⟨{ core := fmStall 0 [] }, .hrp, 5, by unfold Core.Free; decide +kernel⟩,
   ⟨{ core := fmStall 1 [] }, .hrp, 5, by unfold Core.Free; decide +kernel⟩,
   ⟨{ core := fmStall 0 [] }, .hrp, 5, by unfold Core.Free; decide +kernel⟩,
   ⟨{ core := fmStall 3 [] }, .hrp, 5, by unfold Core.Free; decide +kernel⟩,
   ⟨{ core := fmStall 0 [] }, .hrp, 5, 0xFF02, by unfold Core.Free; decide +kernel⟩,
   ⟨{ core := fmStall 3 [] }, .hrp, 5, by unfold Core.Free; decide +kernel⟩,
   ⟨{ core := (fmStall 3 [(R.ST_CTRL.at 5, 1)]).setUnit 0 1 5 }, .hrp, 5, 0, by unfold Core.Free; decide +kernel⟩,
   ⟨{ core := (fmStall 4 []).setUnit 0 1 5 }, .hrp, 5, 1, by unfold Core.Free; decide +kernel⟩,
   ⟨{ core := (fmStall 3 []).setUnit 0 1 5 }, .hrp, 5, 3, by unfold Core.Free; decide +kernel⟩⟩

theorem witness_filter_sets_are_loaded_through_windows :
    (∃ (s : State) (port : Port) (w : Fin 4), s.core.Free port (R.WIN_SEL.at w)) ∧
    (∃ (s : State) (port : Port) (w : Fin 4) (v : Word) (n : Nat), s.winStall w = n ∧ s.core.Free port (R.FIR_CTL.at n) ∧ (s.image.stState n = 0 ∨ s.image.stState n = 4) ∧ firCtlBad (s.core.cls n) v = false) ∧
    (∃ (s : State) (port : Port) (w : Fin 4) (v : Word) (n : Nat), s.winStall w = n ∧ s.core.Free port (R.FIR_CTL.at n) ∧ ((s.image.stState n ≠ 0 ∧ s.image.stState n ≠ 4) ∨ firCtlBad (s.core.cls n) v = true)) ∧
    (∃ (s : State) (port : Port) (w : Fin 4) (j : Fin 64) (n : Nat), s.winStall w = n ∧ s.core.Free port (R.COEF.at n j) ∧ (s.image.stState n = 0 ∨ s.image.stState n = 4)) ∧
    (∃ (s : State) (port : Port) (w : Fin 4) (j : Fin 64) (n : Nat), s.winStall w = n ∧ s.core.Free port (R.COEF.at n j) ∧ s.image.stState n ≠ 0 ∧ s.image.stState n ≠ 4) ∧
    (∃ (s : State) (port : Port) (n : Fin 256) (v : Word), s.core.Free port (R.CH_CFG.at n) ∧ (bitOf v 0 = false ∨ s.core.cls n = 7)) ∧
    (∃ (s : State) (port : Port) (n : Fin 256) (v : Word), s.core.Free port (R.CH_CFG.at n) ∧ bitOf v 0 = true ∧ s.core.cls n ≠ 7) :=
  ⟨⟨{ core := withRegs [] }, .hrp, 2, by unfold Core.Free; decide +kernel⟩,
   ⟨{ core := withRegs [], image := withRegs [(R.WIN_SEL.at 2, 5)] }, .hrp, 2, 64, 5, by unfold Core.Free; decide +kernel⟩,
   ⟨{ core := fmStall 3 [], image := fmStall 3 [(R.WIN_SEL.at 2, 5)] }, .hrp, 2, 64, 5, by unfold Core.Free; decide +kernel⟩,
   ⟨{ core := withRegs [], image := withRegs [(R.WIN_SEL.at 2, 5)] }, .hrp, 2, 63, 5, by unfold Core.Free; decide +kernel⟩,
   ⟨{ core := fmStall 3 [], image := fmStall 3 [(R.WIN_SEL.at 2, 5)] }, .hrp, 2, 3, 5, by unfold Core.Free; decide +kernel⟩,
   ⟨{ core := fmStall 3 [] }, .hrp, 5, 2, by unfold Core.Free; decide +kernel⟩,
   ⟨{ core := fmStall 3 [] }, .hrp, 5, 3, by unfold Core.Free; decide +kernel⟩⟩

theorem witness_detectors_follow_their_blocks :
    (∃ (s : State) (port : Port) (w : Fin 4) (i : Fin 4) (n : Nat), s.winStall w = n ∧ s.core.Free port (R.DET_THR.at n i) ∧ (s.core.cls n = 1 ∨ s.core.cls n = 2)) ∧
    (∃ (s : State) (port : Port) (w : Fin 4) (i : Fin 4) (v : Word) (n : Nat), s.winStall w = n ∧ s.core.Free port (R.DET_FREQ.at n i) ∧ (s.core.cls n = 1 ∨ s.core.cls n = 2) ∧ fieldOf v 0 24 < (if s.core.cls n = 1 then 3072000 else 384000)) ∧
    (∃ (s : State) (port : Port) (w : Fin 4) (i : Fin 4) (v : Word) (n : Nat), s.winStall w = n ∧ s.core.Free port (R.DET_CFG.at n i) ∧ (s.core.cls n = 1 ∨ s.core.cls n = 2) ∧ fieldOf v 4 4 ≠ 0 ∧ fieldOf v 8 4 ≠ 0 ∧ 63 ≤ fieldOf v 16 16 ∧ s.core.ratesFit n { s.core.rateCfg n with dets := (s.core.rateCfg n).dets.set i (R.DET_CFG.merge 0 (s.core.reg (R.DET_CFG.at n i)) v) } = true) ∧
    (∃ (s : State) (port : Port) (w : Fin 4) (i : Fin 4) (n : Nat), s.winStall w = n ∧ s.core.Free port (R.DET_THR.at n i) ∧ s.core.cls n ≠ 1 ∧ s.core.cls n ≠ 2) ∧
    (∃ (s : State) (n : Fin 256) (i : Fin 4) (r : BitVec 16), s.runs 6 = true ∧ (s.core.det n i).running = true ∧ s.core.live n = true ∧ s.core.settling n = false ∧ bitOf (s.core.reg (R.DET_RESULT.at n i)) 16 = false ∧ bitOf (s.core.reg (R.DET_CFG.at n i)) 0 = true ∧ ((s.core.det n i).thr.extractLsb' 0 16).sle r = true ∧ fieldOf (s.core.det n i).cfg 4 4 ≤ (s.core.det n i).hits + 1) ∧
    (∃ (s : State) (n : Fin 256) (i : Fin 4) (r : BitVec 16), s.runs 6 = true ∧ (s.core.det n i).running = true ∧ s.core.live n = true ∧ s.core.settling n = false ∧ bitOf (s.core.reg (R.DET_RESULT.at n i)) 16 = false ∧ bitOf (s.core.reg (R.DET_CFG.at n i)) 0 = true ∧ ((s.core.det n i).thr.extractLsb' 0 16).sle r = false ∧ fieldOf (s.core.det n i).cfg 4 4 ≠ 0) ∧
    (∃ (s : State) (n : Fin 256) (i : Fin 4), (s.core.det n i).running = false) :=
  ⟨⟨{ core := fmStall 3 [], image := fmStall 3 [(R.WIN_SEL.at 2, 5)] }, .hrp, 2, 1, 5, by unfold Core.Free; decide +kernel⟩,
   ⟨{ core := fmStall 3 [], image := fmStall 3 [(R.WIN_SEL.at 2, 5)] }, .hrp, 2, 1, 64, 5, by unfold Core.Free; decide +kernel⟩,
   ⟨{ core := fmStall 3 [], image := fmStall 3 [(R.WIN_SEL.at 2, 5)] }, .hrp, 2, 1, 0x0FFF0111, 5, by unfold Core.Free; decide +kernel⟩,
   ⟨{ core := withRegs [], image := withRegs [(R.WIN_SEL.at 2, 5)] }, .hrp, 2, 1, 5, by unfold Core.Free; decide +kernel⟩,
   ⟨{ core := ((fmStall 3 [(R.DET_CFG.at 5 1, 0x0FFF0111)]).setDet 5 1 { running := true, cfg := 0x0FFF0111, thr := 0x10 }) }, 5, 1, 0x20, by decide +kernel⟩,
   ⟨{ core := ((fmStall 3 [(R.DET_CFG.at 5 1, 0x0FFF0111)]).setDet 5 1 { running := true, cfg := 0x0FFF0111, thr := 0x10 }) }, 5, 1, 0xFF20, by decide +kernel⟩,
   ⟨{ core := fmStall 3 [] }, 5, 1, by decide +kernel⟩⟩

theorem witness_levels_are_published :
    (∃ (s : State) (b : Bool) (n : Nat), s.runs 6 = true ∧ 0 < n ∧ s.core.inputOn (if b then 2 else 1) = true) ∧
    (∃ (s : State) (n : Fin 256), s.runs 6 = true ∧ s.core.live n = true) ∧
    (∃ (s : State) (n : Fin 256) (g : ChainCfg), s.runs 6 = true ∧ s.core.chain n = some g ∧ s.core.live n = true ∧ fastDue g (s.core.stallRec n).tr s.core.now = true ∧ s.core.antMode n ≠ 2) ∧
    (∃ (s : State) (n : Fin 256), s.core.live n = false) ∧
    (∃ (s : State) (n : Fin 256) (e : Nat) (gait : Nat) (count : Nat) (part : Bool), s.runs 6 = true ∧ s.core.live n = true ∧ (s.core.stallRec n).lastWin = none ∧ s.core.gaitDue n s.core.now = some (e, gait, count, part) ∧ 0 < count ∧ gait < 4 ∧ s.core.antMode n ≠ 2 ∧ s.core.cls n = 6) ∧
    (∃ (s : State) (n : Fin 256), s.core.stState n = 0) ∧
    (∃ (s : State) (n : Fin 256) (a : Word) (g : ChainCfg) (e : Nat) (count : Nat) (part : Bool), s.runs 7 = true ∧ s.core.chain n = some g ∧ s.core.windowDue n (gaitLength (weightGait g)) s.core.now = some (e, count, part) ∧ 256 ≤ count ∧ s.core.live n = true ∧ s.core.antMode n = 2 ∧ bitOf (s.core.reg (R.ST_ANT.at n)) 2 = false ∧ a.toNat < 0x8000) ∧
    (∃ (s : State) (n : Fin 256), s.core.antMode n ≠ 2) :=
  ⟨⟨{ core := fmStall 3 [] }, true, 9, by decide +kernel⟩,
   ⟨{ core := fmStall 3 [] }, 5, by decide +kernel⟩,
   ⟨{ core := { fmStall 3 [] with now := 33 } }, 5, { vhf := true, p := 128, g4 := 11392, lproc := 2808, taps := 128, firStep := 32, cicR := 2, hb1 := true, hb2 := true, l3 := true, firD := 4, k1 := 0, k2 := 0 }, by decide +kernel⟩,
   ⟨{ core := fmStall 4 [] }, 5, by decide +kernel⟩,
   ⟨{ core := { withRegs [(R.ST_CLASS.at 5, 6), (R.ST_FREQ.at 5, 77500), (R.ST_STATUS.at 5, 3), (R.ST_PRESET.at 5, 1)] with now := 16362 } }, 5, 491520, 1, 80, false, by decide +kernel⟩,
   ⟨{ core := fmStall 0 [] }, 5, by decide +kernel⟩,
   ⟨{ core := { fmStall 3 [(R.ST_ANT.at 5, 2)] with now := 4216 } }, 5, 0x1234, { vhf := true, p := 128, g4 := 11392, lproc := 2808, taps := 128, firStep := 32, cicR := 2, hb1 := true, hb2 := true, l3 := true, firD := 4, k1 := 0, k2 := 0 }, 196608, 384, false, by decide +kernel⟩,
   ⟨{ core := fmStall 3 [] }, 5, by decide +kernel⟩⟩

theorem witness_rds_blocks_make_groups :
    (∃ (s : State) (n : Fin 256) (k : Fin 4) (b : BitVec 26) (er : Bool) (i : Nat), s.core.rdsOn n k = true ∧ (((s.core.fmRec n).stream k).block b.toNat er i (s.core.fld (R.FM_CFG.at n) 11 3)).acquired = true) ∧
    (∃ (s : State) (n : Fin 256) (k : Fin 4) (b : BitVec 26) (er : Bool) (i : Nat) (pos : Nat) (w : Nat) (cp : Bool), s.core.rdsOn n k = true ∧ (((s.core.fmRec n).stream k).block b.toNat er i (s.core.fld (R.FM_CFG.at n) 11 3)).acquired = false ∧ (((s.core.fmRec n).stream k).block b.toNat er i (s.core.fld (R.FM_CFG.at n) 11 3)).read = some (pos, w, 0, cp) ∧ (((s.core.fmRec n).stream k).block b.toNat er i (s.core.fld (R.FM_CFG.at n) 11 3)).lost = false ∧ pos ≠ 3 ∧ k = 0) ∧
    (∃ (s : State) (n : Fin 256) (b : BitVec 26) (er : Bool) (i : Nat) (w : Nat) (st : Nat) (cp : Bool) (x : RdsStream), s.core.rdsOn n 1 = true ∧ ((s.core.fmRec n).stream 1).block b.toNat er i (s.core.fld (R.FM_CFG.at n) 11 3) = { stream := x, read := some (3, w, st, cp), acquired := false, lost := false } ∧ x.open_ = true ∧ x.words.length = 4 ∧ ((∃ e ∈ x.words, e.2 < 2))) ∧
    (∃ (s : State) (n : Fin 256) (k : Fin 4), s.core.rdsOn n k = false) ∧
    (∃ (s : State) (j : Fin 64) (b : BitVec 26) (er : Bool) (i : Nat) (w : Nat) (st : Nat) (cp : Bool), ((s.core.scout j).use = 1 ∨ (s.core.scout j).use = 2) ∧ ((s.core.scout j).rds.block b.toNat er i (s.core.fld (R.FM_CFG.at (s.core.scout j).stall) 11 3)).read = some (0, w, st, cp) ∧ st < 2 ∧ (s.core.scout j).pi ≠ some w) :=
  ⟨⟨{ core := (fmStall 3 [(R.FM_CFG.at 5, 0x20)]).setFm 5 { streams := [(0, { prev := [(100, 3)] })] } }, 5, 0, 55511848, false, 126, by decide +kernel⟩,
   ⟨{ core := (fmStall 3 [(R.FM_CFG.at 5, 0x20)]).setFm 5 { streams := [(0, { sync := true, last := 100, pos := 0 })] } }, 5, 0, 55511848, false, 126, 0, 0xD3C2, false, by decide +kernel⟩,
   ⟨{ core := (fmStall 3 [(R.FM_CFG.at 5, 0x40)]).setFm 5 { streams := [(1, { sync := true, last := 100, pos := 3, open_ := true, words := [(1, 0), (2, 3), (3, 0)] })] } }, 5, 4772130, false, 126, 0x1234, 0, false, { sync := true, last := 126, pos := 0, open_ := true, words := [(1, 0), (2, 3), (3, 0), (0x1234, 0)] }, by decide +kernel⟩,
   ⟨{ core := fmStall 4 [(R.FM_CFG.at 5, 0x20)] }, 5, 0, by decide +kernel⟩,
   ⟨{ core := (fmStall 3 []).setScout 7 { use := 1, stall := 5, rds := { sync := true, last := 100, pos := 0 } } }, 7, 55511848, false, 126, 0xD3C2, 0, false, by decide +kernel⟩⟩

theorem witness_fm_figures_are_shown :
    (∃ (s : State) (n : Fin 256), s.core.fmLive n = true ∧ bitOf (s.core.reg (R.FM_CFG.at n)) 4 = true) ∧
    (∃ (s : State) (n : Fin 256), s.core.fmLive n = false) ∧
    (∃ (s : State) (n : Fin 256) (d : BitVec 8), s.core.fmLive n = true ∧ 96 ≤ d.toNat ∧ bitOf (s.core.reg (R.FM_STATUS.at n)) 0 = false) ∧
    (∃ (s : State) (n : Fin 256), s.core.fmLive n = true ∧ bitOf (s.core.reg (R.FM_STATUS.at n)) 0 = true) ∧
    (∃ (d : BitVec 8), d.toNat < 96) ∧
    (∃ (s : State) (n : Fin 256), s.core.fmLive n = true ∧ bitOf (s.core.reg (R.FM_CFG.at n)) 15 = false) ∧
    (∃ (s : State) (n : Fin 256), s.core.fmLive n = false) ∧
    (∃ (s : State) (n : Fin 256) (stamp : Nat), s.core.fmLive n = true ∧ s.core.fld (R.FM_CFG.at n) 16 12 ≠ 0 ∧ s.core.fld (R.FM_CFG.at n) 16 12 * 49152000 ≤ stamp ∧ stamp % (s.core.fld (R.FM_CFG.at n) 16 12 * 49152000) = 0 ∧ (s.core.fmRec n).histFrom ≤ stamp - s.core.fld (R.FM_CFG.at n) 16 12 * 49152000) :=
  ⟨⟨{ core := fmStall 3 [(R.FM_CFG.at 5, 0x10)] }, 5, by decide +kernel⟩,
   ⟨{ core := fmStall 4 [(R.FM_CFG.at 5, 0x10)] }, 5, by decide +kernel⟩,
   ⟨{ core := fmStall 3 [] }, 5, 100, by decide +kernel⟩,
   ⟨{ core := fmStall 3 [(R.FM_STATUS.at 5, 1)] }, 5, by decide +kernel⟩,
   ⟨95, by decide +kernel⟩,
   ⟨{ core := fmStall 3 [] }, 5, by decide +kernel⟩,
   ⟨{ core := fmStall 4 [] }, 5, by decide +kernel⟩,
   ⟨{ core := fmStall 3 [(R.FM_CFG.at 5, 0x10000)] }, 5, 98304000, by decide +kernel⟩⟩

theorem witness_am_carrier_and_amss_are_followed :
    (∃ (s : State) (n : Fin 256), s.core.amLive n = true ∧ bitOf (s.core.reg (R.AM_STATUS.at n)) 0 = false) ∧
    (∃ (s : State) (n : Fin 256), s.core.amLive n = true ∧ bitOf (s.core.reg (R.AM_STATUS.at n)) 0 = true) ∧
    (∃ (s : State) (n : Fin 256) (lock : Bool), bitOf (s.core.reg (R.AM_STATUS.at n)) 0 = lock) ∧
    (∃ (s : State) (n : Fin 256) (kind : BitVec 8) (k : Nat), s.core.amLive n = true ∧ bitOf (s.core.reg (R.AM_CFG.at n)) 2 = true ∧ bitOf (s.core.reg (R.AM_STATUS.at n)) 0 = true ∧ bitOf (s.core.reg (R.AM_STATUS.at n)) 1 = false ∧ (s.core.amRec n).prev = some k ∧ k ≠ kind.toNat) ∧
    (∃ (s : State) (n : Fin 256), s.core.amLive n = true ∧ bitOf (s.core.reg (R.AM_CFG.at n)) 2 = true ∧ bitOf (s.core.reg (R.AM_STATUS.at n)) 0 = true ∧ bitOf (s.core.reg (R.AM_STATUS.at n)) 1 = true) :=
  ⟨⟨{ core := withRegs [(R.ST_CLASS.at 5, 2), (R.ST_STATUS.at 5, 3)] }, 5, by decide +kernel⟩,
   ⟨{ core := withRegs [(R.ST_CLASS.at 5, 2), (R.ST_STATUS.at 5, 3), (R.AM_CFG.at 5, 1), (R.AM_STATUS.at 5, 1)] }, 5, by decide +kernel⟩,
   ⟨{ core := withRegs [(R.ST_CLASS.at 5, 2), (R.ST_STATUS.at 5, 3), (R.AM_STATUS.at 5, 1)] }, 5, true, by decide +kernel⟩,
   ⟨{ core := (withRegs [(R.ST_CLASS.at 5, 2), (R.ST_STATUS.at 5, 3), (R.AM_CFG.at 5, 4), (R.AM_STATUS.at 5, 1)]).setAm 5 { prev := some 1 } }, 5, 2, 1, by decide +kernel⟩,
   ⟨{ core := withRegs [(R.ST_CLASS.at 5, 2), (R.ST_STATUS.at 5, 3), (R.AM_CFG.at 5, 4), (R.AM_STATUS.at 5, 3)] }, 5, by decide +kernel⟩⟩

theorem witness_analogue_class_words_are_written :
    (∃ (s : State) (port : Port) (n : Fin 256) (v : Word), s.core.Free port (R.FM_CFG.at n) ∧ s.core.cls n = 1 ∧ s.core.stState n = 0 ∧ fmCfgBad v = false ∧ s.core.ratesFit n { s.core.rateCfg n with word := R.FM_CFG.merge 0 (s.core.reg (R.FM_CFG.at n)) v } = true) ∧
    (∃ (s : State) (port : Port) (n : Fin 256) (v : Word), s.core.Free port (R.FM_CFG.at n) ∧ s.core.cls n = 1 ∧ (s.core.stState n = 1 ∨ s.core.stState n = 6 ∨ fmCfgBad v = true)) ∧
    (∃ (s : State) (port : Port) (n : Fin 256) (v : Word), s.core.Free port (R.AM_CFG.at n) ∧ s.core.cls n = 2 ∧ s.core.stState n = 0 ∧ s.core.ratesFit n { s.core.rateCfg n with word := R.AM_CFG.merge 0 (s.core.reg (R.AM_CFG.at n)) v } = true ∧ bitOf (s.core.reg (R.AM_STATUS.at n)) 1 = false) ∧
    (∃ (s : State) (port : Port) (n : Fin 256), s.core.Free port (R.AM_CFG.at n) ∧ s.core.cls n = 2 ∧ (s.core.stState n = 1 ∨ s.core.stState n = 6)) :=
  ⟨⟨{ core := fmStall 0 [] }, .hrp, 5, 0x1031, by unfold Core.Free; decide +kernel⟩,
   ⟨{ core := fmStall 1 [] }, .hrp, 5, 0x1031, by unfold Core.Free; decide +kernel⟩,
   ⟨{ core := withRegs [(R.ST_CLASS.at 5, 2)] }, .hrp, 5, 5, by unfold Core.Free; decide +kernel⟩,
   ⟨{ core := withRegs [(R.ST_CLASS.at 5, 2), (R.ST_STATUS.at 5, 6)] }, .hrp, 5, by unfold Core.Free; decide +kernel⟩⟩

theorem witness_dab_sync_follows_the_frames :
    (∃ (s : State) (n : Fin 256), s.core.dabLive n = true ∧ s.core.dabSync n = 0) ∧
    (∃ (s : State) (n : Fin 256), s.core.dabLive n = true ∧ s.core.dabSync n = 1 ∧ 2 ≤ (s.core.dabRec n).passes) ∧
    (∃ (s : State) (n : Fin 256), s.core.dabLive n = true ∧ s.core.dabSync n = 2 ∧ s.core.dabMoveOk n 3 = true) ∧
    (∃ (s : State) (n : Fin 256), s.core.dabLive n = true ∧ 2 ≤ s.core.dabSync n ∧ 3 ≤ (s.core.dabRec n).miss ∧ ((∀ k : Fin 4, s.core.trkSrc k ≠ 4))) ∧
    (∃ (s : State) (n : Fin 256) (goal : Fin 4), s.core.dabMoveOk n goal = false) ∧
    (∃ (s : State) (n : Fin 256), s.core.dabLive n = true ∧ 2 ≤ s.core.dabSync n) ∧
    (∃ (s : State) (n : Fin 256), s.core.dabLive n = true ∧ 2 ≤ s.core.dabSync n ∧ ((∀ k : Fin 4, s.core.trkSrc k ≠ 4 ∨ s.core.fld (R.TRK_CFG.at k) 8 8 ≠ n))) ∧
    (∃ (s : State) (n : Fin 256) (k : Fin 4), s.core.dabLive n = true ∧ 2 ≤ s.core.dabSync n ∧ s.core.trkSrc k = 4 ∧ s.core.fld (R.TRK_CFG.at k) 8 8 = n ∧ ((∀ j : Fin 4, j ≠ k → s.core.trkSrc j ≠ 4))) ∧
    (∃ (s : State) (n : Fin 256), s.core.dabSync n = 0) :=
  ⟨⟨{ core := classStall 3 3 [] }, 5, by decide +kernel⟩,
   ⟨{ core := (classStall 3 3 [(R.DAB_STATUS.at 5, 1), (R.SVC_INFO.at 5 3, 0x800)]).setDab 5 { passes := 2 } }, 5, by decide +kernel⟩,
   ⟨{ core := (classStall 3 3 [(R.DAB_STATUS.at 5, 2)]).setDab 5 { fig00 := true, named := [1], subs := [(1, some {})], settled := 10 } }, 5, by decide +kernel⟩,
   ⟨{ core := (classStall 3 3 [(R.DAB_STATUS.at 5, 7)]).setDab 5 { miss := 3 } }, 5, by decide +kernel⟩,
   ⟨{ core := classStall 3 3 [] }, 5, 2, by decide +kernel⟩,
   ⟨{ core := classStall 3 3 [(R.DAB_STATUS.at 5, 2)] }, 5, by decide +kernel⟩,
   ⟨{ core := classStall 3 3 [(R.DAB_STATUS.at 5, 2)] }, 5, by decide +kernel⟩,
   ⟨{ core := classStall 3 3 [(R.DAB_STATUS.at 5, 2), (R.TRK_CFG.at 2, 0x30504)] }, 5, 2, by decide +kernel⟩,
   ⟨{ core := classStall 3 3 [] }, 5, by decide +kernel⟩⟩

theorem witness_fic_is_read_and_reported :
    (∃ (s : State) (n : Fin 256) (bytes : List Byte), s.core.dabLive n = true ∧ 2 ≤ s.core.dabSync n ∧ fibGood bytes = false) ∧
    (∃ (s : State) (n : Fin 256) (bytes : List Byte), s.core.dabLive n = true ∧ 2 ≤ s.core.dabSync n ∧ fibGood bytes = true ∧ s.core.fld (R.DAB_CFG.at n) 0 2 = 2) ∧
    (∃ (s : State) (n : Fin 256) (bytes : List Byte) (data : List Byte), s.core.dabLive n = true ∧ 2 ≤ s.core.dabSync n ∧ fibGood bytes = true ∧ s.core.fld (R.DAB_CFG.at n) 0 2 = 0 ∧ 0 < data.length) ∧
    (∃ (s : State) (n : Fin 256) (apply : Nat) (conf : List (Nat × SubCh)), s.core.dabLive n = true ∧ 2 ≤ s.core.dabSync n ∧ (s.core.dabRec n).next = some (apply, conf) ∧ (s.core.dabRec n).nextSvc = [] ∧ ((∀ i : Fin 64, s.core.svcValid n i = false)) ∧ s.core.decodes = []) ∧
    (∃ (s : State) (n : Fin 256), (s.core.dabRec n).next = none) ∧
    (∃ (s : State) (n : Fin 256) (cif : Nat), s.core.dabLive n = true ∧ bitOf (s.core.reg (R.DAB_CFG.at n)) 3 = true ∧ cif % (4 * s.core.fld (R.DAB_CFG.at n) 4 4) = 0 ∧ s.core.dabSync n = 3 ∧ (s.core.dabRec n).tiiBroken = false) ∧
    (∃ (s : State) (n : Fin 256), s.core.dabLive n = true ∧ bitOf (s.core.reg (R.DAB_CFG.at n)) 16 = true ∧ bitOf (s.core.reg (R.DAB_STATUS.at n)) 3 = false ∧ (s.core.dabRec n).ficAl = true ∧ (s.core.dabRec n).ficAlarm = true) ∧
    (∃ (s : State) (n : Fin 256), bitOf (s.core.reg (R.DAB_CFG.at n)) 16 = false) ∧
    (∃ (s : State) (n : Fin 256), s.core.dabLive n = true ∧ bitOf (s.core.reg (R.DAB_STATUS.at n)) 3 = true ∧ ((s.core.dabRec n).ficClear = true ∨ (s.core.dabRec n).alarmAt + 2 * ticksPerSecond ≤ s.core.now)) :=
  ⟨⟨{ core := classStall 3 3 [(R.DAB_STATUS.at 5, 2)] }, 5, List.replicate 32 7, by decide +kernel⟩,
   ⟨{ core := classStall 3 3 [(R.DAB_STATUS.at 5, 2), (R.DAB_CFG.at 5, 2)] }, 5, List.replicate 30 7 ++ [220, 200], by decide +kernel⟩,
   ⟨{ core := classStall 3 3 [(R.DAB_STATUS.at 5, 2), (R.DAB_CFG.at 5, 0)] }, 5, List.replicate 30 7 ++ [220, 200], List.replicate 28 1, by decide +kernel⟩,
   ⟨{ core := (classStall 3 3 [(R.DAB_STATUS.at 5, 3)]).setDab 5 { next := some (7, [(2, {}), (4, {})]) } }, 5, 7, [(2, {}), (4, {})], by decide +kernel⟩,
   ⟨{ core := classStall 3 3 [(R.DAB_STATUS.at 5, 2)] }, 5, by decide +kernel⟩,
   ⟨{ core := (classStall 3 3 [(R.DAB_STATUS.at 5, 3), (R.DAB_CFG.at 5, 0x28)]).setDab 5 { tiiBroken := false } }, 5, 16, by decide +kernel⟩,
   ⟨{ core := (classStall 3 3 [(R.DAB_STATUS.at 5, 3), (R.DAB_CFG.at 5, 0x10000)]).setDab 5 { ficAl := true, ficAlarm := true } }, 5, by decide +kernel⟩,
   ⟨{ core := classStall 3 3 [(R.DAB_CFG.at 5, 0)] }, 5, by decide +kernel⟩,
   ⟨{ core := (classStall 3 3 [(R.DAB_STATUS.at 5, 0xB)]).setDab 5 { ficClear := true } }, 5, by decide +kernel⟩⟩

theorem witness_native_frames_are_stored :
    (∃ (s : State) (n : Fin 256) (k : Fin 64) (index : Nat) (err : Bool) (payload : List Byte) (bytes : List Byte) (stamp : Nat) (a : Nat) (o : SubCh), s.core.dabLive n = true ∧ s.core.dabSync n = 3 ∧ (s.core.dabRec n).sub k = some o ∧ o.plus = false ∧ (s.core.dabRec n).full k = true ∧ payload.length = 3 * o.rate ∧ s.core.time ≤ stamp + s.core.delay n 0 + fineMs 50 ∧ frameBytes stamp n (if o.packet then 3 else 1) k (b2n err + (s.core.dabRec n).frameFlags k) ((s.core.dabRec n).seqOf k) (index % 5000) 0 payload = bytes ∧ n * 0x2800000 + (s.core.bay (stallBay n 0)).written % frameRing = a ∧ (s.core.bay (stallBay n 0)).written % frameRing + bytes.length ≤ frameRing) ∧
    (∃ (s : State) (n : Fin 256) (k : Fin 64) (index : Nat) (err : Bool) (payload : List Byte) (bytes : List Byte) (stamp : Nat) (off : Nat) (o : SubCh), s.core.dabLive n = true ∧ s.core.dabSync n = 3 ∧ (s.core.dabRec n).sub k = some o ∧ o.plus = false ∧ (s.core.dabRec n).full k = true ∧ payload.length = 3 * o.rate ∧ s.core.time ≤ stamp + s.core.delay n 0 + fineMs 50 ∧ frameBytes stamp n (if o.packet then 3 else 1) k (b2n err + (s.core.dabRec n).frameFlags k) ((s.core.dabRec n).seqOf k) (index % 5000) 0 payload = bytes ∧ (s.core.bay (stallBay n 0)).written % frameRing = off ∧ frameRing < off + bytes.length ∧ bytes.length ≤ off) ∧
    (∃ (s : State) (n : Fin 256) (k : Fin 64) (index : Nat) (cor : Nat) (err : Bool) (payload : List Byte) (bytes : List Byte) (stamp : Nat) (a : Nat) (o : SubCh), s.core.dabLive n = true ∧ s.core.dabSync n = 3 ∧ (s.core.dabRec n).sub k = some o ∧ o.plus = true ∧ (s.core.dabRec n).full k = true ∧ payload.length = 110 * (o.rate / 8) ∧ s.core.time ≤ stamp + s.core.delay n 0 + fineMs 50 ∧ frameBytes stamp n 2 k (b2n err + (s.core.dabRec n).frameFlags k) ((s.core.dabRec n).seqOf k) (index % 5000) (min 255 cor) payload = bytes ∧ n * 0x2800000 + (s.core.bay (stallBay n 0)).written % frameRing = a ∧ (s.core.bay (stallBay n 0)).written % frameRing + bytes.length ≤ frameRing) ∧
    (∃ (s : State) (n : Fin 256) (k : Fin 4) (mer : Int) (thr : Nat) (payload : List Byte) (bytes : List Byte) (stamp : Nat) (a : Nat), s.core.drmLive n = true ∧ s.core.drmSync n = 4 ∧ (s.core.drmRec n).streams.contains k.val = true ∧ s.core.time ≤ stamp + s.core.delay n 0 + fineMs 50 ∧ frameBytes stamp n 0x10 k (b2n (decide (mer < (thr * 256 : Nat))) + 8 * b2n (!(s.core.drmRec n).started.contains k.val)) (Table.get (fun _ => 0) (s.core.drmRec n).seqs k) ((s.core.drmRec n).frames % 65536) 0 payload = bytes ∧ n * 0x2800000 + (s.core.bay (stallBay n 0)).written % frameRing = a ∧ (s.core.bay (stallBay n 0)).written % frameRing + bytes.length ≤ frameRing) :=
  ⟨⟨{ core := (classStall 3 3 [(R.DAB_STATUS.at 5, 3)]).setDab 5 { subs := [(2, some { rate := 8 })], cifs := 16 } }, 5, 2, 7, true, List.replicate 24 7, frameBytes 0 5 1 2 9 0 7 0 (List.replicate 24 7), 0, 0xC800000, { rate := 8 }, by decide +kernel⟩,
   ⟨{ core := ((classStall 3 3 [(R.DAB_STATUS.at 5, 3)]).setDab 5 { subs := [(2, some { rate := 8 })], cifs := 16 }).setBay 10 { written := 0x27FFFE0 } }, 5, 2, 7, true, List.replicate 24 7, frameBytes 0 5 1 2 9 0 7 0 (List.replicate 24 7), 0, 0x27FFFE0, { rate := 8 }, by decide +kernel⟩,
   ⟨{ core := (classStall 3 3 [(R.DAB_STATUS.at 5, 3)]).setDab 5 { subs := [(2, some { rate := 8, plus := true })], cifs := 16 } }, 5, 2, 7, 300, true, List.replicate 110 7, frameBytes 0 5 2 2 9 0 7 255 (List.replicate 110 7), 0, 0xC800000, { rate := 8, plus := true }, by decide +kernel⟩,
   ⟨{ core := (classStall 4 3 [(R.DRM_STATUS.at 5, 4)]).setDrm 5 { streams := [1] } }, 5, 1, 5, 7, List.replicate 30 7, frameBytes 0 5 16 1 9 0 0 0 (List.replicate 30 7), 0, 0xC800000, by decide +kernel⟩⟩

theorem witness_drm_follows_fac_and_sdc :
    (∃ (s : State) (n : Fin 256) (mode : Fin 5), s.core.drmLive n = true ∧ s.core.drmSync n = 0 ∧ s.core.drmMoveOk n 1 mode = true ∧ (s.core.drmRec n).lastMode ≠ 7 ∧ (s.core.drmRec n).lastMode ≠ mode) ∧
    (∃ (s : State) (n : Fin 256) (mode : Fin 5), s.core.drmLive n = true ∧ 2 ≤ s.core.drmSync n ∧ s.core.drmMoveOk n 0 mode = true) ∧
    (∃ (s : State) (n : Fin 256) (goal : Fin 5) (mode : Fin 5), s.core.drmMoveOk n goal mode = false) ∧
    (∃ (s : State) (n : Fin 256) (f : FacIn), s.core.drmLive n = true ∧ 2 ≤ s.core.drmSync n ∧ f.ref = true ∧ f.ok = true ∧ s.core.cls n = 5 ∧ bitOf (s.core.reg (R.DRM_CFG.at n)) 1 = false ∧ bitOf (s.core.reg (R.DRM_STATUS.at n)) 10 = false) ∧
    (∃ (s : State) (n : Fin 256) (f : FacIn), s.core.drmLive n = true ∧ 2 ≤ s.core.drmSync n ∧ f.ref = false) ∧
    (∃ (s : State) (n : Fin 256), s.core.drmLive n = true ∧ 3 ≤ s.core.drmSync n ∧ bitOf (s.core.reg (R.DRM_CFG.at n)) 2 = false) ∧
    (∃ (s : State) (n : Fin 256), s.core.drmLive n = true ∧ 3 ≤ s.core.drmSync n ∧ bitOf (s.core.reg (R.DRM_CFG.at n)) 2 = true) :=
  ⟨⟨{ core := (classStall 4 3 []).setDrm 5 { lastMode := 2 } }, 5, 1, by decide +kernel⟩,
   ⟨{ core := (classStall 4 3 [(R.DRM_STATUS.at 5, 3)]).setDrm 5 { refMiss := 3 } }, 5, 0, by decide +kernel⟩,
   ⟨{ core := classStall 4 3 [] }, 5, 3, 0, by decide +kernel⟩,
   ⟨{ core := classStall 5 3 [(R.DRM_STATUS.at 5, 3)] }, 5, ⟨true, true, 0, 64, [], 3, true, 1, 0, 0x123456⟩, by decide +kernel⟩,
   ⟨{ core := classStall 5 3 [(R.DRM_STATUS.at 5, 3)] }, 5, ⟨false, true, 0, 64, [], 3, true, 1, 0, 0x123456⟩, by decide +kernel⟩,
   ⟨{ core := classStall 4 3 [(R.DRM_STATUS.at 5, 3)] }, 5, by decide +kernel⟩,
   ⟨{ core := classStall 4 3 [(R.DRM_STATUS.at 5, 3), (R.DRM_CFG.at 5, 4)] }, 5, by decide +kernel⟩⟩

theorem witness_time_marks_are_followed :
    (∃ (s : State) (n : Fin 256) (x : Nat) (a : Nat) (b : Nat), s.core.tcLive n = true ∧ s.core.tcSync n = 0 ∧ (s.core.tcRec n).edges = [a, b] ∧ threeEdges [a, b, x] = true ∧ ((∀ k : Fin 4, s.core.trkSrc k ≠ 5))) ∧
    (∃ (s : State) (n : Fin 256) (x : Nat), s.core.tcLive n = true ∧ s.core.tcSync n ≠ 0 ∧ (s.core.tcRec n).mark < x ∧ (secondsFrom (s.core.tcRec n).mark x).2.natAbs ≤ 983040 ∧ ((∀ k : Fin 4, s.core.trkSrc k ≠ 5)) ∧ bitOf (s.core.reg (R.TC_CFG.at n)) 3 = false) ∧
    (∃ (s : State) (n : Fin 256) (x : Nat), s.core.tcLive n = true ∧ s.core.tcSync n = 1 ∧ (s.core.tcRec n).mark < x ∧ (secondsFrom (s.core.tcRec n).mark x).2.natAbs ≤ 983040 ∧ ((∀ k : Fin 4, s.core.trkSrc k ≠ 5))) ∧
    (∃ (s : State) (n : Fin 256) (x : Nat), s.core.tcSync n ≠ 0 ∧ (x ≤ (s.core.tcRec n).mark ∨ 983040 < (secondsFrom (s.core.tcRec n).mark x).2.natAbs)) ∧
    (∃ (s : State) (n : Fin 256), s.core.tcLive n = true ∧ s.core.gapSecond n = true) ∧
    (∃ (s : State) (n : Fin 256), s.core.gapSecond n = false) ∧
    (∃ (s : State) (n : Fin 256), s.core.tcLive n = true ∧ 1 ≤ s.core.tcSync n ∧ (s.core.tcRec n).mark + 3 * fineSecond + 983040 ≤ s.core.time ∧ ((∀ k : Fin 4, s.core.trkSrc k ≠ 5))) ∧
    (∃ (s : State) (n : Fin 256), s.core.time < (s.core.tcRec n).mark + 3 * fineSecond + 983040) ∧
    (∃ (s : State) (n : Fin 256) (m : TcMinuteIn) (p : Nat), s.core.tcLive n = true ∧ s.core.tcSync n = 2 ∧ minutePasses (s.core.fld (R.TC_CFG.at n) 0 3) m = true ∧ (s.core.tcRec n).minute = some p ∧ p + 1 = minuteNumber m ∧ 1 ≤ (s.core.tcRec n).run ∧ bitOf (s.core.reg (R.TC_CFG.at n)) 4 = false) ∧
    (∃ (s : State) (n : Fin 256), s.core.tcLive n = true ∧ 2 ≤ s.core.tcSync n ∧ (s.core.tcRec n).minute = none ∧ bitOf (s.core.reg (R.TC_CFG.at n)) 4 = false) ∧
    (∃ (s : State) (port : Port) (n : Fin 256) (v : Word), s.core.Free port (R.TC_CFG.at n) ∧ s.core.cls n = 6 ∧ s.core.classWordShut n = false ∧ fieldOf v 0 3 < 4 ∧ fieldOf v 0 3 = s.core.fld (R.TC_CFG.at n) 0 3) ∧
    (∃ (s : State) (port : Port) (n : Fin 256) (v : Word), s.core.Free port (R.TC_CFG.at n) ∧ s.core.cls n = 6 ∧ s.core.classWordShut n = false ∧ fieldOf v 0 3 < 4 ∧ fieldOf v 0 3 ≠ s.core.fld (R.TC_CFG.at n) 0 3 ∧ ((∀ k : Fin 4, s.core.trkSrc k ≠ 5))) ∧
    (∃ (s : State) (port : Port) (n : Fin 256) (v : Word), s.core.Free port (R.TC_CFG.at n) ∧ s.core.cls n = 6 ∧ (s.core.classWordShut n = true ∨ 4 ≤ fieldOf v 0 3)) :=
  ⟨⟨{ core := (classStall 6 3 []).setTc 5 { edges := [100, 49152100] } }, 5, 98304100, 100, 49152100, by decide +kernel⟩,
   ⟨{ core := (classStall 6 3 [(R.TC_STATUS.at 5, 0xE5)]).setTc 5 { mark := 100 } }, 5, 98304000, by decide +kernel⟩,
   ⟨{ core := (classStall 6 3 [(R.TC_STATUS.at 5, 0xE5)]).setTc 5 { mark := 100 } }, 5, 98304000, by decide +kernel⟩,
   ⟨{ core := (classStall 6 3 [(R.TC_STATUS.at 5, 0xE5)]).setTc 5 { mark := 100 } }, 5, 68304000, by decide +kernel⟩,
   ⟨{ core := classStall 6 3 [(R.TC_STATUS.at 5, 0xEA)] }, 5, by decide +kernel⟩,
   ⟨{ core := classStall 6 3 [(R.TC_STATUS.at 5, 0xE6)] }, 5, by decide +kernel⟩,
   ⟨{ core := { classStall 6 3 [(R.TC_STATUS.at 5, 0xE6)] with now := 4000000 } }, 5, by decide +kernel⟩,
   ⟨{ core := classStall 6 3 [(R.TC_STATUS.at 5, 0xE6)] }, 5, by decide +kernel⟩,
   ⟨{ core := (classStall 6 3 [(R.TC_STATUS.at 5, 2)]).setTc 5 { minute := some 228409919, run := 1 } }, 5, ⟨0, 0, 11, 6, 34, false, false, false, true, true⟩, 228409919, by decide +kernel⟩,
   ⟨{ core := classStall 6 3 [(R.TC_STATUS.at 5, 2)] }, 5, by decide +kernel⟩,
   ⟨{ core := classStall 6 0 [] }, .hrp, 5, 0x18, by unfold Core.Free; decide +kernel⟩,
   ⟨{ core := classStall 6 3 [(R.TC_STATUS.at 5, 2)] }, .hrp, 5, 0x1A, by unfold Core.Free; decide +kernel⟩,
   ⟨{ core := classStall 6 1 [] }, .hrp, 5, 0x18, by unfold Core.Free; decide +kernel⟩⟩

theorem witness_decodes_are_added_and_dropped :
    (∃ (s : State) (n : Nat) (sid : Nat) (comp : Nat) (i : Nat) (codec : Nat) (d : Nat) (k : Nat), s.core.fld R.LS_STAGE_CTL.at 0 8 = n ∧ (s.core.reg R.LS_STAGE_SID.at).toNat = sid ∧ s.core.fld R.LS_STAGE_CTL.at 16 4 = comp ∧ s.core.fld R.LS_STAGE_CTL.at 8 8 = 0xFF ∧ s.core.addCheck n sid comp 0xFF = 0 ∧ s.core.service n sid comp = some i ∧ s.core.fld (R.SVC_INFO.at n i) 8 3 = codec ∧ (List.range 64).find? (fun e => decide (s.core.decodeState e = 0)) = some d ∧ s.core.coreWithRoom (codecUnits codec) = some k) ∧
    (∃ (s : State) (code : Nat), s.core.addCheck (s.core.fld R.LS_STAGE_CTL.at 0 8) (s.core.reg R.LS_STAGE_SID.at).toNat (s.core.fld R.LS_STAGE_CTL.at 16 4) (s.core.fld R.LS_STAGE_CTL.at 8 8) = code ∧ code ≠ 0) ∧
    (∃ (s : State) (d : Fin 64), s.core.decodeState d ≠ 0 ∧ (s.core.dec d).owner = none ∧ s.core.memberOf 1 d = none) ∧
    (∃ (s : State) (d : Fin 64), s.core.decodeState d = 0) ∧
    (∃ (s : State) (n : Fin 256) (comp : Nat) (i : Nat) (codec : Nat) (d : Nat) (k : Nat) (sid : Word), s.core.ready = true ∧ comp < 16 ∧ s.core.addCheck n sid.toNat comp 0xFF = 0 ∧ s.core.service n sid.toNat comp = some i ∧ s.core.fld (R.SVC_INFO.at n i) 8 3 = codec ∧ (List.range 64).find? (fun e => decide (s.core.decodeState e = 0)) = some d ∧ s.core.coreWithRoom (codecUnits codec) = some k) ∧
    (∃ (s : State) (d : Fin 64), s.core.ready = true ∧ s.core.decodeState d ≠ 0 ∧ (s.core.dec d).owner = none ∧ s.core.memberOf 1 d = none) ∧
    (∃ (s : State) (d : Nat), s.core.ready = true ∧ 64 ≤ d) ∧
    (∃ (s : State) (d : Fin 64) (n : Nat) (codec : Fin 5), s.core.fld (R.LS_CTL.at d) 0 8 = n ∧ s.core.cls n = 3 ∧ (s.core.decodeState d = 1 ∨ s.core.decodeState d = 2) ∧ (s.core.service n (s.core.reg (R.LS_SID.at d)).toNat (s.core.fld (R.LS_CTL.at d) 16 4)).isSome = true ∧ s.core.fld (R.LS_CTL.at d) 20 3 = codec ∧ codec ≠ 0 ∧ codec ≠ 4) ∧
    (∃ (s : State) (d : Fin 64), s.core.decodeState d = 0) :=
  ⟨⟨{ core := classStall 3 3 [(R.LS_STAGE_CTL.at, 0x1FF05), (R.LS_STAGE_SID.at, 0xD210), (R.SVC_SID.at 5 3, 0xD210), (R.SVC_INFO.at 5 3, 0x1A07), (R.LS_CTL.at 0, 0x10FF06 + 0x10000000)] }, 5, 0xD210, 1, 3, 2, 1, 0, by decide +kernel⟩,
   ⟨{ core := classStall 3 0 [(R.LS_STAGE_CTL.at, 0x1FF05)] }, 1, by decide +kernel⟩,
   ⟨{ core := classStall 3 3 [(R.LS_CTL.at 9, 0x10000000)] }, 9, by decide +kernel⟩,
   ⟨{ core := classStall 3 3 [(R.LS_CTL.at 9, 0x10000000)] }, 8, by decide +kernel⟩,
   ⟨{ core := classStall 3 3 [(R.SVC_SID.at 5 3, 0xD210), (R.SVC_INFO.at 5 3, 0x1A07)] }, 5, 1, 3, 2, 0, 0, 0xD210, by decide +kernel⟩,
   ⟨{ core := classStall 3 3 [(R.LS_CTL.at 9, 0x10000000)] }, 9, by decide +kernel⟩,
   ⟨{ core := classStall 3 3 [] }, 64, by decide +kernel⟩,
   ⟨{ core := classStall 3 3 [(R.LS_SID.at 9, 0xD210), (R.LS_CTL.at 9, 0x1021FF05), (R.SVC_SID.at 5 3, 0xD210), (R.SVC_INFO.at 5 3, 0x1A07)] }, 9, 5, 2, by decide +kernel⟩,
   ⟨{ core := classStall 3 3 [] }, 9, by decide +kernel⟩⟩

theorem witness_scouts_visit_and_hoist_watches :
    (∃ (s : State) (n : Nat) (e : Nat) (i : Nat), s.runs 8 = true ∧ s.core.visitsWanted.head? = some (n, e) ∧ s.core.freeScout = some i ∧ s.core.scoutRoom = true) ∧
    (∃ (s : State) (v : Nat × Nat), s.runs 8 = true ∧ s.core.visitsWanted.head? = some v ∧ (s.core.freeScout = none ∨ s.core.scoutRoom = false) ∧ s.core.starved ≠ some v) ∧
    (∃ (s : State), s.core.visitsWanted = []) ∧
    (∃ (s : State) (i : Fin 64) (n : Nat) (e : Nat), s.runs 8 = true ∧ (s.core.scout i).use = 1 ∧ (s.core.scout i).stall = n ∧ (s.core.scout i).entry = e ∧ s.core.fld R.HOIST_CFG.at 8 4 ≤ (s.core.scout i).windows ∧ (s.core.scout i).mean < s.core.curMargin n + s.core.hyst n ∧ bitOf (s.core.reg (R.HS_CTL.at n)) 7 = false ∧ s.core.candState n e = 2 ∧ n < 256 ∧ e < 40) ∧
    (∃ (s : State) (i : Fin 64) (n : Nat) (e : Nat), s.runs 8 = true ∧ (s.core.scout i).use = 1 ∧ (s.core.scout i).stall = n ∧ (s.core.scout i).entry = e ∧ s.core.fld R.HOIST_CFG.at 8 4 ≤ (s.core.scout i).windows ∧ s.core.curMargin n + s.core.hyst n ≤ (s.core.scout i).mean ∧ bitOf (s.core.reg (R.HS_CTL.at n)) 7 = false ∧ n < 256 ∧ e < 40) ∧
    (∃ (s : State) (i : Fin 64), (s.core.scout i).use ≠ 1) ∧
    (∃ (s : State) (i : Fin 64) (n : Nat) (e : Nat) (first : Nat), s.runs 8 = true ∧ (s.core.scout i).use = 2 ∧ (s.core.scout i).stall = n ∧ (s.core.scout i).entry = e ∧ (s.core.scout i).since = some first ∧ (s.core.scout i).ident = 0 ∧ s.core.idPassed n e = false ∧ s.core.candState n e = 3 ∧ first + s.core.fld (R.HS_DWELL.at n) 24 8 * 10240 ≤ s.core.now ∧ bitOf (s.core.reg (R.HS_CTL.at n)) 7 = false) ∧
    (∃ (s : State) (i : Fin 64), (s.core.scout i).since = none) ∧
    (∃ (s : State) (n : Fin 256) (v : Int), s.runs 8 = true ∧ s.core.hsState n = 1 ∧ s.core.cls n = 1 ∧ s.core.stState n = 3 ∧ s.core.hsSrc n = false ∧ ((∀ e : Fin 40, s.core.afKind n e = 0 ∧ s.core.candState n e = 0)) ∧ -127 * 256 ≤ v ∧ v < 127 * 256 ∧ v - 3072 < s.core.seekThr n ∧ s.core.fld (R.HS_DWELL.at n) 0 8 ≤ (s.core.hoist n).below + 1) ∧
    (∃ (s : State) (n : Fin 256) (v : Int), s.runs 8 = true ∧ s.core.hsState n = 1 ∧ s.core.cls n = 1 ∧ s.core.stState n = 3 ∧ s.core.hsSrc n = false ∧ ((∀ e : Fin 40, s.core.afKind n e = 0 ∧ s.core.candState n e = 0)) ∧ s.core.seekThr n ≤ v - 3072 ∧ 0 < s.core.fld (R.HS_DWELL.at n) 0 8) ∧
    (∃ (s : State) (n : Fin 256), s.core.hsState n = 0) ∧
    (∃ (s : State) (n : Fin 256) (h : Nat), s.runs 8 = true ∧ s.core.hsState n = 5 ∧ (s.core.hoist n).holdEnd = some h ∧ h ≤ s.core.now) ∧
    (∃ (s : State) (n : Fin 256), (s.core.hoist n).holdEnd = none) :=
  ⟨⟨{ core := fmStall 3 [(R.HS_STATUS.at 5, 2), (R.HOIST_CFG.at, 0x3C0540), (R.AFE_TARGET.at 5 9, 98100000), (R.AFE_CTL.at 5 9, 1), (R.AFE_STATE.at 5 9, 1)] }, 5, 9, 0, by decide +kernel⟩,
   ⟨{ core := fmStall 3 [(R.HS_STATUS.at 5, 2), (R.HOIST_CFG.at, 0x3C0500), (R.AFE_TARGET.at 5 9, 98100000), (R.AFE_CTL.at 5 9, 1), (R.AFE_STATE.at 5 9, 1)] }, (5, 9), by decide +kernel⟩,
   ⟨{ core := fmStall 3 [] }, by decide +kernel⟩,
   ⟨{ core := (fmStall 3 [(R.HOIST_CFG.at, 0x3C0540), (R.AFE_STATE.at 5 9, 2)]).setScout 3 { use := 1, stall := 5, entry := 9, windows := 5, sum := -500000 } }, 3, 5, 9, by decide +kernel⟩,
   ⟨{ core := (fmStall 3 [(R.HOIST_CFG.at, 0x3C0540), (R.AFE_STATE.at 5 9, 2)]).setScout 3 { use := 1, stall := 5, entry := 9, windows := 5, sum := 50000 } }, 3, 5, 9, by decide +kernel⟩,
   ⟨{ core := fmStall 3 [] }, 3, by decide +kernel⟩,
   ⟨{ core := { (fmStall 3 [(R.AFE_STATE.at 5 9, 3)]).setScout 3 { use := 2, stall := 5, entry := 9, windows := 5, since := some 0 } with now := 5000000 } }, 3, 5, 9, 0, by decide +kernel⟩,
   ⟨{ core := fmStall 3 [] }, 3, by decide +kernel⟩,
   ⟨{ core := (fmStall 3 [(R.HS_STATUS.at 5, 1)]).setHoist 5 { below := 255 } }, 5, 3072, by decide +kernel⟩,
   ⟨{ core := (fmStall 3 [(R.HS_STATUS.at 5, 1)]).setHoist 5 { below := 255 } }, 5, 12000, by decide +kernel⟩,
   ⟨{ core := fmStall 3 [] }, 5, by decide +kernel⟩,
   ⟨{ core := (fmStall 3 [(R.HS_STATUS.at 5, 5)]).setHoist 5 { holdEnd := some 0 } }, 5, 0, by decide +kernel⟩,
   ⟨{ core := fmStall 3 [] }, 5, by decide +kernel⟩⟩

theorem witness_alignment_leads_to_the_switch :
    (∃ (s : State) (n : Fin 256) (w : AlignWin) (i : Nat), s.runs 8 = true ∧ s.core.hsState n = 3 ∧ (s.core.hoist n).passed = false ∧ (s.core.hoist n).kind = 1 ∧ s.core.fld (R.HS_THR.at n) 24 8 ≤ w.rho ∧ w.unique = true ∧ w.loud = true ∧ s.core.inRange n (signedOf 32 (s.core.reg (R.HS_OFS.at n)).toNat + alignDelta w.d w.oldStamp w.newStamp) false = true ∧ s.core.ownEntry false = some i ∧ s.core.stState n = 3 ∧ s.core.hsCand n < 40) ∧
    (∃ (s : State) (n : Fin 256) (w : AlignWin), s.runs 8 = true ∧ s.core.hsState n = 3 ∧ (s.core.hoist n).passed = false ∧ (w.rho < s.core.fld (R.HS_THR.at n) 24 8 ∨ w.unique = false ∨ w.loud = false) ∧ (s.core.hoist n).tries + 1 < s.core.fld R.HOIST_CFG.at 24 4) ∧
    (∃ (s : State) (n : Fin 256) (w : AlignWin), s.runs 8 = true ∧ s.core.hsState n = 3 ∧ (s.core.hoist n).passed = false ∧ (s.core.hoist n).kind = 1 ∧ (s.core.hoist n).h = none ∧ s.core.scoutsOf n = [] ∧ w.rho < s.core.fld (R.HS_THR.at n) 24 8 ∧ w.loud = true ∧ s.core.fld R.HOIST_CFG.at 24 4 ≤ (s.core.hoist n).tries + 1 ∧ s.core.hsCand n < 40 ∧ (s.core.hoist n).prior < 3) ∧
    (∃ (s : State) (n : Fin 256), s.core.hsState n ≠ 3) ∧
    (∃ (s : State) (n : Fin 256), s.runs 8 = true ∧ s.core.hsState n = 4 ∧ (s.core.hoist n).h = some s.core.now ∧ (s.core.hoist n).kind = 2 ∧ s.core.currentCand n = none ∧ s.core.hsCand n < 40 ∧ (s.core.hoist n).rescue = false) ∧
    (∃ (s : State) (n : Fin 256) (i : Nat), s.runs 8 = true ∧ s.core.hsState n = 4 ∧ (s.core.hoist n).h = some s.core.now ∧ (s.core.hoist n).kind = 1 ∧ s.core.currentCand n = none ∧ s.core.hsCand n < 40 ∧ (s.core.scoutsOf n).find? (fun j => decide ((s.core.scout j).use = 2)) = some i) ∧
    (∃ (s : State) (n : Fin 256), s.core.hsState n ≠ 3 ∧ s.core.hsState n ≠ 4) ∧
    (∃ (s : State) (n : Fin 256) (x : Nat), s.runs 8 = true ∧ (s.core.hoist n).fadeEnd = some x ∧ x ≤ s.core.now ∧ s.core.memberOf 1 (s.core.hsDec n) = none) ∧
    (∃ (s : State) (n : Fin 256), (s.core.hoist n).fadeEnd = none) :=
  ⟨⟨{ core := (fmStall 3 [(R.HS_STATUS.at 5, 0x2403)]).setHoist 5 { kind := 1 } }, 5, ⟨240, true, true, -7, 1000, 4000, 5⟩, 448, by decide +kernel⟩,
   ⟨{ core := (fmStall 3 [(R.HS_STATUS.at 5, 0x2403)]).setHoist 5 { kind := 1 } }, 5, ⟨10, true, true, -7, 1000, 4000, 5⟩, by decide +kernel⟩,
   ⟨{ core := (fmStall 3 [(R.HS_STATUS.at 5, 0x2403)]).setHoist 5 { kind := 1, prior := 2, tries := 15 } }, 5, ⟨10, true, true, -7, 1000, 4000, 5⟩, by decide +kernel⟩,
   ⟨{ core := fmStall 3 [] }, 5, by decide +kernel⟩,
   ⟨{ core := (fmStall 3 [(R.HS_STATUS.at 5, 0x2404), (R.HS_OFS.at 5, 77)]).setHoist 5 { kind := 2, h := some 0, ofsNew := -5 } }, 5, by decide +kernel⟩,
   ⟨{ core := ((fmStall 3 [(R.HS_STATUS.at 5, 0x2404), (R.AFE_TARGET.at 5 9, 98100000)]).setHoist 5 { kind := 1, h := some 0, ofsNew := -5 }).setScout 3 { use := 2, stall := 5, entry := 9, tr := 44 } }, 5, 3, by decide +kernel⟩,
   ⟨{ core := fmStall 3 [] }, 5, by decide +kernel⟩,
   ⟨{ core := (fmStall 3 [(R.HS_STATUS.at 5, 0x75), (R.LS_CTL.at 7, 0x20000005)]).setHoist 5 { fadeEnd := some 0 } }, 5, 0, by decide +kernel⟩,
   ⟨{ core := fmStall 3 [] }, 5, by decide +kernel⟩⟩

theorem witness_hoist_is_commanded :
    (∃ (s : State) (port : Port) (n : Fin 256) (v : Word), s.core.Free port (R.HS_CTL.at n) ∧ bitOf v 0 = true ∧ bitOf (s.core.reg (R.HS_CTL.at n)) 0 = false ∧ s.core.cls n = 1 ∧ s.core.stState n = 3 ∧ s.core.hsState n = 0 ∧ bitOf v 1 = false ∧ fieldOf v 2 2 ≠ 3) ∧
    (∃ (s : State) (port : Port) (n : Fin 256) (v : Word), s.core.Free port (R.HS_CTL.at n) ∧ bitOf v 0 = true ∧ bitOf (s.core.reg (R.HS_CTL.at n)) 0 = false ∧ s.core.cls n ≠ 1) ∧
    (∃ (s : State) (port : Port) (n : Fin 256) (v : Word), s.core.Free port (R.HS_CTL.at n) ∧ bitOf v 0 = false ∧ bitOf (s.core.reg (R.HS_CTL.at n)) 0 = true ∧ (s.core.hsState n = 1 ∨ s.core.hsState n = 2) ∧ (s.core.hoist n).kind = 0 ∧ s.core.hsSrc n = false ∧ s.core.scoutsOf n = [] ∧ bitOf v 1 = false ∧ fieldOf v 2 2 ≠ 3) ∧
    (∃ (s : State) (n : Fin 256), s.runs 8 = true ∧ s.core.hsState n = 1) ∧
    (∃ (s : State) (n : Fin 256), s.runs 8 = true ∧ s.core.hsState n ≠ 1) ∧
    (∃ (s : State) (n : Fin 256) (e : Fin 64) (i : Nat), s.runs 8 = true ∧ s.core.hsState n = 1 ∧ e.val < 40 ∧ s.core.afKind n e = 1 ∧ s.core.afBlocked n e = false ∧ s.core.candState n e = 1 ∧ s.core.hsSrc n = false ∧ s.core.idPassed n e = true ∧ s.core.scoutsOf n = [] ∧ s.core.freeScout = some i ∧ s.core.scoutRoom = true) ∧
    (∃ (s : State) (n : Fin 256) (e : Fin 64), s.runs 8 = true ∧ s.core.hsState n = 1 ∧ (40 ≤ e.val ∨ s.core.afKind n e = 0)) ∧
    (∃ (s : State) (n : Fin 256), s.runs 8 = true ∧ s.core.hsSrc n = true ∧ s.core.hsState n = 1 ∧ s.core.memberOf 0 n = none) ∧
    (∃ (s : State) (n : Fin 256), s.runs 8 = true ∧ s.core.hsSrc n = false) ∧
    (∃ (s : State) (n : Fin 256), s.runs 8 = true ∧ s.core.hsState n = 3 ∧ (s.core.hoist n).kind = 3 ∧ (s.core.hoist n).h = none ∧ (s.core.hoist n).prior = 1 ∧ s.core.scoutsOf n = []) ∧
    (∃ (s : State) (n : Fin 256), s.runs 8 = true ∧ s.core.hsState n ≠ 3 ∧ s.core.hsState n ≠ 4) ∧
    (∃ (s : State) (n : Fin 256) (ops : Nat), s.core.ready = true ∧ ops % 2 = 1 ∧ s.core.hsState n = 1) ∧
    (∃ (s : State) (ops : Nat), s.core.ready = true ∧ ops % 16 = 0) ∧
    (∃ (s : State) (n : Fin 256) (e : Fin 40), s.runs 8 = true ∧ 8 ≤ e.val ∧ s.core.afKind n e ≠ 0 ∧ s.core.afBlocked n e = false ∧ s.core.candState n e = 1 ∧ s.core.scoutsOf n = [] ∧ (s.core.cand n e).confirmed + s.core.fld R.HOIST_AGE.at 0 16 * ticksPerSecond ≤ s.core.now) ∧
    (∃ (s : State) (n : Fin 256) (e : Fin 40), (e.val < 8 ∨ s.core.candState n e = 7)) ∧
    (∃ (s : State) (n : Fin 256) (e : Fin 40) (x : Nat), s.runs 8 = true ∧ s.core.candState n e = 8 ∧ (s.core.cand n e).barEnd = some x ∧ x ≤ s.core.now) ∧
    (∃ (s : State) (n : Fin 256) (e : Fin 40), (s.core.cand n e).barEnd = none) ∧
    (∃ (s : State) (port : Port) (w : Fin 4) (e : Fin 8) (v : Word) (n : Nat), s.image.fld (R.AFW_SEL.at w) 0 8 = n ∧ s.core.Free port (R.AFE_CTL.at n e) ∧ s.core.candState n e = 0 ∧ s.core.scoutsOf n = [] ∧ fieldOf v 0 2 = 2 ∧ s.core.afKind n e = 0) ∧
    (∃ (s : State) (port : Port) (w : Fin 4) (e : Fin 40) (n : Nat), s.image.fld (R.AFW_SEL.at w) 0 8 = n ∧ s.core.Free port (R.AFE_CTL.at n e) ∧ s.core.Free port (R.AFE_TARGET.at n e) ∧ (s.core.candState n e = 5 ∨ s.core.candState n e = 6)) ∧
    (∃ (s : State) (i : Nat), s.runs 8 = true ∧ s.core.measCode = 0 ∧ s.core.freeScout = some i) ∧
    (∃ (s : State), s.runs 8 = true ∧ s.core.measCode ≠ 0) ∧
    (∃ (s : State) (i : Nat), s.runs 8 = true ∧ s.core.measScout = some i) ∧
    (∃ (s : State), s.core.measScout = none) :=
  ⟨⟨{ core := fmStall 3 [] }, .hrp, 5, 0xFFFF0001, by unfold Core.Free; decide +kernel⟩,
   ⟨{ core := withRegs [] }, .hrp, 5, 1, by unfold Core.Free; decide +kernel⟩,
   ⟨{ core := fmStall 3 [(R.HS_CTL.at 5, 0xFFFF0001), (R.HS_STATUS.at 5, 2)] }, .hrp, 5, 0, by unfold Core.Free; decide +kernel⟩,
   ⟨{ core := fmStall 3 [(R.HS_STATUS.at 5, 0xFF000001)] }, 5, by decide +kernel⟩,
   ⟨{ core := fmStall 3 [(R.HS_STATUS.at 5, 0xFF000002)] }, 5, by decide +kernel⟩,
   ⟨{ core := fmStall 3 [(R.HS_STATUS.at 5, 1), (R.HOIST_CFG.at, 0x3C0540), (R.AFE_CTL.at 5 9, 1), (R.AFE_STATE.at 5 9, 1), (R.AFE_MEAS.at 5 9, 0x10000)] }, 5, 9, 0, by decide +kernel⟩,
   ⟨{ core := fmStall 3 [(R.HS_STATUS.at 5, 1)] }, 5, 63, by decide +kernel⟩,
   ⟨{ core := fmStall 3 [(R.HS_STATUS.at 5, 0x29)] }, 5, by decide +kernel⟩,
   ⟨{ core := fmStall 3 [(R.HS_STATUS.at 5, 1)] }, 5, by decide +kernel⟩,
   ⟨{ core := (fmStall 3 [(R.HS_STATUS.at 5, 0x2B)]).setHoist 5 { kind := 3, prior := 1 } }, 5, by decide +kernel⟩,
   ⟨{ core := fmStall 3 [(R.HS_STATUS.at 5, 1)] }, 5, by decide +kernel⟩,
   ⟨{ core := fmStall 3 [(R.HS_STATUS.at 5, 1)] }, 5, 1, by decide +kernel⟩,
   ⟨{ core := fmStall 3 [(R.HS_STATUS.at 5, 1)] }, 0, by decide +kernel⟩,
   ⟨{ core := { fmStall 3 [(R.AFE_TARGET.at 5 39, 98100000), (R.AFE_CTL.at 5 39, 5), (R.AFE_STATE.at 5 39, 1)] with now := 99999999999 } }, 5, 39, by decide +kernel⟩,
   ⟨{ core := fmStall 3 [] }, 5, 7, by decide +kernel⟩,
   ⟨{ core := (fmStall 3 [(R.AFE_STATE.at 5 9, 8)]).setCandRec 5 9 { barEnd := some 0 } }, 5, 9, 0, by decide +kernel⟩,
   ⟨{ core := fmStall 3 [] }, 5, 9, by decide +kernel⟩,
   ⟨{ core := fmStall 3 [], image := withRegs [(R.AFW_SEL.at 1, 5)] }, .hrp, 1, 7, 0x30702, 5, by unfold Core.Free; decide +kernel⟩,
   ⟨{ core := fmStall 3 [(R.AFE_STATE.at 5 9, 6)], image := withRegs [(R.AFW_SEL.at 1, 5)] }, .hrp, 1, 9, 5, by unfold Core.Free; decide +kernel⟩,
   ⟨{ core := fmStall 3 [(R.MEAS_FREQ.at, 98100000)] }, 0, by decide +kernel⟩,
   ⟨{ core := fmStall 3 [(R.MEAS_FREQ.at, 0)] }, by decide +kernel⟩,
   ⟨{ core := { (fmStall 3 []).setScout 3 { use := 3 } with measScout := some 3 } }, 3, by decide +kernel⟩,
   ⟨{ core := fmStall 3 [] }, by decide +kernel⟩⟩

theorem witness_records_become_visible :
    (∃ (s : State) (p : Pennant) (q : Nat) (a : Nat), s.core.made = [p] ∧ p.queue = some q ∧ 2 ≤ q ∧ q < 64 ∧ (p.typ = 0x60 ∨ p.typ = 0x61) ∧ p.alert = false ∧ ((∀ d ∈ p.due, s.core.time ≤ d)) ∧ s.image.qEnabled q = true ∧ s.core.qEnabled q = true ∧ s.core.qShed q = true ∧ s.image.copiesEth p = false ∧ s.image.reg R.PN_EVT_PAGES.at = 0 ∧ (s.core.queue q).hold = [] ∧ s.core.fillWith q (s.image.reg (R.Q_CONS.at q)) + 1 ≤ s.core.ringSize q ∧ s.core.fillWith q (s.core.reg (R.Q_CONS.at q)) + 1 < s.core.ringSize q ∧ (s.core.queue q).fresh + 1 < s.core.fld (R.Q_NOTIFY.at q) 0 16 ∧ (s.core.qBase q + 32 * ((s.core.reg (R.Q_PROD.at q)).toNat % s.core.ringSize q)) % 2 ^ 34 = a) ∧
    (∃ (s : State) (p : Pennant) (q : Nat), s.core.made = [p] ∧ p.queue = some q ∧ (p.typ = 0x60 ∨ p.typ = 0x61) ∧ s.image.qEnabled q = false ∧ s.image.copiesEth p = false ∧ s.image.reg R.PN_EVT_PAGES.at = 0) ∧
    (∃ (s : State) (p : Pennant) (q : Nat), s.core.made = [p] ∧ p.queue = some q ∧ 2 ≤ q ∧ q < 64 ∧ (p.typ = 0x60 ∨ p.typ = 0x61) ∧ s.image.qEnabled q = true ∧ s.core.qEnabled q = true ∧ s.image.copiesEth p = false ∧ s.image.reg R.PN_EVT_PAGES.at = 0 ∧ (s.core.queue q).hold = [] ∧ Core.qRoom s.image s.core q = 0 ∧ s.core.qShed q = true) ∧
    (∃ (s : State), s.core.made = [] ∧ s.image.reg R.PN_EVT_PAGES.at = 0) ∧
    (∃ (s : State) (q : Fin 64) (p : Pennant) (a : Nat), s.core.qEnabled q = true ∧ 2 ≤ q.val ∧ (s.core.queue q).hold = [⟨p, true, false⟩] ∧ s.core.qShed q = true ∧ p.alert = false ∧ ((∀ d ∈ p.due, s.core.time ≤ d)) ∧ 0 < Core.qRoom s.image s.core q ∧ s.core.fillWith q (s.core.reg (R.Q_CONS.at q)) + 1 < s.core.ringSize q ∧ (s.core.queue q).fresh + 1 < s.core.fld (R.Q_NOTIFY.at q) 0 16 ∧ (s.core.qBase q + 32 * ((s.core.reg (R.Q_PROD.at q)).toNat % s.core.ringSize q)) % 2 ^ 34 = a) ∧
    (∃ (s : State) (q : Fin 64), s.core.qEnabled q = false) ∧
    (∃ (s : State) (q : Fin 64), s.core.notifyDue q = true) ∧
    (∃ (s : State) (q : Fin 64), s.core.notifyDue q = false) :=
  ⟨⟨{ core := { withRegs [(R.Q_CFG.at 2, 0x603), (R.Q_NOTIFY.at 2, 4), (R.Q_PROD.at 2, 65), (R.Q_CONS.at 2, 62)] with made := [{ stamp := 7, typ := 0x61, source := 5, queue := some 2 }] }, image := withRegs [(R.Q_CFG.at 2, 0x603), (R.Q_CONS.at 2, 60)] }, { stamp := 7, typ := 0x61, source := 5, queue := some 2 }, 2, 32, by decide +kernel⟩,
   ⟨{ core := { withRegs [] with made := [{ stamp := 7, typ := 0x61, source := 5, queue := some 2 }] }, image := withRegs [] }, { stamp := 7, typ := 0x61, source := 5, queue := some 2 }, 2, by decide +kernel⟩,
   ⟨{ core := { withRegs [(R.Q_CFG.at 2, 0x603), (R.Q_PROD.at 2, 64)] with made := [{ stamp := 7, typ := 0x61, source := 5, queue := some 2 }] }, image := withRegs [(R.Q_CFG.at 2, 0x603)] }, { stamp := 7, typ := 0x61, source := 5, queue := some 2 }, 2, by decide +kernel⟩,
   ⟨{ core := withRegs [], image := withRegs [] }, by decide +kernel⟩,
   ⟨{ core := { withRegs [(R.Q_CFG.at 2, 0x603), (R.Q_NOTIFY.at 2, 4), (R.Q_PROD.at 2, 65), (R.Q_CONS.at 2, 62)] with queues := [(2, { hold := [⟨{ stamp := 7, typ := 0x61, source := 5, queue := some 2 }, true, false⟩] })] }, image := withRegs [(R.Q_CFG.at 2, 0x603), (R.Q_CONS.at 2, 60)] }, 2, { stamp := 7, typ := 0x61, source := 5, queue := some 2 }, 32, by decide +kernel⟩,
   ⟨{ core := withRegs [], image := withRegs [] }, 2, by decide +kernel⟩,
   ⟨{ core := { withRegs [(R.Q_CFG.at 2, 0x603), (R.Q_NOTIFY.at 2, 0x70004)] with now := 10, queues := [(2, { fresh := 1, oldest := 3 })] } }, 2, by decide +kernel⟩,
   ⟨{ core := withRegs [], image := withRegs [] }, 2, by decide +kernel⟩⟩

theorem witness_queues_are_commanded_and_routed :
    (∃ (s : State) (port : Port) (q : Fin 64) (v : Word), 1 ≤ q.val ∧ s.core.Free port (R.Q_CONS.at q) ∧ (v - s.core.reg (R.Q_CONS.at q)).toNat ≤ s.core.fillWith q (s.core.reg (R.Q_CONS.at q))) ∧
    (∃ (s : State) (port : Port) (q : Fin 64) (v : Word), 1 ≤ q.val ∧ s.core.Free port (R.Q_CONS.at q) ∧ s.core.fillWith q (s.core.reg (R.Q_CONS.at q)) < (v - s.core.reg (R.Q_CONS.at q)).toNat) ∧
    (∃ (s : State) (port : Port) (q : Fin 64) (v : Word), 2 ≤ q.val ∧ s.core.Free port (R.Q_CFG.at q) ∧ bitOf v 0 = true ∧ bitOf (s.core.reg (R.Q_CFG.at q)) 0 = false ∧ 6 ≤ fieldOf v 8 4) ∧
    (∃ (s : State) (port : Port) (q : Fin 64) (v : Word), 2 ≤ q.val ∧ s.core.Free port (R.Q_CFG.at q) ∧ (fieldOf v 8 4 < 6 ∨ (bitOf v 0 = false ∧ bitOf (s.core.reg (R.Q_CFG.at q)) 0 = true ∧ s.core.queueInUse q = true))) ∧
    (∃ (s : State) (port : Port) (v : Word), s.core.Free port R.PN_CFG.at ∧ fieldOf v 0 6 ≠ 1 ∧ fieldOf v 8 6 ≠ 1 ∧ s.core.routeCheck s.core.routeByte (fieldOf v 8 6) (fieldOf v 0 6) = none) ∧
    (∃ (s : State) (port : Port) (v : Word), s.core.Free port R.PN_CFG.at ∧ (fieldOf v 0 6 = 1 ∨ fieldOf v 8 6 = 1)) ∧
    (∃ (s : State) (port : Port) (k : Fin 32) (v : Word), s.core.Free port (R.PN_ROUTE.at k) ∧ s.core.routeJudge k (routeWordWritten k v) = (0, 0)) ∧
    (∃ (s : State) (typ : Nat) (byte : Nat), s.core.ready = true ∧ s.core.takenBits .command (R.PN_ROUTE.at (typ / 4)) = 0 ∧ listedType typ = true ∧ hoistType typ = false ∧ byte < 256 ∧ s.core.routeJudge (typ / 4) (routeWordWritten (typ / 4) (putField (s.core.reg (R.PN_ROUTE.at (typ / 4))) (8 * (typ % 4)) 8 byte)) = (0, 0)) ∧
    (∃ (s : State) (typ : Nat), s.core.ready = true ∧ s.core.takenBits .command (R.PN_ROUTE.at (typ / 4)) = 0 ∧ listedType typ = false) ∧
    (∃ (s : State) (b : List Byte), s.core.canFetch = true ∧ s.core.cmdShed = false ∧ b.length = 32 ∧ crc16 (b.take 30) = bytesAt b 30 2 ∧ s.core.inflight.contains (bytesAt b 0 2) = false ∧ bytesAt b 0 2 = s.core.fld R.CMD_STATUS.at 8 16 ∧ s.core.cmdWaiting < s.core.cmdRing) ∧
    (∃ (s : State) (b : List Byte), s.core.canFetch = true ∧ s.core.cmdShed = false ∧ b.length = 32 ∧ crc16 (b.take 30) ≠ bytesAt b 30 2 ∧ s.core.cmdWaiting < s.core.cmdRing) ∧
    (∃ (s : State), s.core.canFetch = false) :=
  ⟨⟨{ core := withRegs [(R.Q_PROD.at 2, 65), (R.Q_CONS.at 2, 62)] }, .hrp, 2, 65, by unfold Core.Free; decide +kernel⟩,
   ⟨{ core := withRegs [(R.Q_PROD.at 2, 65), (R.Q_CONS.at 2, 62)] }, .hrp, 2, 66, by unfold Core.Free; decide +kernel⟩,
   ⟨{ core := withRegs [] }, .hrp, 63, 0x6F3, by unfold Core.Free; decide +kernel⟩,
   ⟨{ core := withRegs [] }, .hrp, 63, 0x5F3, by unfold Core.Free; decide +kernel⟩,
   ⟨{ core := withRegs [] }, .hrp, 0x3F02, by unfold Core.Free; decide +kernel⟩,
   ⟨{ core := withRegs [] }, .hrp, 0x3F01, by unfold Core.Free; decide +kernel⟩,
   ⟨{ core := withRegs [] }, .hrp, 2, 0x03030303, by unfold Core.Free; decide +kernel⟩,
   ⟨{ core := withRegs [] }, 8, 0x83, by decide +kernel⟩,
   ⟨{ core := withRegs [] }, 7, by decide +kernel⟩,
   ⟨{ core := { withRegs [(R.Q_CFG.at 1, 0x60601), (R.CQ0_PROD.at, 1), (R.CMD_STATUS.at, 7 * 256)] with linkUp := true, busMaster := true } }, [7, 0] ++ List.replicate 28 0 ++ leBytes 2 (crc16 ([7, 0] ++ List.replicate 28 0)), by decide +kernel⟩,
   ⟨{ core := { withRegs [(R.Q_CFG.at 1, 0x60601), (R.CQ0_PROD.at, 1), (R.CMD_STATUS.at, 7 * 256)] with linkUp := true, busMaster := true } }, List.replicate 32 1, by decide +kernel⟩,
   ⟨{ core := withRegs [] }, by decide +kernel⟩⟩

theorem witness_teams_members_and_subscriptions :
    (∃ (s : State) (m : Fin 256) (late : Nat), s.runs 0xB = true ∧ s.core.memberValid m = true ∧ s.core.fld (R.MEMBER.at m) 16 1 = 0 ∧ late = 0) ∧
    (∃ (s : State) (m : Fin 256) (late : Nat), s.runs 0xB = true ∧ s.core.memberValid m = true ∧ s.core.fld (R.MEMBER.at m) 16 1 = 0 ∧ 0 < late ∧ s.core.sourceQuiet m = false ∧ s.core.fld (R.MEMBER.at m) 6 2 = 0) ∧
    (∃ (s : State) (m : Fin 256), s.core.memberValid m = false) ∧
    (∃ (s : State) (m : Fin 256), s.runs 0xB = true ∧ s.core.memberValid m = true ∧ s.core.fld (R.MEMBER.at m) 16 1 = 1 ∧ s.core.fld (R.MEMBER.at m) 6 2 = 1) ∧
    (∃ (s : State) (m : Fin 256), s.core.memberValid m = false) ∧
    (∃ (s : State) (n : Fin 256) (count : Nat) (a : Nat) (words : List Word), s.runs 0x1A = true ∧ s.core.stState n ≠ 0 ∧ s.core.cls n = 1 ∧ words.length = 2 * count ∧ 0 < count ∧ count ≤ 1024 ∧ n * 0x2800000 + 8256 * ((s.core.bay (2 * n)).written % 3000) = a) ∧
    (∃ (s : State) (kind : Fin 4) (i : Fin 256) (mpx : Bool), s.core.bayWrites kind i mpx = false) ∧
    (∃ (s : State) (k : Nat) (lat : Nat), s.core.fld R.TEAM_STAGE.at 0 5 = k ∧ s.core.fld R.TEAM_STAGE.at 8 2 = lat ∧ s.core.teamOpen k = false) ∧
    (∃ (s : State) (k : Nat), s.core.fld R.TEAM_STAGE.at 0 5 = k ∧ s.core.teamOpen k = true) ∧
    (∃ (s : State) (k : Nat), s.core.fld R.TEAM_STAGE.at 0 5 = k ∧ s.core.teamOpen k = true ∧ s.core.teamMembers k = []) ∧
    (∃ (s : State) (k : Nat), s.core.fld R.TEAM_STAGE.at 0 5 = k ∧ (s.core.teamOpen k = false ∨ s.core.teamMembers k ≠ [])) ∧
    (∃ (s : State) (k : Fin 32), s.core.ready = true ∧ s.core.teamOpen k = false) ∧
    (∃ (s : State) (k : Nat) (lat : Nat), s.core.ready = true ∧ (32 ≤ k ∨ 4 ≤ lat)) ∧
    (∃ (s : State) (k : Fin 32), s.core.ready = true ∧ s.core.teamOpen k = true ∧ s.core.teamMembers k = []) ∧
    (∃ (s : State) (i : Nat), s.core.subCheck s.core.subStaged = 0 ∧ s.core.freeSub = some i) ∧
    (∃ (s : State) (code : Nat), s.core.subCheck s.core.subStaged = code ∧ code ≠ 0) ∧
    (∃ (s : State) (i : Fin 256), (s.core.sub i).valid = true) ∧
    (∃ (s : State) (i : Fin 256), (s.core.sub i).valid = false) ∧
    (∃ (s : State) (kind : Fin 4) (srcKind : Fin 4) (source : Fin 256) (sel : Fin 256) (queue : Fin 64) (i : Nat), s.core.ready = true ∧ s.core.subCheck { kind := kind, srcKind := srcKind, source := source, sel := sel, queue := queue } = 0 ∧ s.core.freeSub = some i) ∧
    (∃ (s : State) (i : Fin 256), s.core.ready = true ∧ (s.core.sub i).valid = true) :=
  ⟨⟨{ core := withRegs [(R.MEMBER.at 255, 1)] }, 255, 0, by decide +kernel⟩,
   ⟨{ core := fmStall 3 [(R.MEMBER.at 255, 0x501)] }, 255, 2, by decide +kernel⟩,
   ⟨{ core := withRegs [] }, 255, by decide +kernel⟩,
   ⟨{ core := withRegs [(R.MEMBER.at 255, 0x10041)] }, 255, by decide +kernel⟩,
   ⟨{ core := withRegs [] }, 255, by decide +kernel⟩,
   ⟨{ core := fmStall 3 [] }, 5, 2, 0xC800000, [0xFFFFFFFF, 1, 2, 3], by decide +kernel⟩,
   ⟨{ core := withRegs [] }, 0, 5, false, by decide +kernel⟩,
   ⟨{ core := withRegs [(R.TEAM_STAGE.at, 0x21F)] }, 31, 2, by decide +kernel⟩,
   ⟨{ core := withRegs [(R.TEAM_STAGE.at, 0x21F), (R.TEAM.at 31, 1)] }, 31, by decide +kernel⟩,
   ⟨{ core := withRegs [(R.TEAM_STAGE.at, 0x21F), (R.TEAM.at 31, 1)] }, 31, by decide +kernel⟩,
   ⟨{ core := withRegs [(R.TEAM_STAGE.at, 0x21F), (R.TEAM.at 31, 1), (R.MEMBER.at 0, 63)] }, 31, by decide +kernel⟩,
   ⟨{ core := withRegs [] }, 31, by decide +kernel⟩,
   ⟨{ core := withRegs [] }, 32, 3, by decide +kernel⟩,
   ⟨{ core := withRegs [(R.TEAM.at 31, 1)] }, 31, by decide +kernel⟩,
   ⟨{ core := { withRegs [(R.SUB_STAGE.at, 0x0200000F)] with linkUp := true, pcieCap := 48000 } }, 0, by decide +kernel⟩,
   ⟨{ core := withRegs [(R.SUB_STAGE.at, 0x0100070F)] }, 2, by decide +kernel⟩,
   ⟨{ core := { withRegs [] with subs := [(255, { valid := true })] } }, 255, by decide +kernel⟩,
   ⟨{ core := withRegs [] }, 255, by decide +kernel⟩,
   ⟨{ core := { withRegs [] with linkUp := true, pcieCap := 48000 } }, 3, 3, 7, 0, 2, 0, by decide +kernel⟩,
   ⟨{ core := { withRegs [] with subs := [(255, { valid := true })] } }, 255, by decide +kernel⟩⟩

theorem witness_ports_and_ethernet :
    (∃ (s : State) (port : Port) (p : Fin 8) (v : Word), s.core.Free port (R.SAP_CFG.at p) ∧ bitOf v 0 = true ∧ bitOf (s.core.reg (R.SAP_CFG.at p)) 0 = false ∧ fieldOf v 2 2 ≠ 3 ∧ fieldOf v 4 2 = 0 ∧ bitOf v 1 = false ∧ s.core.fld (R.SAP_STATUS.at p) 3 1 = 0) ∧
    (∃ (s : State) (port : Port) (p : Fin 8) (v : Word), s.core.Free port (R.SAP_CFG.at p) ∧ fieldOf v 2 2 = 3) ∧
    (∃ (s : State) (port : Port) (p : Fin 8) (k : Fin 16) (v : Word), s.core.Free port (R.SAP_MAP.at p k) ∧ s.core.mapCheck (v.toNat % 65536) = 0) ∧
    (∃ (s : State) (port : Port) (p : Fin 8) (k : Fin 16) (v : Word), s.core.Free port (R.SAP_MAP.at p k) ∧ s.core.mapCheck (v.toNat % 65536) ≠ 0) ∧
    (∃ (s : State) (p : Fin 8) (k : Fin 16) (v : Nat), s.core.ready = true ∧ s.core.takenBits .command (R.SAP_MAP.at p k) = 0 ∧ s.core.mapCheck (v % 65536) = 0) ∧
    (∃ (s : State) (port : Port) (p : Fin 8), s.core.Free port (R.SAP_MASK_NEXT.at p) ∧ s.core.sapOn p = true) ∧
    (∃ (s : State) (p : Fin 8), s.core.ready = true ∧ s.core.takenBits .command (R.SAP_MASK_NEXT.at p) = 0 ∧ s.core.sapOn p = true) ∧
    (∃ (s : State) (p : Fin 8), s.runs 0xC = true ∧ s.core.maskDue p = true) ∧
    (∃ (s : State) (p : Fin 8), s.core.maskDue p = false) ∧
    (∃ (s : State) (p : Fin 8), s.runs 0xC = true ∧ s.core.sapSlave p = true) ∧
    (∃ (s : State) (p : Fin 8), s.runs 0xD = true ∧ s.core.sapSlave p = true) ∧
    (∃ (s : State) (offset : Int), s.runs 0xE = true ∧ s.core.ethUp = true ∧ s.core.fld R.ETH_CFG.at 2 1 = 1 ∧ s.core.fld R.ETH_STATUS.at 1 1 = 0 ∧ offset.natAbs < 1000 ∧ 15 ≤ s.core.ptp.good) ∧
    (∃ (s : State), s.runs 0xE = true ∧ s.core.ptpTimeoutDue = true) ∧
    (∃ (s : State), s.core.ptpTimeoutDue = false) ∧
    (∃ (s : State), s.runs 0xE = true ∧ s.core.ethUp = true ∧ bitOf (s.core.reg R.ETH_VLAN.at) 15 = false) ∧
    (∃ (s : State) (target : Word), target ≠ s.core.reg R.IP_ADDR.at) ∧
    (∃ (s : State) (i : Fin 64) (g : Nat) (l : List (BitVec 24)), s.runs 0xE = true ∧ bitOf (s.core.reg (R.AES_CFG.at i)) 0 = true ∧ s.core.fld R.ETH_CFG.at 0 1 = 1 ∧ l.length = aesSamples (s.core.reg (R.AES_CFG.at i)) * s.core.fld (R.AES_CFG.at i) 3 4 ∧ g % 1024 = 0 ∧ s.core.fld R.ETH_STATUS.at 0 2 = 3 ∧ (s.core.aes i).next = none) ∧
    (∃ (s : State) (i : Fin 64) (g : Nat) (l : List (BitVec 24)), s.runs 0xE = true ∧ bitOf (s.core.reg (R.AES_CFG.at i)) 0 = true ∧ s.core.fld R.ETH_CFG.at 0 1 = 1 ∧ l.length = aesSamples (s.core.reg (R.AES_CFG.at i)) * s.core.fld (R.AES_CFG.at i) 3 4 ∧ g % 1024 = 0 ∧ s.core.fld R.ETH_STATUS.at 0 1 = 0 ∧ (s.core.aes i).lost = false) ∧
    (∃ (s : State) (i : Fin 64), bitOf (s.core.reg (R.AES_CFG.at i)) 0 = false) ∧
    (∃ (s : State), s.runs 0xE = true ∧ s.core.datagramDue = true ∧ s.core.fld R.PEN_CFG.at 0 1 = 1 ∧ s.core.fld R.ETH_CFG.at 0 1 = 1 ∧ s.core.fld R.ETH_STATUS.at 0 1 = 1) ∧
    (∃ (s : State), s.core.datagramDue = false) ∧
    (∃ (s : State), s.runs 0xE = true) ∧
    (∃ (s : State), s.runs 0xE = true) ∧
    (∃ (s : State) (i : Fin 64) (j : Fin 8) (v : Nat), s.core.ready = true ∧ s.core.takenBits .command (R.AES_MAP.at i (j / 2)) = 0 ∧ bitOf (s.core.reg (R.AES_CFG.at i)) 0 = false ∧ s.core.mapCheck (v % 65536) = 0) ∧
    (∃ (s : State) (i : Fin 64) (en : Bool), s.core.ready = true ∧ s.core.takenBits .command (R.AES_CFG.at i) = 0 ∧ s.core.aesCheck i (putField (s.core.reg (R.AES_CFG.at i)) 0 1 (b2n en)) = 0) ∧
    (∃ (s : State) (i : Nat), s.core.ready = true ∧ 64 ≤ i) :=
  ⟨⟨{ core := withRegs [] }, .hrp, 7, 0xC01, by unfold Core.Free; decide +kernel⟩,
   ⟨{ core := withRegs [] }, .hrp, 7, 0xC, by unfold Core.Free; decide +kernel⟩,
   ⟨{ core := withRegs [] }, .hrp, 7, 15, 0xFFFF00FF, by unfold Core.Free; decide +kernel⟩,
   ⟨{ core := fmStall 3 [(R.ST_CLASS.at 5, 2), (R.MEMBER.at 255, 0x501)] }, .hrp, 7, 15, 0xFFFF81FF, by unfold Core.Free; decide +kernel⟩,
   ⟨{ core := withRegs [] }, 7, 15, 0xFFFF00FF, by decide +kernel⟩,
   ⟨{ core := withRegs [(R.SAP_CFG.at 7, 1)] }, .hrp, 7, by unfold Core.Free; decide +kernel⟩,
   ⟨{ core := withRegs [(R.SAP_CFG.at 7, 1)] }, 7, by decide +kernel⟩,
   ⟨{ core := (withRegs [(R.SAP_CFG.at 7, 1), (R.SAP_STATUS.at 7, 8), (R.SAP_MASK_NEXT.at 7, 9)]).setSap 7 { maskAt := some 47 } }, 7, by decide +kernel⟩,
   ⟨{ core := (withRegs [(R.SAP_CFG.at 7, 1), (R.SAP_STATUS.at 7, 8), (R.SAP_MASK_NEXT.at 7, 9)]).setSap 7 { maskAt := some 48 } }, 7, by decide +kernel⟩,
   ⟨{ core := withRegs [(R.SAP_CFG.at 7, 3), (R.SAP_STATUS.at 7, 6), (R.ASRC_STATUS.at 7, 1)] }, 7, by decide +kernel⟩,
   ⟨{ core := withRegs [(R.SAP_CFG.at 7, 3)] }, 7, by decide +kernel⟩,
   ⟨{ core := { withRegs [(R.ETH_CFG.at, 5), (R.ETH_STATUS.at, 1)] with ptp := { good := 15 } } }, -999, by decide +kernel⟩,
   ⟨{ core := { withRegs [(R.ETH_CFG.at, 5), (R.ETH_STATUS.at, 3)] with now := 4096000 } }, by decide +kernel⟩,
   ⟨{ core := { withRegs [(R.ETH_CFG.at, 5), (R.ETH_STATUS.at, 3)] with now := 4095999 } }, by decide +kernel⟩,
   ⟨{ core := withRegs [(R.ETH_CFG.at, 5), (R.ETH_STATUS.at, 3)] }, by decide +kernel⟩,
   ⟨{ core := withRegs [(R.ETH_CFG.at, 5), (R.ETH_STATUS.at, 3)] }, 5, by decide +kernel⟩,
   ⟨{ core := withRegs [(R.ETH_CFG.at, 5), (R.ETH_STATUS.at, 3), (R.AES_CFG.at 63, 0x600D)] }, 63, 1024, List.replicate 6 5, by decide +kernel⟩,
   ⟨{ core := withRegs [(R.ETH_CFG.at, 5), (R.AES_CFG.at 63, 0x600D)] }, 63, 1024, List.replicate 6 5, by decide +kernel⟩,
   ⟨{ core := withRegs [] }, 63, by decide +kernel⟩,
   ⟨{ core := { withRegs [(R.ETH_CFG.at, 1), (R.ETH_STATUS.at, 1), (R.PEN_CFG.at, 1)] with penStream := List.replicate 45 [1] } }, by decide +kernel⟩,
   ⟨{ core := { withRegs [(R.ETH_CFG.at, 1), (R.ETH_STATUS.at, 1), (R.PEN_CFG.at, 1)] with penStream := List.replicate 43 [1] } }, by decide +kernel⟩,
   ⟨{ core := { withRegs [(R.ETH_STATUS.at, 1)] with penLost := true } }, by decide +kernel⟩,
   ⟨{ core := { withRegs [] with penLost := true, aess := [(3, { lost := true, seq := 1 })] } }, by decide +kernel⟩,
   ⟨{ core := withRegs [] }, 63, 7, 0xFF7F, by decide +kernel⟩,
   ⟨{ core := { withRegs [(R.ETH_CFG.at, 1), (R.ETH_STATUS.at, 1), (R.AES_CFG.at 63, 0x600C)] with linkUp := true } }, 63, true, by decide +kernel⟩,
   ⟨{ core := withRegs [] }, 64, by decide +kernel⟩⟩

theorem witness_the_shed_is_reached :
    (∃ (s : State), s.runs 0x1A = true ∧ ((∀ w ∈ wordsOf s.core.accLine 64, s.core.wordBad w = false ∧ Table.get (fun _ => false) s.core.shedCe w = false))) ∧
    (∃ (s : State) (w : Nat), s.runs 0x1A = true ∧ w ∈ wordsOf s.core.accLine 64 ∧ s.core.wordBad w = true ∧ ((∀ x ∈ wordsOf s.core.accLine 64, Table.get (fun _ => false) s.core.shedCe x = false))) ∧
    (∃ (s : State), s.runs 0x1A = true ∧ s.core.hostWritable s.core.accLine = true ∧ s.core.fld R.SHED_ECC_CFG.at 16 2 = 0) ∧
    (∃ (s : State), s.runs 0x1A = true ∧ s.core.hostWritable s.core.accLine = false) ∧
    (∃ (s : State) (o : Nat) (a : Nat) (b : List Byte), s.core.linkUp = true ∧ b ≠ [] ∧ s.core.windowAddr o = a ∧ s.core.hostWritable a = true ∧ s.core.hostWritable (a + b.length - 1) = true) ∧
    (∃ (s : State) (o : Nat) (b : List Byte), s.core.linkUp = true ∧ b ≠ [] ∧ s.core.hostWritable (s.core.windowAddr o) = false) ∧
    (∃ (s : State), s.core.linkUp = false) ∧
    (∃ (s : State) (o : Nat) (n : Nat) (a : Nat), s.core.linkUp = true ∧ s.core.windowAddr o = a ∧ ((∀ w ∈ wordsOf a n, s.core.wordBad w = false ∧ Table.get (fun _ => false) s.core.shedCe w = false))) ∧
    (∃ (s : State), s.core.linkUp = false) :=
  ⟨⟨{ core := { withRegs [(R.SHED_ACC_ADDR_LO.at, 64)] with shed := [(65, 7), (127, 9)] } }, by decide +kernel⟩,
   ⟨{ core := { withRegs [(R.SHED_ACC_ADDR_LO.at, 64)] with shedBad := [(9, true)] } }, 9, by decide +kernel⟩,
   ⟨{ core := withRegs [(R.SHED_ACC_ADDR_HI.at, 3), (R.SHED_ACC_DATA.at 15, 9)] }, by decide +kernel⟩,
   ⟨{ core := withRegs [(R.SHED_ACC_DATA.at 15, 9)] }, by decide +kernel⟩,
   ⟨{ core := { withRegs [(R.SHED_WIN_BASE.at, 0x30)] with linkUp := true, bar2Log := 28 } }, 5, 0x300000005, [1, 2, 3], by decide +kernel⟩,
   ⟨{ core := { withRegs [] with linkUp := true } }, 5, [1, 2, 3], by decide +kernel⟩,
   ⟨{ core := withRegs [] }, by decide +kernel⟩,
   ⟨{ core := { withRegs [(R.SHED_WIN_BASE.at, 0x30)] with linkUp := true, bar2Log := 28 } }, 5, 3, 0x300000005, by decide +kernel⟩,
   ⟨{ core := withRegs [] }, by decide +kernel⟩⟩

theorem witness_the_radio_follows_its_rules :
    (∃ (s : State) (port : Port) (v : Word), s.core.Free port R.WR_CTRL.at ∧ fieldOf v 0 2 ≠ 3 ∧ fieldOf v 2 2 ≠ 3 ∧ fieldOf v 4 5 < bandChannels (fieldOf v 2 2) ∧ s.core.wrState ≤ 2 ∧ s.core.radio.commit = none) ∧
    (∃ (s : State) (port : Port) (v : Word), s.core.Free port R.WR_CTRL.at ∧ (fieldOf v 0 2 = 3 ∨ fieldOf v 2 2 = 3 ∨ bandChannels (fieldOf v 2 2) ≤ fieldOf v 4 5)) ∧
    (∃ (s : State) (port : Port) (v : Word), s.core.Free port R.WR_CTRL.at ∧ fieldOf v 0 2 ≠ 3 ∧ fieldOf v 2 2 ≠ 3 ∧ fieldOf v 4 5 < bandChannels (fieldOf v 2 2) ∧ s.core.wrState ≤ 2 ∧ s.core.radio.commit = none ∧ fieldOf v 2 8 ≠ s.core.fld R.WR_CTRL.at 2 8) ∧
    (∃ (s : State) (port : Port) (v : Word), s.core.Free port R.WR_CTRL.at ∧ fieldOf v 2 8 ≠ s.core.fld R.WR_CTRL.at 2 8 ∧ fieldOf v 0 2 = s.core.wrMode ∧ s.core.wrBusy = true ∧ s.core.calStuck = false) ∧
    (∃ (s : State) (port : Port) (v : Word), s.core.Free port R.WR_FOFS.at ∧ -20000 ≤ signedOf 16 (fieldOf v 0 16) ∧ signedOf 16 (fieldOf v 0 16) ≤ 20000) ∧
    (∃ (s : State) (port : Port) (v : Word), s.core.Free port R.WR_FOFS.at ∧ (signedOf 16 (fieldOf v 0 16) < -20000 ∨ 20000 < signedOf 16 (fieldOf v 0 16))) ∧
    (∃ (s : State) (e : Nat), s.runs 0x11 = true ∧ s.core.radio.calEnd = some e ∧ s.core.wrState = 3 ∧ e / 48 = s.core.now ∧ s.core.radio.commit = none ∧ s.core.wrMode = 2) ∧
    (∃ (s : State) (e : Nat), s.runs 0x11 = true ∧ s.core.radio.calEnd = some e ∧ s.core.wrState = 3 ∧ e / 48 = s.core.now ∧ s.core.radio.commit = none ∧ s.core.radio.calAgain = false) ∧
    (∃ (s : State) (e : Nat), s.runs 0x11 = true ∧ s.core.radio.calEnd = some e ∧ s.core.wrState = 3 ∧ e / 48 = s.core.now ∧ s.core.radio.commit = none ∧ s.core.radio.calAgain = true) ∧
    (∃ (s : State), s.core.radio.calEnd = none) ∧
    (∃ (s : State) (r : TxReq), s.runs 0x11 = true ∧ s.core.nextRequest = some r ∧ r.origin = 0 ∧ s.core.txCheck r = 0) ∧
    (∃ (s : State) (r : TxReq), s.runs 0x11 = true ∧ s.core.nextRequest = some r ∧ r.origin = 4 ∧ (s.core.txCheck { r with band := s.core.channelNow.1, chan := s.core.channelNow.2 } = 1 ∨ s.core.txCheck { r with band := s.core.channelNow.1, chan := s.core.channelNow.2 } = 3)) ∧
    (∃ (s : State), s.core.nextRequest = none) ∧
    (∃ (s : State) (m : Commit), s.runs 0x11 = true ∧ s.core.radio.commit = some m ∧ (m.x1 - turnOn) / 48 = s.core.now ∧ s.core.wrState = 2) ∧
    (∃ (s : State), s.core.radio.commit = none) ∧
    (∃ (s : State) (m : Commit), s.runs 0x11 = true ∧ s.core.radio.commit = some m ∧ (m.x1 + m.req.fd) / 48 = s.core.now ∧ s.core.wrState = 5 ∧ m.req.origin = 4) ∧
    (∃ (s : State), s.core.radio.commit = none) ∧
    (∃ (s : State) (e : Nat), s.runs 0x11 = true ∧ s.core.radio.ended = some e ∧ s.core.wrState = 6 ∧ (e + turnBack) / 48 = s.core.now ∧ s.core.radio.commit = none) ∧
    (∃ (s : State), s.core.radio.ended = none) ∧
    (∃ (s : State) (m : Commit), s.runs 0x11 = true ∧ s.core.wrState = 5 ∧ s.core.radio.commit = some m ∧ m.charged = true ∧ m.req.origin = 4) ∧
    (∃ (s : State), s.core.wrState ≠ 4 ∧ s.core.wrState ≠ 5) ∧
    (∃ (s : State), s.runs 0x11 = true ∧ s.core.radio.powerLost = false ∧ s.core.radio.commit = none) ∧
    (∃ (s : State) (clips : Nat), s.runs 0x11 = true ∧ s.core.now % 8 = 0 ∧ s.core.wrState = 2 ∧ s.core.syn1Locked = true ∧ s.core.fld R.WR_AGC_STATUS.at 7 1 = 0 ∧ s.core.fld R.WR_AGC_CFG.at 0 1 = 1 ∧ s.core.radio.gain = none ∧ 0 < clips) ∧
    (∃ (s : State), s.core.now % 8 ≠ 0) ∧
    (∃ (s : State) (port : Port) (v : Word), s.core.Free port R.WR_AGC_CFG.at ∧ fieldOf v 2 6 ≠ 0 ∧ fieldOf v 2 6 ≤ 24 ∧ fieldOf v 8 4 ≠ 0 ∧ fieldOf v 12 6 ≤ 55 ∧ 6 ≤ fieldOf v 18 6 ∧ fieldOf v 18 6 ≤ 30 ∧ bitOf v 0 = false) ∧
    (∃ (s : State) (port : Port) (v : Word), s.core.Free port R.WR_TEST.at ∧ bitOf v 16 = true ∧ fieldOf v 0 10 ≠ 0 ∧ fieldOf v 0 10 ≤ 1000) ∧
    (∃ (s : State) (port : Port) (v : Word), s.core.Free port R.WR_TEST.at ∧ bitOf v 16 = true ∧ (fieldOf v 0 10 = 0 ∨ 1000 < fieldOf v 0 10)) ∧
    (∃ (s : State), s.runs 0x11 = true ∧ s.core.radioQuiet = true) ∧
    (∃ (s : State), s.runs 0x11 = true ∧ s.core.radioQuiet = false ∧ s.core.radio.fresh = none) ∧
    (∃ (s : State) (v : BgVals), s.runs 0x11 = true ∧ s.core.radio.fresh = some v ∧ s.core.radio.warned = false ∧ s.core.radio.freshAt + 61440000 ≤ s.core.now) ∧
    (∃ (s : State), s.core.radio.fresh = none) ∧
    (∃ (s : State), s.runs 0x11 = true ∧ s.core.now % 1024000 = 0) ∧
    (∃ (s : State), s.core.now % 1024000 ≠ 0) ∧
    (∃ (s : State), s.runs 0x11 = true ∧ s.core.syn1Locked = true ∧ s.core.wrState = 2 ∧ s.core.radio.commit = none) ∧
    (∃ (s : State), s.core.syn1Locked = false) ∧
    (∃ (s : State) (port : Port) (k : Fin 5), s.core.Free port (softRow k).2 ∧ s.core.locked 0x11 = false) :=
  ⟨⟨{ core := withRegs [(R.WR_STATUS.at, 2)] }, .hrp, 0xFFFFFCF9, by unfold Core.Free; decide +kernel⟩,
   ⟨{ core := withRegs [] }, .hrp, 3, by unfold Core.Free; decide +kernel⟩,
   ⟨{ core := withRegs [(R.WR_STATUS.at, 2)] }, .hrp, 0xFFFFFCF9, by unfold Core.Free; decide +kernel⟩,
   ⟨{ core := withRegs [(R.WR_STATUS.at, 4), (R.WR_CTRL.at, 2)] }, .hrp, 0x16, by unfold Core.Free; decide +kernel⟩,
   ⟨{ core := withRegs [] }, .hrp, 0xFFFFB1E0, by unfold Core.Free; decide +kernel⟩,
   ⟨{ core := withRegs [] }, .hrp, 0xB1DF, by unfold Core.Free; decide +kernel⟩,
   ⟨{ core := { withRegs [(R.WR_STATUS.at, 3), (R.WR_CTRL.at, 2)] with radio := { calEnd := some 47 } } }, 47, by decide +kernel⟩,
   ⟨{ core := { withRegs [(R.WR_STATUS.at, 3), (R.WR_CTRL.at, 2)] with radio := { calEnd := some 47 } } }, 47, by decide +kernel⟩,
   ⟨{ core := { withRegs [(R.WR_STATUS.at, 11), (R.WR_CTRL.at, 2)] with radio := { calEnd := some 47, calAgain := true } } }, 47, by decide +kernel⟩,
   ⟨{ core := withRegs [] }, by decide +kernel⟩,
   ⟨{ core := { withRegs [(R.WR_STATUS.at, 10), (R.WR_CTRL.at, 2), (R.RL_ID.at, 1), (R.RL_CHMASK.at, 1), (R.RL_SOFT_CHMASK.at, 1), (R.RL_BAND.at 0, 0x27100030), (R.RL_SOFT_PWR.at, 0x30), (R.RL_SOFT_DUTY.at 0, 0x2710)] with radio := { requests := [{ origin := 0, slotEnd := 9999999, fd := 100, pwr := 4 }] } } }, { origin := 0, slotEnd := 9999999, fd := 100, pwr := 4 }, by decide +kernel⟩,
   ⟨{ core := { withRegs [(R.WR_STATUS.at, 10), (R.WR_CTRL.at, 2)] with radio := { requests := [{ origin := 4, slotEnd := 9999999, fd := 100, pwr := 4 }] } } }, { origin := 4, slotEnd := 9999999, fd := 100, pwr := 4 }, by decide +kernel⟩,
   ⟨{ core := withRegs [] }, by decide +kernel⟩,
   ⟨{ core := { withRegs [(R.WR_STATUS.at, 10)] with radio := { commit := some { req := {}, x1 := 4719 } } } }, { req := {}, x1 := 4719 }, by decide +kernel⟩,
   ⟨{ core := withRegs [] }, by decide +kernel⟩,
   ⟨{ core := { withRegs [(R.WR_STATUS.at, 13)] with radio := { commit := some { req := {}, x1 := 40, charged := true } } } }, { req := {}, x1 := 40, charged := true }, by decide +kernel⟩,
   ⟨{ core := withRegs [] }, by decide +kernel⟩,
   ⟨{ core := { withRegs [(R.WR_STATUS.at, 14)] with now := 50, radio := { ended := some 40 } } }, 40, by decide +kernel⟩,
   ⟨{ core := withRegs [] }, by decide +kernel⟩,
   ⟨{ core := { withRegs [(R.WR_STATUS.at, 13)] with radio := { commit := some { req := {}, x1 := 40, charged := true } } } }, { req := {}, x1 := 40, charged := true }, by decide +kernel⟩,
   ⟨{ core := withRegs [] }, by decide +kernel⟩,
   ⟨{ core := withRegs [] }, by decide +kernel⟩,
   ⟨{ core := withRegs [(R.WR_STATUS.at, 10), (R.WR_AGC_STATUS.at, 0x1E)] }, 1, by decide +kernel⟩,
   ⟨{ core := { withRegs [] with now := 7 } }, by decide +kernel⟩,
   ⟨{ core := withRegs [] }, .hrp, 0x343118, by unfold Core.Free; decide +kernel⟩,
   ⟨{ core := withRegs [] }, .hrp, 0x103E8, by unfold Core.Free; decide +kernel⟩,
   ⟨{ core := withRegs [] }, .hrp, 0x103E9, by unfold Core.Free; decide +kernel⟩,
   ⟨{ core := withRegs [(R.WR_STATUS.at, 10)] }, by decide +kernel⟩,
   ⟨{ core := withRegs [] }, by decide +kernel⟩,
   ⟨{ core := { withRegs [] with now := 61440000, radio := { fresh := some ⟨1, 2, 3, 4⟩ } } }, ⟨1, 2, 3, 4⟩, by decide +kernel⟩,
   ⟨{ core := withRegs [] }, by decide +kernel⟩,
   ⟨{ core := { withRegs [] with radio := { duty := [(0, 1, 5000000)] } } }, by decide +kernel⟩,
   ⟨{ core := { withRegs [] with now := 1 } }, by decide +kernel⟩,
   ⟨{ core := withRegs [(R.WR_STATUS.at, 10)] }, by decide +kernel⟩,
   ⟨{ core := withRegs [] }, by decide +kernel⟩,
   ⟨{ core := withRegs [] }, .hrp, 4, by unfold Core.Free; decide +kernel⟩⟩

theorem witness_the_link_follows_its_rules :
    (∃ (s : State) (lane : Fin 8) (sf : Fin 7), s.runs 0x12 = true ∧ s.core.wrState = 2 ∧ s.core.syn1Locked = true ∧ s.core.detectorFree (detectorKey lane sf 0) = true) ∧
    (∃ (s : State) (lane : Fin 8) (sf : Fin 7), s.runs 0x12 = true ∧ s.core.wrState = 2 ∧ s.core.syn1Locked = true ∧ s.core.detectorFree (detectorKey lane sf 0) = false ∧ s.core.detectorFree (detectorKey lane sf 1) = false) ∧
    (∃ (s : State), s.core.wrState ≠ 2) ∧
    (∃ (s : State) (lane : Fin 8) (sf : Fin 7) (inst : Fin 2), s.runs 0x12 = true ∧ (s.core.detector (detectorKey lane sf inst)).st = 1) ∧
    (∃ (s : State) (lane : Fin 8) (sf : Fin 7) (inst : Fin 2), (s.core.detector (detectorKey lane sf inst)).st ≠ 1) ∧
    (∃ (s : State) (lane : Fin 8) (sf : Fin 7) (inst : Fin 2), s.runs 0x12 = true ∧ (s.core.detector (detectorKey lane sf inst)).st = 1 ∧ (s.core.detector (detectorKey lane sf (1 - inst.val))).st ≠ 2) ∧
    (∃ (s : State) (lane : Fin 8) (sf : Fin 7) (inst : Fin 2) (new : Int) (old : Int), s.runs 0x12 = true ∧ (s.core.detector (detectorKey lane sf inst)).st = 1 ∧ (s.core.detector (detectorKey lane sf (1 - inst.val))).st = 2 ∧ old + (s.core.fld R.WL_DET_CFG.at 8 8 : Nat) * 256 ≤ new) ∧
    (∃ (s : State) (lane : Fin 8) (sf : Fin 7) (inst : Fin 2) (header : List Byte), s.runs 0x12 = true ∧ (s.core.detector (detectorKey lane sf inst)).st = 2 ∧ (s.core.detector (detectorKey lane sf inst)).blanked = false ∧ header.length ≠ 4) ∧
    (∃ (s : State) (lane : Fin 8) (sf : Fin 7) (inst : Fin 2), s.runs 0x12 = true ∧ (s.core.detector (detectorKey lane sf inst)).st = 2 ∧ (s.core.detector (detectorKey lane sf inst)).blanked = false) ∧
    (∃ (s : State) (lane : Fin 8) (sf : Fin 7) (inst : Fin 2) (len : Nat) (flags : Nat) (body : List Byte) (payload : List Byte), s.runs 0x12 = true ∧ (s.core.detector (detectorKey lane sf inst)).st = 2 ∧ (s.core.detector (detectorKey lane sf inst)).blanked = false ∧ 9 ≤ len ∧ len ≤ 254 ∧ flags % 2 = 0 ∧ bytesOfBits (len + 2) (whiten (bitsOf (payload.take (len + 2)))) = body ∧ crc16 (body.take len) = bytesAt body len 2 ∧ s.core.findPeer (BitVec.ofNat 32 (bytesAt (body.take len) 0 4)) = none ∧ s.core.freePeer ≠ none ∧ s.core.wlBit 2 = false) ∧
    (∃ (s : State), s.runs 0x12 = true ∧ s.core.linkRuns = true ∧ s.core.link.slot ≠ some s.core.slotNow ∧ s.core.link.run = none ∧ s.core.link.frame = some (s.core.slotNow / 32)) ∧
    (∃ (s : State), s.core.linkRuns = false) ∧
    (∃ (s : State) (old : Nat) (f : Nat), s.runs 0x12 = true ∧ s.core.linkRuns = true ∧ s.core.link.frame = some old ∧ s.core.slotNow / 32 = f ∧ old ≠ f ∧ s.core.fld R.WL_STATUS.at 2 1 = 1 ∧ s.core.link.maskFrom ≤ s.core.now ∧ s.core.wlBit 3 = false ∧ s.core.wlBit 5 = false ∧ s.core.link.offsets = []) ∧
    (∃ (s : State), s.core.link.frame = none) ∧
    (∃ (s : State) (r : Run), s.runs 0x12 = true ∧ s.core.linkRuns = true ∧ s.core.link.slot = some s.core.slotNow ∧ s.core.link.run = none ∧ s.core.runNow = some r ∧ s.core.link.acks = [] ∧ s.core.link.sends = [] ∧ s.core.link.relays = [] ∧ s.core.wlBit 3 = false) ∧
    (∃ (s : State) (r : Run) (x : TxReq), s.runs 0x12 = true ∧ s.core.linkRuns = true ∧ s.core.link.slot = some s.core.slotNow ∧ s.core.link.run = none ∧ s.core.runNow = some r ∧ r.hub = false ∧ s.core.link.busy = false ∧ s.core.wlBit 3 = false ∧ s.core.link.acks = [x] ∧ x.mayUse r = true ∧ x.byTable = false) ∧
    (∃ (s : State), s.core.linkRuns = false) ∧
    (∃ (s : State) (d : Int), s.runs 0x12 = true ∧ s.core.link.fofs = some d ∧ s.core.wrState = 2 ∧ s.core.packetLanes = 0) ∧
    (∃ (s : State), s.core.link.fofs = none) ∧
    (∃ (s : State) (i : Fin 4096), s.runs 0x12 = true ∧ s.core.linkRuns = true ∧ (s.core.peer i).st = 2 ∧ (s.core.peer i).heardFrame + s.core.fld R.WL_CFG.at 8 8 ≤ s.core.link.frame.getD 0) ∧
    (∃ (s : State) (i : Fin 4096), (s.core.peer i).st ≠ 2) ∧
    (∃ (s : State) (port : Port) (v : Word), s.core.Free port R.WL_CFG.at ∧ bitOf v 0 = true ∧ s.core.trkSrc (s.core.fld R.WL_SLOT_CFG.at 0 2) ≠ 0 ∧ fieldOf v 8 8 ≠ 0) ∧
    (∃ (s : State) (port : Port) (v : Word), s.core.Free port R.WL_CFG.at ∧ fieldOf v 8 8 = 0) ∧
    (∃ (s : State) (port : Port) (v : Word), s.core.Free port R.WL_CFG.at ∧ bitOf v 0 = false ∧ s.core.linkOn = true ∧ fieldOf v 8 8 ≠ 0 ∧ s.core.link.sends = [] ∧ s.core.link.relays = [] ∧ s.core.radio.requests = []) ∧
    (∃ (s : State) (port : Port) (hub : Bool) (v : Word), s.core.Free port (if hub then R.WL_HUB_MASK_NEXT.at else R.WL_DL_MASK_NEXT.at) ∧ v &&& s.core.reg (if hub then R.WL_DL_MASK_NEXT.at else R.WL_HUB_MASK_NEXT.at) = 0) ∧
    (∃ (s : State) (port : Port) (hub : Bool) (v : Word), s.core.Free port (if hub then R.WL_HUB_MASK_NEXT.at else R.WL_DL_MASK_NEXT.at) ∧ v &&& s.core.reg (if hub then R.WL_DL_MASK_NEXT.at else R.WL_HUB_MASK_NEXT.at) ≠ 0) ∧
    (∃ (s : State) (h : CmdHead) (dst : Word) (portNo : Nat) (flags : Nat) (len : Nat) (lane : Nat) (sf : Nat) (addr : Nat), s.core.ready = true ∧ s.core.linkServes = true ∧ h.atEffect = false ∧ portNo < 256 ∧ flags ≤ 3 ∧ len ≤ 245 ∧ lane < 8 ∧ sf ≤ 6 ∧ inHostRegion addr len = true ∧ s.core.findPeer dst = none ∧ s.core.sendFits 1 (frameTime (6 + sf) s.core.preLen (9 + len)) (s.core.sendFrom h).1 h.now = true ∧ s.core.link.run = none ∧ ((∀ w ∈ wordsOf addr len, s.core.wordBad w = false ∧ Table.get (fun _ => false) s.core.shedCe w = false))) ∧
    (∃ (s : State), s.core.ready = true ∧ s.core.linkServes = false) ∧
    (∃ (s : State) (addr : Word) (lane : Nat) (sf : Nat) (i : Nat), s.core.ready = true ∧ s.core.linkServes = true ∧ lane ≤ 7 ∧ sf ≤ 6 ∧ s.core.findPeer addr = none ∧ s.core.freePeer = some i) ∧
    (∃ (s : State) (addr : Word) (i : Nat), s.core.ready = true ∧ s.core.linkServes = true ∧ s.core.findPeer addr = some i) ∧
    (∃ (s : State) (addr : Word), s.core.ready = true ∧ s.core.linkServes = true ∧ s.core.findPeer addr = none) ∧
    (∃ (s : State) (e : Fin 16), s.core.ready = true ∧ s.core.linkServes = true ∧ ((∀ a ∈ [R.WL_ROUTE_PREFIX.at e, R.WL_ROUTE_MASK.at e, R.WL_ROUTE_NEXT.at e], s.core.takenBits .command a = 0))) ∧
    (∃ (s : State) (h : CmdHead) (dst : Word) (next : Word) (hop : Nat) (len : Nat) (addr : Nat), s.core.ready = true ∧ s.core.linkServes = true ∧ s.core.wlBit 4 = true ∧ h.atEffect = false ∧ 1 ≤ hop ∧ hop ≤ 7 ∧ len ≤ 235 ∧ inHostRegion addr len = true ∧ s.core.route dst = some next ∧ s.core.sendFits 2 (frameTime (6 + s.core.fld R.WL_FWD_CFG.at 4 3) s.core.preLen (19 + len)) (s.core.sendFrom h).1 h.now = true ∧ s.core.link.run = none ∧ ((∀ w ∈ wordsOf addr len, s.core.wordBad w = false ∧ Table.get (fun _ => false) s.core.shedCe w = false))) ∧
    (∃ (s : State) (dst : Word) (hop : Nat) (len : Nat) (addr : Nat), s.core.ready = true ∧ s.core.linkServes = true ∧ s.core.wlBit 4 = true ∧ 1 ≤ hop ∧ hop ≤ 7 ∧ len ≤ 235 ∧ inHostRegion addr len = true ∧ s.core.route dst = none) :=
  ⟨⟨{ core := withRegs [(R.WR_STATUS.at, 10), (R.WR_AGC_CFG.at, 1)] }, 7, 6, by decide +kernel⟩,
   ⟨{ core := { withRegs [(R.WR_STATUS.at, 10)] with detectors := [(110, { st := 1 }), (111, { st := 2 })] } }, 7, 6, by decide +kernel⟩,
   ⟨{ core := withRegs [] }, by decide +kernel⟩,
   ⟨{ core := { withRegs [(R.WR_STATUS.at, 10)] with detectors := [(111, { st := 1 })] } }, 7, 6, 1, by decide +kernel⟩,
   ⟨{ core := withRegs [] }, 7, 6, 1, by decide +kernel⟩,
   ⟨{ core := { withRegs [(R.WR_STATUS.at, 10)] with detectors := [(111, { st := 1 })] } }, 7, 6, 1, by decide +kernel⟩,
   ⟨{ core := { withRegs [(R.WR_STATUS.at, 10), (R.WL_DET_CFG.at, 0x609)] with detectors := [(110, { st := 2 }), (111, { st := 1 })] } }, 7, 6, 1, 1536, 0, by decide +kernel⟩,
   ⟨{ core := { withRegs [(R.WR_STATUS.at, 10)] with detectors := [(111, { st := 2 })] } }, 7, 6, 1, [], by decide +kernel⟩,
   ⟨{ core := { withRegs [(R.WR_STATUS.at, 10), (R.WL_HUB_ADDR.at, 0x12345678)] with detectors := [(111, { st := 2 })] } }, 7, 6, 1, by decide +kernel⟩,
   ⟨{ core := { withRegs [(R.WR_STATUS.at, 10), (R.WL_CFG.at, 1)] with detectors := [(111, { st := 2 })] } }, 7, 6, 1, 9, 2, List.replicate 9 0 ++ leBytes 2 (crc16 (List.replicate 9 0)), bytesOfBits 11 (whiten (bitsOf (List.replicate 9 0 ++ leBytes 2 (crc16 (List.replicate 9 0))))), by decide +kernel⟩,
   ⟨{ core := { withTrack [(R.WL_CFG.at, 0x2001)] 0 { state := .locked, epoch := 512 } with link := { frame := some 1 } } }, by decide +kernel⟩,
   ⟨{ core := withRegs [] }, by decide +kernel⟩,
   ⟨{ core := { withTrack [(R.WL_CFG.at, 0x2001), (R.WL_STATUS.at, 4), (R.WL_DL_MASK_NEXT.at, 7)] 0 { state := .locked, epoch := 512 } with link := { frame := some 0 } } }, 0, 1, by decide +kernel⟩,
   ⟨{ core := withRegs [] }, by decide +kernel⟩,
   ⟨{ core := { withTrack [(R.WL_CFG.at, 0x2001)] 0 { state := .locked, epoch := 512, len := 983040 } with link := { slot := some 32 } } }, ⟨false, 0, 31426560, 32⟩, by decide +kernel⟩,
   ⟨{ core := { withTrack [(R.WL_CFG.at, 0x2001)] 0 { state := .locked, epoch := 512, len := 983040 } with link := { slot := some 32, acks := [{ origin := 1, typ := 2 }] } } }, ⟨false, 0, 31426560, 32⟩, { origin := 1, typ := 2 }, by decide +kernel⟩,
   ⟨{ core := withRegs [] }, by decide +kernel⟩,
   ⟨{ core := { withRegs [(R.WR_STATUS.at, 10), (R.WR_FOFS.at, 19999)] with link := { fofs := some 7 } } }, 7, by decide +kernel⟩,
   ⟨{ core := withRegs [] }, by decide +kernel⟩,
   ⟨{ core := { withTrack [(R.WL_CFG.at, 0x2001)] 0 { state := .locked } with link := { frame := some 32 }, peers := [(4095, { st := 2, addr := 7 })] } }, 4095, by decide +kernel⟩,
   ⟨{ core := withRegs [] }, 4095, by decide +kernel⟩,
   ⟨{ core := withRegs [(R.TRK_CFG.at 0, 1)] }, .hrp, 0xFFFFFFFF, by unfold Core.Free; decide +kernel⟩,
   ⟨{ core := withRegs [(R.TRK_CFG.at 0, 1)] }, .hrp, 0xFFFF00FF, by unfold Core.Free; decide +kernel⟩,
   ⟨{ core := { withRegs [(R.WL_CFG.at, 0x2001), (R.WL_STATUS.at, 1)] with link := { slot := some 3 } } }, .hrp, 0x2000, by unfold Core.Free; decide +kernel⟩,
   ⟨{ core := withTrack [] 0 { state := .locked, epoch := 512, len := 983040 } }, .hrp, true, 0xFFFFFFFC, by unfold Core.Free; decide +kernel⟩,
   ⟨{ core := withRegs [] }, .hrp, true, 1, by unfold Core.Free; decide +kernel⟩,
   ⟨{ core := { withTrack [(R.WL_CFG.at, 1), (R.WR_CTRL.at, 2)] 0 { state := .acquire } with shed := [(0x300000004, 9)], link := { tag := 255 } } }, { seq := 3 }, 7, 255, 3, 245, 7, 6, 0x300000000, by decide +kernel⟩,
   ⟨{ core := withRegs [] }, by decide +kernel⟩,
   ⟨{ core := withRegs [(R.WL_CFG.at, 1), (R.WR_CTRL.at, 2)] }, 7, 7, 6, 0, by decide +kernel⟩,
   ⟨{ core := { withRegs [(R.WL_CFG.at, 1), (R.WR_CTRL.at, 2)] with peers := [(4095, { st := 2, addr := 7 })] } }, 7, 4095, by decide +kernel⟩,
   ⟨{ core := withRegs [(R.WL_CFG.at, 1), (R.WR_CTRL.at, 2)] }, 7, by decide +kernel⟩,
   ⟨{ core := withRegs [(R.WL_CFG.at, 1), (R.WR_CTRL.at, 2)] }, 15, by decide +kernel⟩,
   ⟨{ core := withTrack [(R.WL_CFG.at, 0x11), (R.WR_CTRL.at, 2), (R.WL_ROUTE_VALID.at, 0x8000), (R.WL_ROUTE_NEXT.at 15, 9)] 0 { state := .acquire } }, { seq := 3 }, 7, 9, 7, 235, 0x300000000, by decide +kernel⟩,
   ⟨{ core := withRegs [(R.WL_CFG.at, 0x11), (R.WR_CTRL.at, 2)] }, 7, 7, 235, 0x300000000, by decide +kernel⟩⟩

theorem witness_clocks_lock_and_return :
    (∃ (s : State), s.core.stage = 1 ∧ s.core.syn0State = 0) ∧
    (∃ (s : State), (s.core.stage ≠ 1 ∨ s.core.syn0State ≠ 0)) ∧
    (∃ (s : State), s.core.syn0State = 1 ∧ s.core.calPend = []) ∧
    (∃ (s : State), s.core.syn0State ≠ 1) ∧
    (∃ (s : State), s.core.syn0State = 3 ∧ s.core.openStalls = [] ∧ ((∀ m : Fin 256, s.core.memberValid m = false)) ∧ s.core.masterPorts = [] ∧ s.core.syn2Locked = false) ∧
    (∃ (s : State), s.core.syn0State ≠ 3) ∧
    (∃ (s : State), s.core.syn0State = 1 ∧ s.core.onRefin = false ∧ s.core.fld R.SYN_CFG.at 0 1 = 0) ∧
    (∃ (s : State), s.core.syn0State = 1 ∧ s.core.onRefin = true ∧ s.core.fld R.SYN_CFG.at 0 2 = 3 ∧ s.core.refOk true = true) ∧
    (∃ (s : State) (x : Nat), s.core.syn0State = 2 ∧ s.core.onRefin = false ∧ s.core.fld R.SYN_CFG.at 0 1 = 0 ∧ s.core.syn.holdAt = some x) ∧
    (∃ (s : State), s.core.syn0State = 1 ∧ s.core.onRefin = false ∧ s.core.fld R.SYN_CFG.at 0 1 = 0 ∧ s.core.refOk true = true) ∧
    (∃ (s : State) (port : Port) (v : Word), s.core.Free port R.SYN0_DISC.at ∧ fieldOf v 4 4 ≤ 12 ∧ 1 ≤ fieldOf v 16 16 ∧ fieldOf v 16 16 ≤ 10000 ∧ bitOf v 0 = true ∧ s.core.trkSrc (fieldOf v 1 2) = 2 ∧ fieldOf (s.core.reg R.SYN0_DISC.at) 0 1 = 0) ∧
    (∃ (s : State) (port : Port) (v : Word), s.core.Free port R.SYN0_DISC.at ∧ (12 < fieldOf v 4 4 ∨ fieldOf v 16 16 = 0 ∨ 10000 < fieldOf v 16 16 ∨ (bitOf v 0 = true ∧ fieldOf (s.core.reg R.SYN0_DISC.at) 0 1 = 0 ∧ s.core.trkSrc (fieldOf v 1 2) = 1))) ∧
    (∃ (s : State), s.core.syn2Locked = true ∧ s.core.masterPorts = []) ∧
    (∃ (s : State), s.core.syn2Locked = false) ∧
    (∃ (s : State) (port : Port) (v : Word), s.core.Free port R.SYN2_CFG.at ∧ fieldOf v 1 2 ≠ 3 ∧ bitOf v 0 = false) ∧
    (∃ (s : State), s.core.syn2Locked = false ∧ s.core.samplesFlow = true ∧ gridAt s.core.time < s.core.time + 48) ∧
    (∃ (s : State), s.core.syn2Locked = true) ∧
    (∃ (s : State) (port : Port) (v : Word), s.core.Free port R.MCLK_CFG.at ∧ fieldOf v 0 3 ≤ 4 ∧ fieldOf v 4 3 ≤ 4) ∧
    (∃ (s : State) (port : Port) (v : Word), s.core.Free port R.MCLK_CFG.at ∧ (4 < fieldOf v 0 3 ∨ 4 < fieldOf v 4 3)) ∧
    (∃ (s : State) (port : Port) (v : Word), s.core.Free port R.CLKOUT_CFG.at ∧ fieldOf v 0 4 ≤ 6) ∧
    (∃ (s : State) (port : Port) (v : Word), s.core.Free port R.CLKOUT_CFG.at ∧ 6 < fieldOf v 0 4) :=
  ⟨⟨{ core := withRegs [(R.BOOT_STATUS.at, 1), (R.SYN0_STATUS.at, 0)] }, by decide +kernel⟩,
   ⟨{ core := withRegs [(R.BOOT_STATUS.at, 5), (R.SYN0_STATUS.at, 0)] }, by decide +kernel⟩,
   ⟨{ core := withTrack [(R.SYN0_STATUS.at, 1)] 2 { clean := true } }, by decide +kernel⟩,
   ⟨{ core := withRegs [(R.SYN0_STATUS.at, 3)] }, by decide +kernel⟩,
   ⟨{ core := withRegs [(R.SYN0_STATUS.at, 3), (R.RF_CTRL.at 1, 2), (R.WR_STATUS.at, 2)] }, by decide +kernel⟩,
   ⟨{ core := withRegs [(R.SYN0_STATUS.at, 1)] }, by decide +kernel⟩,
   ⟨{ core := withRegs [(R.SYN0_STATUS.at, 0x11)] }, by decide +kernel⟩,
   ⟨{ core := withRegs [(R.SYN0_STATUS.at, 0x39), (R.SYN_CFG.at, 3)] }, by decide +kernel⟩,
   ⟨{ core := { withRegs [(R.SYN0_STATUS.at, 2)] with syn := { holdAt := some 0 } } }, 0, by decide +kernel⟩,
   ⟨{ core := withRegs [(R.SYN0_STATUS.at, 0x11)] }, by decide +kernel⟩,
   ⟨{ core := withRegs [(R.TRK_CFG.at 3, 2), (R.SYN0_DISC.at, 0)] }, .hrp, 0x2710FFC7, by unfold Core.Free; decide +kernel⟩,
   ⟨{ core := withRegs [] }, .hrp, 0x27110001, by unfold Core.Free; decide +kernel⟩,
   ⟨{ core := withRegs [(R.SYN2_STATUS.at, 1)] }, by decide +kernel⟩,
   ⟨{ core := withRegs [(R.SYN2_STATUS.at, 2)] }, by decide +kernel⟩,
   ⟨{ core := withRegs [] }, .hrp, 0xFFFFFFF4, by unfold Core.Free; decide +kernel⟩,
   ⟨{ core := withRegs [(R.SYN2_STATUS.at, 2), (R.SYN0_STATUS.at, 1), (R.MCLK_CFG.at, 0x13)] }, by decide +kernel⟩,
   ⟨{ core := withRegs [(R.SYN2_STATUS.at, 1)] }, by decide +kernel⟩,
   ⟨{ core := withRegs [] }, .hrp, 0x4C, by unfold Core.Free; decide +kernel⟩,
   ⟨{ core := withRegs [] }, .hrp, 0x5C, by unfold Core.Free; decide +kernel⟩,
   ⟨{ core := withRegs [] }, .hrp, 0xFFFFFFF6, by unfold Core.Free; decide +kernel⟩,
   ⟨{ core := withRegs [] }, .hrp, 7, by unfold Core.Free; decide +kernel⟩⟩

theorem witness_the_two_wire_bus_serves :
    (∃ (s : State) (h : TwbHead), s.runs 0x10 = true ∧ answerIndex (s.core.twbSetting h.start).1 (s.core.twbSetting h.start).2 h.addr = none) ∧
    (∃ (s : State) (h : TwbHead) (n : Nat) (i : Nat), s.runs 0x10 = true ∧ s.core.portsServe = true ∧ 1 ≤ n ∧ n ≤ 8 ∧ answerIndex (s.core.twbSetting h.start).1 (s.core.twbSetting h.start).2 h.addr = some i ∧ fieldOf (s.core.twbSetting h.start).1 2 2 = 0 ∧ bitOf (s.core.twbSetting h.start).1 (8 + i) = false) ∧
    (∃ (s : State) (h : TwbHead) (i : Nat), s.runs 0x10 = true ∧ s.core.portsServe = true ∧ answerIndex (s.core.twbSetting h.start).1 (s.core.twbSetting h.start).2 h.addr = some i ∧ fieldOf (s.core.twbSetting h.start).1 2 2 = 0 ∧ bitOf (s.core.twbSetting h.start).1 (8 + i) = false) ∧
    (∃ (s : State) (h : TwbHead) (a : Fin 0x40000) (v : Word) (pec : Byte) (i : Nat), s.runs 0x10 = true ∧ s.core.portsServe = true ∧ answerIndex (s.core.twbSetting h.start).1 (s.core.twbSetting h.start).2 h.addr = some i ∧ fieldOf (s.core.twbSetting h.start).1 2 2 ≠ 0 ∧ bitOf (s.core.twbSetting h.start).1 (8 + i) = false ∧ crc8 ([BitVec.ofNat 8 (2 * h.addr.val)] ++ (leBytes 1 0x10 ++ leBytes 1 7 ++ leBytes 3 (4 * a.val) ++ leBytes 4 v.toNat)) ≠ pec.toNat) ∧
    (∃ (s : State) (h : TwbHead) (b : List Byte) (i : Nat), s.runs 0x10 = true ∧ answerIndex (s.core.twbSetting h.start).1 (s.core.twbSetting h.start).2 h.addr = some i ∧ (s.core.portsServe = false ∨ (b.getD 0 0).toNat ≠ 0x10 ∨ bitOf (s.core.twbSetting h.start).1 (8 + i) = true)) ∧
    (∃ (s : State) (h : TwbHead) (i : Nat), s.runs 0x10 = true ∧ s.core.portsServe = true ∧ answerIndex (s.core.twbSetting h.start).1 (s.core.twbSetting h.start).2 h.addr = some i ∧ fieldOf (s.core.twbSetting h.start).1 2 2 = 0 ∧ bitOf (s.core.twbSetting h.start).1 (8 + i) = false) ∧
    (∃ (s : State) (h : TwbHead) (i : Nat), s.runs 0x10 = true ∧ s.core.portsServe = true ∧ answerIndex (s.core.twbSetting h.start).1 (s.core.twbSetting h.start).2 h.addr = some i ∧ fieldOf (s.core.twbSetting h.start).1 2 2 = 0) ∧
    (∃ (s : State) (h : TwbHead) (i : Nat), s.runs 0x10 = true ∧ s.core.portsServe = true ∧ answerIndex (s.core.twbSetting h.start).1 (s.core.twbSetting h.start).2 h.addr = some i ∧ fieldOf (s.core.twbSetting h.start).1 2 2 = 0 ∧ s.core.fld R.TWB_PTR.at 24 4 = 1) ∧
    (∃ (s : State) (h : TwbHead) (i : Nat), s.runs 0x10 = true ∧ answerIndex (s.core.twbSetting h.start).1 (s.core.twbSetting h.start).2 h.addr = some i ∧ fieldOf (s.core.twbSetting h.start).1 2 2 = 0) ∧
    (∃ (s : State), s.runs 0x10 = true) ∧
    (∃ (s : State), s.runs 0x10 = true) ∧
    (∃ (s : State), s.runs 0x10 = true) ∧
    (∃ (s : State) (port : Port) (v : Word), s.core.Free port R.TWB_ADDR.at ∧ s.core.locked 0x10 = false ∧ ((∀ a : Fin 128, refusedAddress a = true → answerIndex (s.core.reg R.TWB_CFG.at) v a = none))) ∧
    (∃ (s : State) (port : Port) (v : Word) (a : Fin 128), s.core.Free port R.TWB_ADDR.at ∧ s.core.locked 0x10 = false ∧ refusedAddress a = true ∧ answerIndex (s.core.reg R.TWB_CFG.at) v a ≠ none) ∧
    (∃ (s : State), s.runs 0x10 = true ∧ s.core.attnPending = true ∧ s.core.busFree = true ∧ s.core.twb.retryAt = none ∧ bitOf (s.core.reg R.TWB_ATTN.at) 15 = true ∧ 0 < s.core.fld R.TWB_ARB.at 0 4) ∧
    (∃ (s : State), s.runs 0x10 = true ∧ s.core.attnPending = true ∧ s.core.busFree = true ∧ s.core.twb.retryAt = none ∧ bitOf (s.core.reg R.TWB_ATTN.at) 15 = true ∧ s.core.twb.tries + 1 < s.core.fld R.TWB_ATTN.at 24 4) ∧
    (∃ (s : State), s.core.attnPending = false) ∧
    (∃ (s : State) (due : Nat), s.runs 0x10 = true ∧ s.core.attnPending = true ∧ s.core.busFree = true ∧ s.core.twb.retryAt = some due ∧ due ≤ s.core.now ∧ bitOf (s.core.reg R.TWB_ATTN.at) 15 = true ∧ 0 < s.core.fld R.TWB_ARB.at 0 4) ∧
    (∃ (s : State) (due : Nat), s.runs 0x10 = true ∧ s.core.attnPending = true ∧ s.core.busFree = true ∧ s.core.twb.retryAt = some due ∧ due ≤ s.core.now ∧ bitOf (s.core.reg R.TWB_ATTN.at) 15 = true ∧ s.core.fld R.TWB_ATTN.at 24 4 ≤ s.core.twb.tries + 1) ∧
    (∃ (s : State), s.core.twb.retryAt = none) ∧
    (∃ (s : State), s.runs 0x10 = true ∧ s.core.twb.mst = none ∧ 1 ≤ s.core.fld R.TWB_MST_CTL.at 8 5 ∧ s.core.fld R.TWB_MST_CTL.at 8 5 ≤ 16 ∧ s.core.fld R.TWB_MST_CTL.at 16 5 ≤ 16 ∧ refusedAddress (s.core.fld R.TWB_MST_CTL.at 0 7) = false) ∧
    (∃ (s : State), s.runs 0x10 = true ∧ s.core.twb.mst = none ∧ refusedAddress (s.core.fld R.TWB_MST_CTL.at 0 7) = true) ∧
    (∃ (s : State) (addr : Nat) (rlen : Nat) (bytes : List Byte) (data : List Byte), s.runs 0x10 = true ∧ s.core.busFree = true ∧ s.core.attnPending = false ∧ s.core.twb.mst = some (addr, false, bytes, rlen) ∧ 0 < s.core.fld R.TWB_ARB.at 0 4 ∧ data.length = rlen ∧ rlen ≤ 16) ∧
    (∃ (s : State) (addr : Nat) (rlen : Nat) (p : Bool) (bytes : List Byte), s.runs 0x10 = true ∧ s.core.busFree = true ∧ s.core.attnPending = false ∧ s.core.twb.mst = some (addr, p, bytes, rlen) ∧ 0 < s.core.fld R.TWB_ARB.at 0 4) ∧
    (∃ (s : State), s.core.twb.mst = none) :=
  ⟨⟨{ core := withRegs [(R.TWB_CFG.at, 1), (R.TWB_ADDR.at, 0xA0)] }, ⟨0x21, 0⟩, by decide +kernel⟩,
   ⟨{ core := withRegs [(R.BOOT_STATUS.at, 5), (R.TWB_CFG.at, 1), (R.TWB_ADDR.at, 0xA0)] }, ⟨0x20, 0⟩, 8, 0, by decide +kernel⟩,
   ⟨{ core := withRegs [(R.BOOT_STATUS.at, 5), (R.TWB_CFG.at, 1), (R.TWB_ADDR.at, 0xA0)] }, ⟨0x20, 0⟩, 0, by decide +kernel⟩,
   ⟨{ core := withRegs [(R.BOOT_STATUS.at, 5), (R.TWB_CFG.at, 9), (R.TWB_ADDR.at, 0xA0)] }, ⟨0x20, 0⟩, 0x3FFFF, 0x89ABCDEF, 1, 0, by decide +kernel⟩,
   ⟨{ core := withRegs [(R.TWB_CFG.at, 1), (R.TWB_ADDR.at, 0xA0)] }, ⟨0x20, 0⟩, [0x10], 0, by decide +kernel⟩,
   ⟨{ core := withRegs [(R.BOOT_STATUS.at, 5), (R.TWB_CFG.at, 1), (R.TWB_ADDR.at, 0xA0), (R.TWB_PTR.at, 0xFFFFC)] }, ⟨0x20, 0⟩, 0, by decide +kernel⟩,
   ⟨{ core := withRegs [(R.BOOT_STATUS.at, 5), (R.TWB_CFG.at, 1), (R.TWB_ADDR.at, 0xA0)] }, ⟨0x20, 0⟩, 0, by decide +kernel⟩,
   ⟨{ core := withRegs [(R.BOOT_STATUS.at, 5), (R.TWB_CFG.at, 1), (R.TWB_ADDR.at, 0xA0), (R.TWB_PTR.at, 0x10FFFFC)] }, ⟨0x20, 0⟩, 0, by decide +kernel⟩,
   ⟨{ core := withRegs [(R.TWB_CFG.at, 1), (R.TWB_ADDR.at, 0xA0)] }, ⟨0x20, 0⟩, 0, by decide +kernel⟩,
   ⟨{ core := withRegs [(R.TWB_ERR_CNT.at, 0xFF00)] }, by decide +kernel⟩,
   ⟨{ core := withRegs [(R.TWB_STATUS.at, 1)] }, by decide +kernel⟩,
   ⟨{ core := withRegs [(R.TWB_STATUS.at, 1)] }, by decide +kernel⟩,
   ⟨{ core := withRegs [(R.TWB_CFG.at, 1)] }, .hrp, 0xF7000089, by unfold Core.Free; decide +kernel⟩,
   ⟨{ core := withRegs [(R.TWB_CFG.at, 1)] }, .hrp, 0x88, 8, by unfold Core.Free; decide +kernel⟩,
   ⟨{ core := withRegs [(R.TWB_STATUS.at, 0), (R.TWB_ATTN_STATUS.at, 0x10000), (R.TWB_ATTN.at, 0x3018120), (R.TWB_ARB.at, 8)] }, by decide +kernel⟩,
   ⟨{ core := withRegs [(R.TWB_STATUS.at, 0), (R.TWB_ATTN_STATUS.at, 0x10000), (R.TWB_ATTN.at, 0x3018120), (R.TWB_ARB.at, 8)] }, by decide +kernel⟩,
   ⟨{ core := withRegs [] }, by decide +kernel⟩,
   ⟨{ core := { withRegs [(R.TWB_STATUS.at, 0), (R.TWB_ATTN_STATUS.at, 0x10000), (R.TWB_ATTN.at, 0x3018120), (R.TWB_ARB.at, 8)] with twb := { retryAt := some 0 } } }, 0, by decide +kernel⟩,
   ⟨{ core := { withRegs [(R.TWB_STATUS.at, 0), (R.TWB_ATTN_STATUS.at, 0x10000), (R.TWB_ATTN.at, 0x3018120), (R.TWB_ARB.at, 8)] with twb := { retryAt := some 0, tries := 2 } } }, 0, by decide +kernel⟩,
   ⟨{ core := withRegs [] }, by decide +kernel⟩,
   ⟨{ core := withRegs [(R.TWB_MST_CTL.at, 0x1010D0), (R.TWB_MST_WDATA.at 3, 0x89ABCDEF)] }, by decide +kernel⟩,
   ⟨{ core := withRegs [(R.TWB_MST_CTL.at, 0x101008)] }, by decide +kernel⟩,
   ⟨{ core := { withRegs [(R.TWB_STATUS.at, 0), (R.TWB_ARB.at, 8)] with twb := { mst := some (0x50, false, [1], 16) } } }, 0x50, 16, [1], List.replicate 16 9, by decide +kernel⟩,
   ⟨{ core := { withRegs [(R.TWB_STATUS.at, 0), (R.TWB_ARB.at, 8)] with twb := { mst := some (0x50, false, [1], 16) } } }, 0x50, 16, false, [1], by decide +kernel⟩,
   ⟨{ core := withRegs [] }, by decide +kernel⟩⟩

theorem witness_device_resets_and_boots :
    (∃ (s : State), s.core.stage = 0 ∧ s.core.start.rails = false) ∧
    (∃ (s : State), (s.core.stage ≠ 0 ∨ s.core.start.rails = true)) ∧
    (∃ (s : State) (rails : BitVec 8), rails ≠ 0 ∧ s.core.start.rails = true) ∧
    (∃ (s : State) (rails : BitVec 8), (rails = 0 ∨ s.core.start.rails = false)) ∧
    (∃ (s : State), s.core.start.pinLow = false ∧ s.core.stage ≠ 0 ∧ s.core.commitRuns = false) ∧
    (∃ (s : State), s.core.start.pinLow = false ∧ s.core.stage ≠ 0 ∧ s.core.commitRuns = true) ∧
    (∃ (s : State), s.core.stage = 0 ∧ s.core.start.hot = false ∧ s.core.start.rails = true) ∧
    (∃ (s : State), s.core.syn0State = 3) ∧
    (∃ (s : State), s.core.syn0State ≠ 3) ∧
    (∃ (s : State), 3 ≤ s.core.stage ∧ s.core.stage ≠ 15 ∧ s.core.yardRuns = true ∧ s.core.commitRuns = false ∧ s.core.canRecord = true) ∧
    (∃ (s : State), 3 ≤ s.core.stage ∧ s.core.stage ≠ 15 ∧ s.core.commitRuns = false ∧ s.core.canRecord = false ∧ s.core.start.held = false) ∧
    (∃ (s : State), (s.core.stage < 3 ∨ s.core.stage = 15)) ∧
    (∃ (s : State), s.core.start.hot = false ∧ s.core.stage ≠ 0 ∧ s.core.commitRuns = false ∧ s.core.yardRuns = false) ∧
    (∃ (s : State), s.core.stage = 0 ∧ s.core.start.pinLow = false ∧ s.core.start.rails = true) ∧
    (∃ (s : State) (port : Port) (v : Word), s.core.Free port R.DEV_RESET.at ∧ fieldOf v 0 8 = 0xC3) ∧
    (∃ (s : State) (port : Port) (v : Word) (k : Nat), s.core.Free port R.DEV_RESET.at ∧ fieldOf v 0 8 = 0x3C ∧ s.core.start.key = some k ∧ s.core.now ≤ k + 1024 ∧ 3 ≤ s.core.stage ∧ s.core.yardRuns = true ∧ s.core.commitRuns = false ∧ s.core.canRecord = true) ∧
    (∃ (s : State) (port : Port) (v : Word), s.core.Free port R.DEV_RESET.at ∧ fieldOf v 0 8 ≠ 0xC3 ∧ s.core.start.key = none) ∧
    (∃ (s : State), s.core.stage = 1 ∧ s.core.start.fuses = false) ∧
    (∃ (s : State), s.core.stage = 1 ∧ s.core.start.fuses = false) ∧
    (∃ (s : State) (r : BootReads), s.core.stage = 2 ∧ s.core.start.fuses = true ∧ (s.core.markReads r).bestCopy.isSome = true ∧ (s.core.markReads r).bootCopy.trial = false ∧ (s.core.markReads r).verifies (s.core.markReads r).bootCopy.slot = true ∧ (s.core.markReads r).bootCopy.slot < 2) ∧
    (∃ (s : State) (r : BootReads), s.core.stage = 2 ∧ s.core.start.fuses = true ∧ (s.core.markReads r).bestCopy = none ∧ (s.core.markReads r).verifies 0 = false ∧ (s.core.markReads r).verifies 1 = false) ∧
    (∃ (s : State), s.core.stage = 5 ∧ s.core.start.tested = false) ∧
    (∃ (s : State) (u : Fin 272), s.core.stage = 5 ∧ s.core.start.tested = false ∧ s.core.regionRetired u = false ∧ (s.core.unit u).use = 0) ∧
    (∃ (s : State), s.core.stage = 5 ∧ s.core.start.tested = true ∧ s.core.start.profiled = true) ∧
    (∃ (s : State), (s.core.start.tested = false ∨ s.core.start.profiled = false)) ∧
    (∃ (s : State), s.core.stage = 5 ∧ s.core.start.tested = true ∧ s.core.start.profiled = false ∧ s.core.bootProfile = none) ∧
    (∃ (s : State) (p : Nat) (x : Profile) (d : Core) (n : Nat), s.core.stage = 5 ∧ s.core.start.tested = true ∧ s.core.start.profiled = false ∧ s.core.bootProfile = some p ∧ s.core.standing p = some x ∧ x.writes.foldl (profileWrite s.view) (s.core, 0) = (d, n) ∧ ((s.core.yardRuns = true → d.yardRuns = true))) ∧
    (∃ (s : State), s.core.start.profiled = true) :=
  ⟨⟨{ core := { ({} : Core) with start := { ({} : StartRec) with pinLow := true } } }, by decide +kernel⟩,
   ⟨{ core := withRegs [(R.BOOT_STATUS.at, 6)] }, by decide +kernel⟩,
   ⟨{ core := { withRegs [(R.BOOT_STATUS.at, 6), (R.RESET_CAUSE.at, 0x104)] with now := 9, yardRuns := true, shed := [(0x300000000, 1)], start := { ({} : StartRec) with rails := true, seqErr := true } } }, 0x81, by decide +kernel⟩,
   ⟨{ core := {} }, 0x81, by decide +kernel⟩,
   ⟨{ core := { withRegs [(R.BOOT_STATUS.at, 6), (R.RESET_CAUSE.at, 0x51)] with now := 9, yardRuns := true, shed := [(0x2FFFFFFFF, 2), (0x300000000, 1), (0x340000000, 3)], start := { ({} : StartRec) with rails := true, seqErr := true } }, pending := [.clockFault] }, by decide +kernel⟩,
   ⟨{ core := { withRegs [(R.BOOT_STATUS.at, 6)] with logJobs := [⟨2, 9, true, { seq := 1, kind := 2, time := 0, boots := 0, sums := [], pads := [], counts := [], bins := [] }, none⟩] } }, by decide +kernel⟩,
   ⟨{ core := { ({} : Core) with start := { ({} : StartRec) with pinLow := true, rails := true } } }, by decide +kernel⟩,
   ⟨{ core := { withRegs [(R.BOOT_STATUS.at, 6), (R.SYN0_STATUS.at, 3)] with shed := [(0x2FFFFFFFF, 2), (0x33FFFFFFF, 1)], start := { ({} : StartRec) with rails := true } } }, by decide +kernel⟩,
   ⟨{ core := withRegs [] }, by decide +kernel⟩,
   ⟨{ core := { withRegs [(R.BOOT_STATUS.at, 6), (R.LB_STATUS.at, 0x10)] with yardRuns := true, now := 77 } }, by decide +kernel⟩,
   ⟨{ core := { withRegs [(R.BOOT_STATUS.at, 0xE), (R.LB_STATUS.at, 0)] with yardRuns := true, start := { ({} : StartRec) with rails := true } } }, by decide +kernel⟩,
   ⟨{ core := withRegs [(R.BOOT_STATUS.at, 2)] }, by decide +kernel⟩,
   ⟨{ core := { withRegs [(R.BOOT_STATUS.at, 1)] with start := { ({} : StartRec) with rails := true } } }, by decide +kernel⟩,
   ⟨{ core := { ({} : Core) with start := { ({} : StartRec) with hot := true, rails := true } } }, by decide +kernel⟩,
   ⟨{ core := withRegs [] }, .hrp, 0x1C3, by unfold Core.Free; decide +kernel⟩,
   ⟨{ core := { withRegs [(R.BOOT_STATUS.at, 6), (R.LB_STATUS.at, 0x30)] with yardRuns := true, now := 2024, start := { ({} : StartRec) with key := some 1000 } } }, .twb, 0x3C, 1000, by unfold Core.Free; decide +kernel⟩,
   ⟨{ core := withRegs [] }, .hrp, 0x3C, by unfold Core.Free; decide +kernel⟩,
   ⟨{ core := { withRegs [(R.BOOT_STATUS.at, 1)] with nv := { ({} : Nv) with fuses := { ({} : Fuses) with lc := 4, lock := [1, 2, 3, 4, 5] } } } }, by decide +kernel⟩,
   ⟨{ core := withRegs [(R.BOOT_STATUS.at, 1)] }, by decide +kernel⟩,
   ⟨{ core := { withRegs [(R.BOOT_STATUS.at, 2)] with start := { ({} : StartRec) with fuses := true } } }, {}, by decide +kernel⟩,
   ⟨{ core := { withRegs [(R.BOOT_STATUS.at, 2)] with start := { ({} : StartRec) with fuses := true } } }, { copies := [0, 1], slots := [0] }, by decide +kernel⟩,
   ⟨{ core := withRegs [(R.BOOT_STATUS.at, 5)] }, by decide +kernel⟩,
   ⟨{ core := withRegs [(R.BOOT_STATUS.at, 5)] }, 271, by decide +kernel⟩,
   ⟨{ core := { withRegs [(R.BOOT_STATUS.at, 5)] with now := 5, start := { ({} : StartRec) with tested := true, profiled := true } } }, by decide +kernel⟩,
   ⟨{ core := { withRegs [(R.BOOT_STATUS.at, 5)] with start := { ({} : StartRec) with tested := true } } }, by decide +kernel⟩,
   ⟨{ core := { withRegs [(R.BOOT_STATUS.at, 5)] with start := { ({} : StartRec) with tested := true } } }, by decide +kernel⟩,
   ⟨{ core := bootReady }, 2, ⟨7, true, [(R.PG_EVENT_EN.at 9, 3)], true⟩, (List.foldl (profileWrite bootReady) (bootReady, 0) [(R.PG_EVENT_EN.at 9, 3)]).1, (List.foldl (profileWrite bootReady) (bootReady, 0) [(R.PG_EVENT_EN.at 9, 3)]).2, by decide +kernel, by decide +kernel, by decide +kernel, by decide +kernel, by decide +kernel, rfl, by decide +kernel⟩,
   ⟨{ core := { withRegs [(R.BOOT_STATUS.at, 5)] with start := { ({} : StartRec) with profiled := true } } }, by decide +kernel⟩⟩

theorem witness_calibration_is_named_and_applied :
    (∃ (s : State), s.core.fld R.PT_STATUS.at 1 1 = 0 ∧ s.core.stage = 3) ∧
    (∃ (s : State), s.core.fld R.PT_STATUS.at 1 1 = 0 ∧ s.core.stage = 4 ∧ s.core.calPend = [] ∧ s.core.fld R.CAL_STATUS.at 4 4 = 15) ∧
    (∃ (s : State), s.core.fld R.PT_STATUS.at 1 1 = 1) ∧
    (∃ (s : State) (n : Nat) (i : Fin 3) (v : InputCal), s.runs 0x14 = true ∧ s.core.calPend = [⟨n, 2 ^ i.val, { inputs := [(i, v)] }, false⟩] ∧ n ≤ s.core.now ∧ v.gains.length = topSetting i + 1) ∧
    (∃ (s : State), ((∀ p ∈ s.core.calPend, s.core.now < p.tick))) ∧
    (∃ (s : State) (i : Fin 3), s.runs 0x14 = true ∧ 5 ≤ s.core.stage ∧ s.core.bgcalMay i = true ∧ s.core.bgcalDue i = true) ∧
    (∃ (s : State) (i : Fin 3), s.runs 0x14 = true ∧ 5 ≤ s.core.stage ∧ bitOf (s.core.reg R.CAL_STATUS.at) (4 + i) = true) ∧
    (∃ (s : State) (i : Fin 3), s.runs 0x14 = true ∧ 5 ≤ s.core.stage ∧ bitOf (s.core.reg R.CAL_STATUS.at) (4 + i) = true) ∧
    (∃ (s : State) (h : CmdHead) (i : Fin 3), s.core.ready = true ∧ s.core.calCheck (2 ^ i.val) 0 = 0 ∧ h.atEffect = false) ∧
    (∃ (s : State) (m : BitVec 8), s.core.ready = true ∧ s.core.calCheck m.toNat 0 ≠ 0) ∧
    (∃ (s : State), s.core.ready = true ∧ s.core.guardAccepts = true) ∧
    (∃ (s : State), s.core.ready = true ∧ s.core.guardAccepts = false) ∧
    (∃ (s : State) (h : CmdHead) (m : BitVec 8), s.core.ready = true ∧ s.core.calCheck m.toNat 0 = 0 ∧ h.atEffect = false) ∧
    (∃ (s : State) (m : BitVec 8), s.core.ready = true ∧ s.core.calCheck m.toNat 1 = 0 ∧ s.core.nv.field = none) :=
  ⟨⟨{ core := withRegs [(R.BOOT_STATUS.at, 3), (R.TONE_CTRL.at 1, 1)] }, by decide +kernel⟩,
   ⟨{ core := { withRegs [(R.BOOT_STATUS.at, 4), (R.CAL_STATUS.at, 0xF3)] with now := 1023 } }, by decide +kernel⟩,
   ⟨{ core := withRegs [(R.BOOT_STATUS.at, 3), (R.PT_STATUS.at, 2)] }, by decide +kernel⟩,
   ⟨{ core := { withRegs [(R.CAL_STATUS.at, 0x100)] with now := 1024, calPend := [⟨1024, 4, { inputs := [(2, ⟨1, 2, 3, List.replicate 31 7⟩)] }, false⟩] } }, 1024, 2, ⟨1, 2, 3, List.replicate 31 7⟩, by decide +kernel⟩,
   ⟨{ core := { withRegs [] with calPend := [⟨1, 0, {}, false⟩] } }, by decide +kernel⟩,
   ⟨{ core := withRegs [(R.BOOT_STATUS.at, 6), (R.SYN0_STATUS.at, 1), (R.RF_CTRL.at 1, 2), (R.TONE_CTRL.at 1, 1)] }, 1, by decide +kernel⟩,
   ⟨{ core := { withRegs [(R.BOOT_STATUS.at, 6), (R.CAL_STATUS.at, 0x22)] with now := 1 } }, 1, by decide +kernel⟩,
   ⟨{ core := withRegs [(R.BOOT_STATUS.at, 6), (R.CAL_STATUS.at, 0x22), (R.CAL_FAIL_CNT.at, 0xFFFFFFFF)] }, 1, by decide +kernel⟩,
   ⟨{ core := { withRegs [(R.SYN0_STATUS.at, 1), (R.RF_CTRL.at 2, 2)] with now := 1025 } }, {}, 2, by decide +kernel⟩,
   ⟨{ core := withRegs [] }, 1, by decide +kernel⟩,
   ⟨{ core := withRegs [] }, by decide +kernel⟩,
   ⟨{ core := { withRegs [(R.GRD_STATUS.at, 0x20)] with now := 1 } }, by decide +kernel⟩,
   ⟨{ core := { withRegs [(R.SYN0_STATUS.at, 1), (R.RF_CTRL.at 2, 2)] with now := 1025 } }, {}, 4, by decide +kernel⟩,
   ⟨{ core := withRegs [(R.SYN0_STATUS.at, 1), (R.RF_CTRL.at 2, 2)] }, 4, by decide +kernel⟩⟩

theorem witness_memory_errors_are_acted_on :
    (∃ (s : State) (u : Fin 272), (s.core.unit u).use = 0) ∧
    (∃ (s : State) (u : Fin 272) (n : Fin 256), (s.core.unit u).use = 1 ∧ (s.core.unit u).stall = n.val ∧ s.core.stState n = 3 ∧ s.core.unitOf n = u.val ∧ (s.core.stallRec n).move = none) ∧
    (∃ (s : State) (m : Fin 256), s.core.memberValid m = true ∧ s.core.fld (R.MEMBER.at m) 16 1 = 0) ∧
    (∃ (s : State) (q : Fin 64), (s.core.queue q).hold = []) ∧
    (∃ (s : State) (d : Fin 64), s.core.decodeState d ≠ 0) ∧
    (∃ (s : State), s.core.phase ≠ 6 ∧ s.core.fld R.UPD_STATUS.at 9 1 = 1) ∧
    (∃ (s : State) (q : Fin 64) (x : Held) (rest : List Held), (s.core.queue q).hold = x :: rest ∧ x.entry.due = none ∧ q.val ≠ 1) ∧
    (∃ (s : State) (f : Fetched) (rest : List Fetched), s.core.fetched = f :: rest) ∧
    (∃ (s : State) (w : Nat) (m : Fin 16384), bitOf (s.core.reg R.SHED_ECC_CFG.at) 0 = true ∧ s.core.shedCe = [] ∧ s.core.shedBad = [] ∧ w / 131072 = m.val ∧ m.val ≠ 16383) ∧
    (∃ (s : State), bitOf (s.core.reg R.SHED_ECC_CFG.at) 0 = true ∧ s.core.shedCe = [] ∧ s.core.shedBad = []) ∧
    (∃ (s : State), bitOf (s.core.reg R.SHED_ECC_CFG.at) 0 = false) ∧
    (∃ (n : Fin 9), n.val ≠ 0) ∧
    (∃ (s : State), s.core.nv.slots.length = 2) ∧
    (∃ (s : State) (port : Port) (v : Word), s.core.Free port R.SHED_ECC_CFG.at ∧ s.core.locked 0x1A = false ∧ fieldOf v 8 8 ≠ 0) ∧
    (∃ (s : State) (port : Port) (v : Word), s.core.Free port R.SHED_ECC_CFG.at ∧ s.core.locked 0x1A = false ∧ fieldOf v 8 8 = 0) :=
  ⟨⟨{ core := withRegs [] }, 271, by decide +kernel⟩,
   ⟨{ core := (fmStall 3 []).setUnit 0 1 5 }, 0, 5, by decide +kernel⟩,
   ⟨{ core := withRegs [(R.MEMBER.at 3, 0x81)] }, 3, by decide +kernel⟩,
   ⟨{ core := withRegs [] }, 1, by decide +kernel⟩,
   ⟨{ core := withRegs [(R.LS_CTL.at 3, 0x10000000), (R.LS_STAT.at 3, 0x1FFFF)] }, 3, by decide +kernel⟩,
   ⟨{ core := withRegs [(R.UPD_STATUS.at, 0x200)] }, by decide +kernel⟩,
   ⟨{ core := (withRegs []).setQueue 4 { hold := [⟨{ stamp := 0, typ := 1, source := 1, payload := [] }, true, false⟩] } }, 4, ⟨{ stamp := 0, typ := 1, source := 1, payload := [] }, true, false⟩, [], by decide +kernel⟩,
   ⟨{ core := { withRegs [] with fetched := [{ bytes := [5, 0, 0x20] }] } }, { bytes := [5, 0, 0x20] }, [], by decide +kernel⟩,
   ⟨{ core := withRegs [] }, 131073, 1, by decide +kernel⟩,
   ⟨{ core := withRegs [(R.SHED_SCRUB_POS.at, 16383)] }, by decide +kernel⟩,
   ⟨{ core := withRegs [(R.SHED_ECC_CFG.at, 0x1800)] }, by decide +kernel⟩,
   ⟨5, by decide +kernel⟩,
   ⟨{ core := withRegs [] }, by decide +kernel⟩,
   ⟨{ core := withRegs [] }, .hrp, 0xFFFF2FE, by unfold Core.Free; decide +kernel⟩,
   ⟨{ core := withRegs [] }, .hrp, 0x300FF, by unfold Core.Free; decide +kernel⟩⟩

theorem witness_checks_and_tests_run :
    (∃ (s : State) (n : Nat), s.runs 0x16 = true ∧ s.core.now % 1024000 = 0 ∧ bitOf (s.core.reg R.CHECK_CFG.at) 0 = true ∧ s.core.ready = true ∧ s.core.checkActive = false ∧ (s.core.unitInUse 2).isSome = true ∧ s.core.checkTarget = some (.inr n) ∧ n < 256) ∧
    (∃ (s : State), s.runs 0x16 = true ∧ s.core.now % 1024000 = 0 ∧ bitOf (s.core.reg R.CHECK_CFG.at) 0 = true ∧ s.core.ready = true ∧ (s.core.checkActive = true ∨ s.core.unitInUse 2 = none ∨ s.core.checkTarget = none)) ∧
    (∃ (s : State), (s.core.now % 1024000 ≠ 0 ∨ bitOf (s.core.reg R.CHECK_CFG.at) 0 = false)) ∧
    (∃ (s : State) (n : Nat), s.runs 0x16 = true ∧ s.core.checkActive = true ∧ s.core.check.copied = false ∧ s.core.check.p + 32 ≤ s.core.now ∧ bitOf (s.core.reg R.CHECK_STATUS.at) 9 = false ∧ s.core.fld R.CHECK_STATUS.at 0 8 = n) ∧
    (∃ (s : State), (s.core.checkActive = false ∨ s.core.now < s.core.check.p + 32)) ∧
    (∃ (s : State) (n : Nat), s.runs 0x16 = true ∧ s.core.checkActive = true ∧ s.core.check.copied = true ∧ bitOf (s.core.reg R.CHECK_STATUS.at) 9 = false ∧ s.core.fld R.CHECK_STATUS.at 0 8 = n) ∧
    (∃ (s : State) (n : Nat) (u : Nat), s.runs 0x16 = true ∧ s.core.checkActive = true ∧ s.core.check.copied = true ∧ bitOf (s.core.reg R.CHECK_STATUS.at) 9 = false ∧ s.core.fld R.CHECK_STATUS.at 0 8 = n ∧ s.core.unitInUse 2 = some u) ∧
    (∃ (s : State), s.core.checkActive = false) ∧
    (∃ (s : State) (r : SteRun), s.runs 0x15 = true ∧ s.core.ste.run = some r ∧ s.core.sliceActive = false ∧ r.region < 0x400 ∧ s.core.regionReady r.region = true ∧ ((r.region < 272 → (s.core.unit r.region).use = 3)) ∧ r.slice < s.core.regionSlices r.region ∧ r.cut = false ∧ s.core.ste.nextAt ≤ s.core.now ∧ r.slice < 2 ^ 16) ∧
    (∃ (s : State), s.core.ste.run = none ∧ s.core.waitingUnit = none ∧ bitOf (s.core.reg R.STE_CFG.at) 12 = false) ∧
    (∃ (s : State) (r : SteRun), s.runs 0x15 = true ∧ s.core.ste.run = some r ∧ s.core.sliceActive = true ∧ r.took = false ∧ r.region < 0x400) ∧
    (∃ (s : State) (r : SteRun), s.runs 0x15 = true ∧ s.core.ste.run = some r ∧ s.core.sliceActive = true ∧ r.took = false ∧ r.region < 0x400 ∧ r.yields < 63) ∧
    (∃ (s : State), (s.core.ste.run = none ∨ s.core.sliceActive = false)) ∧
    (∃ (s : State) (r : SteRun) (x : SteResult), s.runs 0x15 = true ∧ s.core.ste.run = some r ∧ s.core.sliceActive = false ∧ r.region < 0x400 ∧ r.kind = 1 ∧ r.cut = false ∧ s.core.regionSlices r.region ≤ r.slice ∧ x.count = r.count ∧ x.waited = false ∧ r.yields < 64 ∧ x.sig = x.reference ∧ 272 ≤ r.region ∧ r.region < 0x1D0 ∧ r.host = true) ∧
    (∃ (s : State) (r : SteRun) (x : SteResult), s.runs 0x15 = true ∧ s.core.ste.run = some r ∧ s.core.sliceActive = false ∧ r.region < 0x400 ∧ r.kind = 1 ∧ r.cut = false ∧ s.core.regionSlices r.region ≤ r.slice ∧ x.count = r.count ∧ x.waited = false ∧ r.yields < 64 ∧ x.sig ≠ x.reference ∧ 0x160 ≤ r.region ∧ r.region < 0x1D0) ∧
    (∃ (s : State), s.core.ste.run = none) ∧
    (∃ (s : State), s.runs 0x15 = true ∧ s.core.ste.run = none ∧ s.core.steCheck (s.core.fld R.STE_STAGE.at 0 10) (s.core.fld R.STE_STAGE.at 12 2) (s.core.reg R.STE_STAGE_COUNT.at).toNat = 0) ∧
    (∃ (s : State), s.runs 0x15 = true ∧ s.core.steCheck (s.core.fld R.STE_STAGE.at 0 10) (s.core.fld R.STE_STAGE.at 12 2) (s.core.reg R.STE_STAGE_COUNT.at).toNat ≠ 0) ∧
    (∃ (s : State) (r : SteRun), s.runs 0x15 = true ∧ s.core.ste.run = some r ∧ r.host = true ∧ r.kind ≤ 2 ∧ r.region < 0x400 ∧ s.core.sliceActive = false) ∧
    (∃ (s : State) (h : CmdHead) (r : Nat) (n : Nat) (k : BitVec 8), s.core.ready = true ∧ s.core.ste.run = none ∧ s.core.steCheck r k.toNat n = 0 ∧ h.atEffect = true) ∧
    (∃ (s : State) (r : Nat) (n : Nat) (k : BitVec 8), s.core.ready = true ∧ s.core.steCheck r k.toNat n ≠ 0) ∧
    (∃ (s : State), s.core.ready = true ∧ s.core.hostRun = false) ∧
    (∃ (s : State) (h : CmdHead) (n : Fin 256), s.core.ready = true ∧ s.core.stState n = 3 ∧ bitOf (s.core.reg R.CHECK_CFG.at) 0 = true ∧ h.atEffect = true) ∧
    (∃ (s : State) (n : Fin 256), s.core.ready = true ∧ s.core.stState n ≠ 2 ∧ s.core.stState n ≠ 3) ∧
    (∃ (s : State), s.core.lc = 1 ∧ s.core.openStalls = []) ∧
    (∃ (s : State), s.core.lc = 0 ∧ s.core.openStalls = []) ∧
    (∃ (s : State), s.core.lc = 4) :=
  ⟨⟨{ core := { (fmStall 3 []).setUnit 9 2 0 with now := 1024000 } }, 5, by decide +kernel⟩,
   ⟨{ core := withRegs [] }, by decide +kernel⟩,
   ⟨{ core := { withRegs [] with now := 1024001 } }, by decide +kernel⟩,
   ⟨{ core := { fmStall 3 [(R.CHECK_STATUS.at, 0x105)] with now := 32 } }, 5, by decide +kernel⟩,
   ⟨{ core := { fmStall 3 [(R.CHECK_STATUS.at, 0x105)] with now := 31 } }, by decide +kernel⟩,
   ⟨{ core := { fmStall 0x23 [(R.CHECK_STATUS.at, 0x105)] with now := 321, check := { copied := true } } }, 5, by decide +kernel⟩,
   ⟨{ core := { (fmStall 0x23 [(R.CHECK_STATUS.at, 0x105)]).setUnit 9 2 0 with now := 321, check := { copied := true } } }, 5, 9, by decide +kernel⟩,
   ⟨{ core := withRegs [] }, by decide +kernel⟩,
   ⟨{ core := { (withRegs []).setUnit 271 3 0 with ste := { run := some { region := 271, kind := 2, count := 65536, host := true, slice := 47 } } } }, { region := 271, kind := 2, count := 65536, host := true, slice := 47 }, by decide +kernel⟩,
   ⟨{ core := withRegs [(R.STE_CFG.at, 0x180A2200)] }, by decide +kernel⟩,
   ⟨{ core := { withRegs [(R.STE_STATUS.at, 0x1200)] with ste := { run := some { region := 0x200, kind := 0, count := 65536, host := true } } } }, { region := 0x200, kind := 0, count := 65536, host := true }, by decide +kernel⟩,
   ⟨{ core := { withRegs [(R.STE_STATUS.at, 0x1200)] with ste := { run := some { region := 0x200, kind := 0, count := 65536, host := true, yields := 62 } } } }, { region := 0x200, kind := 0, count := 65536, host := true, yields := 62 }, by decide +kernel⟩,
   ⟨{ core := withRegs [] }, by decide +kernel⟩,
   ⟨{ core := { withRegs [(R.STE_CFG.at, 0x180A3000)] with ste := { run := some { region := 0x1CF, kind := 1, count := 65536, host := true, slice := 0 } } } }, { region := 0x1CF, kind := 1, count := 65536, host := true, slice := 0 }, { sig := 5, reference := 5 }, by decide +kernel⟩,
   ⟨{ core := { withRegs [(R.STE_CFG.at, 0x180A3000)] with ste := { run := some { region := 0x1CF, kind := 1, count := 65536, host := false, slice := 0 } } } }, { region := 0x1CF, kind := 1, count := 65536, host := false, slice := 0 }, { sig := 5, reference := 6 }, by decide +kernel⟩,
   ⟨{ core := withRegs [] }, by decide +kernel⟩,
   ⟨{ core := withRegs [(R.STE_STAGE.at, 0x1160), (R.STE_STAGE_COUNT.at, 0x100000), (R.STE_RESULT.at, 0xFF0002)] }, by decide +kernel⟩,
   ⟨{ core := withRegs [(R.STE_STAGE.at, 0x1160), (R.STE_STAGE_COUNT.at, 0x101000), (R.STE_RESULT.at, 0xFF0002)] }, by decide +kernel⟩,
   ⟨{ core := { withRegs [] with ste := { run := some { region := 0x1CF, kind := 1, count := 65536, host := true } } } }, { region := 0x1CF, kind := 1, count := 65536, host := true }, by decide +kernel⟩,
   ⟨{ core := withRegs [] }, { atEffect := true }, 0x10F, 0, 2, by decide +kernel⟩,
   ⟨{ core := withRegs [] }, 0x1D2, 0, 2, by decide +kernel⟩,
   ⟨{ core := withRegs [] }, by decide +kernel⟩,
   ⟨{ core := fmStall 3 [] }, { atEffect := true }, 5, by decide +kernel⟩,
   ⟨{ core := fmStall 1 [] }, 5, by decide +kernel⟩,
   ⟨{ core := { withRegs [(R.GRD_STATUS.at, 0x10)] with guard := { secrets := true } } }, by decide +kernel⟩,
   ⟨{ core := { withRegs [(R.GRD_STATUS.at, 0)] with guard := { secrets := true } } }, by decide +kernel⟩,
   ⟨{ core := withRegs [(R.GRD_STATUS.at, 0x40)] }, by decide +kernel⟩⟩

theorem witness_the_guard_watches :
    (∃ (s : State), s.core.guardRuns = true ∧ s.core.guard.seen = false) ∧
    (∃ (s : State), s.core.guardRuns = true ∧ s.core.fld R.GRD_STATUS.at 2 1 = 0) ∧
    (∃ (s : State) (f : Nat), s.core.guardRuns = true ∧ s.core.guard.fell = some f ∧ s.core.now - f < 2048000) ∧
    (∃ (s : State) (f : Nat), s.core.guardRuns = true ∧ s.core.guard.fell = some f ∧ 2048000 ≤ s.core.now - f ∧ s.core.now - f ≤ 10240000) ∧
    (∃ (s : State) (f : Nat), s.core.guardRuns = true ∧ s.core.guard.fell = some f ∧ 10240000 < s.core.now - f) ∧
    (∃ (s : State), s.core.guardRuns = false) ∧
    (∃ (s : State) (f : Nat), s.core.guard.initial = some f ∧ f + 10240000 ≤ s.core.now) ∧
    (∃ (s : State), ((∀ f ∈ s.core.guard.initial, s.core.now < f + 10240000))) ∧
    (∃ (s : State) (f : Nat), s.core.guard.closeAt = some f ∧ f ≤ s.core.now ∧ s.core.windowOpen = true) ∧
    (∃ (s : State), ((∀ f ∈ s.core.guard.closeAt, s.core.now < f))) ∧
    (∃ (s : State) (port : Port) (v : Word), s.core.Free port R.GRD_CTRL.at ∧ bitOf v 0 = true ∧ s.core.windowOpen = true) ∧
    (∃ (s : State) (port : Port) (v : Word), s.core.Free port R.GRD_CTRL.at ∧ (bitOf v 0 = false ∨ s.core.windowOpen = false)) ∧
    (∃ (s : State) (k : Nat), s.core.guardRuns = true ∧ s.core.guard.sealTick = some k ∧ k + 10240 ≤ s.core.now ∧ 9 ≤ s.core.guard.passes ∧ s.core.fld R.GRD_STATUS.at 1 1 = 0) ∧
    (∃ (s : State) (k : Nat) (e : Word), s.core.guardRuns = true ∧ s.core.guard.sealTick = some k ∧ k + 10240 ≤ s.core.now ∧ e ≠ 0 ∧ 1 ≤ s.core.guard.fails ∧ s.core.fld R.GRD_STATUS.at 1 1 = 1) ∧
    (∃ (s : State) (k : Nat), s.core.guard.sealTick = some k ∧ s.core.now < k + 10240) :=
  ⟨⟨{ core := withRegs [(R.BOOT_STATUS.at, 2)] }, by decide +kernel⟩,
   ⟨{ core := withRegs [(R.BOOT_STATUS.at, 6)] }, by decide +kernel⟩,
   ⟨{ core := { withRegs [(R.BOOT_STATUS.at, 6), (R.GRD_STATUS.at, 6)] with now := 2048000, guard := { fell := some 1 } } }, 1, by decide +kernel⟩,
   ⟨{ core := { withRegs [(R.BOOT_STATUS.at, 6), (R.GRD_STATUS.at, 6)] with now := 2048001, guard := { fell := some 1 } } }, 1, by decide +kernel⟩,
   ⟨{ core := { withRegs [(R.BOOT_STATUS.at, 6), (R.GRD_STATUS.at, 6)] with now := 10240002, guard := { fell := some 1 } } }, 1, by decide +kernel⟩,
   ⟨{ core := withRegs [(R.BOOT_STATUS.at, 15)] }, by decide +kernel⟩,
   ⟨{ core := { withRegs [] with now := 10240001, guard := { initial := some 1 } } }, 1, by decide +kernel⟩,
   ⟨{ core := { withRegs [] with now := 10240000, guard := { initial := some 1 } } }, by decide +kernel⟩,
   ⟨{ core := { withRegs [(R.GRD_STATUS.at, 3)] with now := 10, guard := { closeAt := some 10 } } }, 10, by decide +kernel⟩,
   ⟨{ core := withRegs [] }, by decide +kernel⟩,
   ⟨{ core := { withRegs [(R.GRD_STATUS.at, 3)] with now := 10, guard := { closeAt := some 11 } } }, .hrp, 1, by unfold Core.Free; decide +kernel⟩,
   ⟨{ core := withRegs [] }, .hrp, 1, by unfold Core.Free; decide +kernel⟩,
   ⟨{ core := { withRegs [(R.BOOT_STATUS.at, 6)] with now := 10240, guard := { passes := 9, sealTick := some 0, prbs := 0x12345 } } }, 0, by decide +kernel⟩,
   ⟨{ core := { withRegs [(R.BOOT_STATUS.at, 6), (R.GRD_STATUS.at, 2)] with now := 10240, guard := { fails := 1, sealTick := some 0, prbs := 0x12345 } } }, 0, 0x80000000, by decide +kernel⟩,
   ⟨{ core := { withRegs [(R.BOOT_STATUS.at, 6), (R.GRD_STATUS.at, 2)] with now := 10239, guard := { fails := 1, sealTick := some 0, prbs := 0x12345 } } }, 0, by decide +kernel⟩⟩

theorem witness_the_logbook_records :
    (∃ (s : State), s.runs 0x19 = true ∧ 3 ≤ s.core.stage ∧ s.core.now % (s.core.fld R.LB_CFG.at 0 12 * 1024000) = 0 ∧ s.core.canRecord = true ∧ s.core.logJobs = []) ∧
    (∃ (s : State), (s.core.stage < 3 ∨ s.core.commitRuns = true ∨ s.core.canRecord = false)) ∧
    (∃ (s : State), s.runs 0x19 = true ∧ s.core.ahead < 3 ∧ s.core.fld R.PT_STATUS.at 1 1 = 0) ∧
    (∃ (s : State), s.runs 0x19 = true ∧ s.core.ahead < 3 ∧ s.core.fld R.PT_STATUS.at 1 1 = 0) ∧
    (∃ (s : State), s.core.fld R.PT_STATUS.at 1 1 = 1) ∧
    (∃ (s : State), 3 ≤ s.core.stage ∧ s.core.now % 1024000 = 0) ∧
    (∃ (s : State), (s.core.stage < 3 ∨ s.core.now % 1024000 ≠ 0)) ∧
    (∃ (s : State), s.core.fld R.PT_STATUS.at 1 1 = 0 ∧ 3 ≤ s.core.stage ∧ s.core.canRecord = true ∧ s.core.commitRuns = false ∧ s.core.radio.commit = none) ∧
    (∃ (s : State), s.core.fld R.PT_STATUS.at 1 1 = 1) ∧
    (∃ (s : State), s.core.fld R.PT_STATUS.at 1 1 = 1) ∧
    (∃ (s : State) (port : Port) (v : Word), s.core.Free port R.LB_SEL.at ∧ s.core.locked 0x19 = false ∧ bitOf v 24 = false ∧ bitOf v 8 = false ∧ fieldOf v 0 8 < 41) ∧
    (∃ (s : State) (h : CmdHead), s.core.ready = true ∧ s.core.commitRuns = false ∧ s.core.canRecord = true ∧ s.core.logJobs = [] ∧ h.atEffect = true) ∧
    (∃ (s : State), s.core.ready = true ∧ (s.core.commitRuns = true ∨ s.core.canRecord = false)) ∧
    (∃ (s : State) (a : Nat), s.core.ready = true ∧ pageAddress a = true) ∧
    (∃ (s : State) (a : Nat), s.core.ready = true ∧ pageAddress a = false) ∧
    (∃ (s : State) (n : Nat) (a : Nat) (r : LogRec), s.core.ready = true ∧ pageAddress a = true ∧ n < 1024 ∧ s.core.nv.records[n]? = some r ∧ r.ue = false) ∧
    (∃ (s : State) (n : Nat) (a : Nat), s.core.ready = true ∧ pageAddress a = true ∧ n < 1024 ∧ s.core.nv.records.length ≤ n) :=
  ⟨⟨{ core := withRegs [(R.BOOT_STATUS.at, 6), (R.LB_STATUS.at, 0x32)] }, by decide +kernel⟩,
   ⟨{ core := withRegs [(R.BOOT_STATUS.at, 6), (R.LB_STATUS.at, 0x2)] }, by decide +kernel⟩,
   ⟨{ core := withRegs [(R.LB_STATUS.at, 0x22)] }, by decide +kernel⟩,
   ⟨{ core := withRegs [(R.LB_STATUS.at, 0x22)] }, by decide +kernel⟩,
   ⟨{ core := withRegs [(R.LB_STATUS.at, 0x22), (R.PT_STATUS.at, 2)] }, by decide +kernel⟩,
   ⟨{ core := withRegs [(R.BOOT_STATUS.at, 6)] }, by decide +kernel⟩,
   ⟨{ core := withRegs [(R.BOOT_STATUS.at, 2)] }, by decide +kernel⟩,
   ⟨{ core := withRegs [(R.BOOT_STATUS.at, 6), (R.LB_STATUS.at, 0x12), (R.CAL_STATUS.at, 0x70)] }, by decide +kernel⟩,
   ⟨{ core := withRegs [(R.PT_STATUS.at, 0xFF02)] }, by decide +kernel⟩,
   ⟨{ core := withRegs [(R.PT_STATUS.at, 0xFF02)] }, by decide +kernel⟩,
   ⟨{ core := { withRegs [] with counts := [(40, 0x500000007)] } }, .hrp, 0xFE000028, by unfold Core.Free; decide +kernel⟩,
   ⟨{ core := withRegs [(R.LB_STATUS.at, 0x32)] }, { atEffect := true }, by decide +kernel⟩,
   ⟨{ core := withRegs [(R.LB_STATUS.at, 0x2)] }, by decide +kernel⟩,
   ⟨{ core := withRegs [] }, 0x300001000, by decide +kernel⟩,
   ⟨{ core := withRegs [] }, 0x300001001, by decide +kernel⟩,
   ⟨{ core := { withRegs [] with nv := { ({} : Nv) with records := [{ seq := 1, kind := 2, time := 0, boots := 0, sums := [], pads := [], counts := [], bins := [] }] } } }, 0, 0x300001000, { seq := 1, kind := 2, time := 0, boots := 0, sums := [], pads := [], counts := [], bins := [] }, by decide +kernel⟩,
   ⟨{ core := withRegs [] }, 1023, 0x33FFFF000, by decide +kernel⟩⟩

theorem witness_offers_claim_the_inactive_slot :
    (∃ (s : State) (a : Nat), s.runs 0x17 = true ∧ s.core.stageAddr = a ∧ a % 4096 = 0 ∧ 0x300000000 ≤ a ∧ a + 32768 ≤ 0x340000000 ∧ s.core.lc ≠ 4 ∧ bitOf (s.core.reg R.UPD_CFG.at) 0 = true ∧ (s.core.slot s.core.upd.run).factory = true ∧ s.core.upd.claim = none ∧ s.core.stage ≠ 14) ∧
    (∃ (s : State), s.runs 0x17 = true ∧ (s.core.stageAddr % 4096 ≠ 0 ∨ s.core.stageAddr < 0x300000000 ∨ 0x340000000 < s.core.stageAddr + 4096)) ∧
    (∃ (s : State) (a : Nat) (i : Nat) (k : Claim), s.runs 0x17 = true ∧ s.core.stageAddr = a ∧ a % 4096 = 0 ∧ 0x300000000 ≤ a ∧ a + 4096 ≤ 0x340000000 ∧ s.core.fld R.UPD_STAGE.at 16 13 = i ∧ s.core.upd.claim = some k ∧ s.core.phase = 1 ∧ s.core.fld R.UPD_STATUS.at 4 1 = 1 ∧ i < hdrBlocks k.header ∧ k.written.contains i = false ∧ k.slot < 2 ∧ s.core.nv.slots.length = 2 ∧ hdrBlocks k.header ≤ 6136) ∧
    (∃ (s : State), s.runs 0x17 = true ∧ s.core.upd.claim = none ∧ s.core.stageAddr = 0x300000000) ∧
    (∃ (s : State), s.runs 0x17 = true) ∧
    (∃ (s : State), s.runs 0x17 = true ∧ s.core.upd.claim.isSome = true ∧ s.core.phase ≠ 5 ∧ s.core.phase ≠ 6 ∧ s.core.upd.offer = none) ∧
    (∃ (s : State), s.runs 0x17 = true ∧ (s.core.upd.claim = none ∨ s.core.phase = 5 ∨ s.core.phase = 6)) ∧
    (∃ (s : State) (a : Nat), s.core.ready = true ∧ a % 4096 = 0 ∧ 0x300000000 ≤ a ∧ a + 32768 ≤ 0x340000000 ∧ s.core.lc ≠ 4 ∧ bitOf (s.core.reg R.UPD_CFG.at) 0 = true ∧ s.core.headerReason (s.core.shedRead a 32768) ≠ 0 ∧ s.core.upd.claim = none) ∧
    (∃ (s : State) (a : Nat), s.core.ready = true ∧ a % 4096 ≠ 0 ∧ s.core.upd.claim = none) ∧
    (∃ (s : State) (i : Nat) (a : Nat) (k : Claim), s.core.ready = true ∧ a % 4096 = 0 ∧ 0x300000000 ≤ a ∧ a + 4096 ≤ 0x340000000 ∧ s.core.upd.claim = some k ∧ s.core.phase = 1 ∧ s.core.fld R.UPD_STATUS.at 4 1 = 1 ∧ i < hdrBlocks k.header ∧ k.written.contains i = true) ∧
    (∃ (s : State) (a : Nat), s.core.ready = true ∧ a % 4096 ≠ 0) ∧
    (∃ (s : State) (h : CmdHead), s.core.ready = true ∧ (s.core.phase = 2 ∨ s.core.phase = 4) ∧ h.atEffect = true) ∧
    (∃ (s : State), s.core.ready = true ∧ s.core.phase ≠ 2 ∧ s.core.phase ≠ 4) ∧
    (∃ (s : State), s.core.ready = true ∧ s.core.upd.claim.isSome = true ∧ s.core.phase ≠ 5 ∧ s.core.phase ≠ 6 ∧ s.core.upd.offer = none) ∧
    (∃ (s : State), s.runs 0x17 = true ∧ s.core.phase = 1 ∧ s.core.fld R.UPD_STATUS.at 4 2 ≠ 0 ∧ s.core.upd.lastBlock + 614400000 ≤ s.core.now ∧ s.core.upd.offer = none) ∧
    (∃ (s : State), (s.core.phase ≠ 1 ∨ s.core.now < s.core.upd.lastBlock + 614400000)) ∧
    (∃ (s : State), s.runs 0x17 = true ∧ bitOf (s.core.reg R.UPD_CFG.at) 1 = true ∧ 2 ≤ s.core.stage ∧ s.core.stage ≤ 6 ∧ s.core.upd.failing = none) ∧
    (∃ (s : State) (f : Nat), s.runs 0x17 = true ∧ bitOf (s.core.reg R.UPD_CFG.at) 1 = true ∧ 2 ≤ s.core.stage ∧ s.core.stage ≤ 6 ∧ s.core.upd.failing = some f ∧ f + 10240000 ≤ s.core.now ∧ s.core.fld R.UPD_STATUS.at 4 2 = 3) ∧
    (∃ (s : State) (l : List Byte), s.runs 0x17 = true ∧ bitOf (s.core.reg R.UPD_CFG.at) 1 = true ∧ 2 ≤ s.core.stage ∧ s.core.stage ≤ 6 ∧ bytesAt l 0 4 ≠ 0x25601A6F) ∧
    (∃ (s : State), bitOf (s.core.reg R.UPD_CFG.at) 1 = false) ∧
    (∃ (s : State) (i : Nat) (d : List Byte) (k : Claim), s.runs 0x17 = true ∧ s.core.phase = 1 ∧ s.core.fld R.UPD_STATUS.at 4 2 = 3 ∧ bitOf (s.core.reg R.UPD_CFG.at) 1 = true ∧ s.core.upd.claim = some k ∧ i < hdrBlocks k.header ∧ k.written.contains i = false ∧ crc32c d ≠ hdrBlockCrc k.header i ∧ Table.get (fun _ => 0) s.core.upd.rereads i < 3) ∧
    (∃ (s : State), s.core.phase ≠ 1) :=
  ⟨⟨{ core := withRegs [(R.UPD_STAGE_ADDR_HI.at, 3), (R.UPD_CFG.at, 0xA01)] }, 0x300000000, by decide +kernel⟩,
   ⟨{ core := withRegs [(R.UPD_STAGE_ADDR_HI.at, 3), (R.UPD_STAGE_ADDR_LO.at, 0x40000000)] }, by decide +kernel⟩,
   ⟨{ core := { withRegs [(R.UPD_STAGE_ADDR_HI.at, 3), (R.UPD_STATUS.at, 0x11), (R.UPD_STAGE.at, 0x10000)] with upd := { claim := some { digest := [], header := List.replicate 12 0 ++ [2], slot := 1 } } } }, 0x300000000, 1, { digest := [], header := List.replicate 12 0 ++ [2], slot := 1 }, by decide +kernel⟩,
   ⟨{ core := withRegs [(R.UPD_STAGE_ADDR_HI.at, 3)] }, by decide +kernel⟩,
   ⟨{ core := withRegs [(R.UPD_STATUS.at, 0x12)] }, by decide +kernel⟩,
   ⟨{ core := { withRegs [(R.UPD_STATUS.at, 0x31)] with upd := { claim := some { digest := [], header := [], slot := 1 } } } }, by decide +kernel⟩,
   ⟨{ core := { withRegs [(R.UPD_STATUS.at, 0x35)] with upd := { claim := some { digest := [], header := [], slot := 1 } } } }, by decide +kernel⟩,
   ⟨{ core := withRegs [(R.UPD_CFG.at, 0xA01)] }, 0x33FFF8000, by decide +kernel⟩,
   ⟨{ core := withRegs [] }, 0x300000004, by decide +kernel⟩,
   ⟨{ core := { withRegs [(R.UPD_STATUS.at, 0x11)] with now := 7, upd := { claim := some { digest := [], header := List.replicate 12 0 ++ [2], slot := 1, written := [1] } } } }, 1, 0x33FFFF000, { digest := [], header := List.replicate 12 0 ++ [2], slot := 1, written := [1] }, by decide +kernel⟩,
   ⟨{ core := withRegs [] }, 4, by decide +kernel⟩,
   ⟨{ core := withRegs [(R.UPD_STATUS.at, 4)] }, { atEffect := true }, by decide +kernel⟩,
   ⟨{ core := withRegs [(R.UPD_STATUS.at, 1)] }, by decide +kernel⟩,
   ⟨{ core := { withRegs [(R.UPD_STATUS.at, 0x31)] with upd := { claim := some { digest := [], header := [], slot := 1 } } } }, by decide +kernel⟩,
   ⟨{ core := { withRegs [(R.UPD_STATUS.at, 0x31)] with now := 614400000, upd := { claim := some { digest := [], header := [], slot := 1 } } } }, by decide +kernel⟩,
   ⟨{ core := { withRegs [(R.UPD_STATUS.at, 0x31)] with now := 614399999, upd := { claim := some { digest := [], header := [], slot := 1 } } } }, by decide +kernel⟩,
   ⟨{ core := { withRegs [(R.BOOT_STATUS.at, 6), (R.UPD_CFG.at, 0xA02)] with now := 8 } }, by decide +kernel⟩,
   ⟨{ core := { withRegs [(R.BOOT_STATUS.at, 2), (R.UPD_CFG.at, 0xA02), (R.UPD_STATUS.at, 0x31), (R.UPD_CHAIN_STATUS.at, 0x100)] with now := 10240008, upd := { failing := some 8 } } }, 8, by decide +kernel⟩,
   ⟨{ core := withRegs [(R.BOOT_STATUS.at, 2), (R.UPD_CFG.at, 0xA02), (R.UPD_CHAIN_STATUS.at, 0x200)] }, [1], by decide +kernel⟩,
   ⟨{ core := withRegs [(R.UPD_CFG.at, 0xA01)] }, by decide +kernel⟩,
   ⟨{ core := { withRegs [(R.UPD_CFG.at, 0xA02), (R.UPD_STATUS.at, 0x31)] with upd := { claim := some { digest := [], header := List.replicate 12 0 ++ [2], slot := 1 }, rereads := [(1, 2)] } } }, 1, [0x12], { digest := [], header := List.replicate 12 0 ++ [2], slot := 1 }, by decide +kernel⟩,
   ⟨{ core := withRegs [] }, by decide +kernel⟩⟩

theorem witness_images_are_activated_and_confirmed :
    (∃ (s : State) (k : Claim), s.core.enabled 0x17 = true ∧ s.core.phase = 3 ∧ s.core.upd.claim = some k ∧ s.core.slotReason (s.core.slot k.slot) = 0 ∧ s.core.stage ≠ 14) ∧
    (∃ (s : State) (k : Claim), s.core.enabled 0x17 = true ∧ s.core.phase = 3 ∧ s.core.upd.claim = some k ∧ s.core.upd.offer = none ∧ k.slot < 2 ∧ s.core.nv.slots.length = 2) ∧
    (∃ (s : State), s.core.phase ≠ 3) ∧
    (∃ (s : State) (k : Nat) (b : Nat), s.runs 0x17 = true ∧ s.core.phase = 4 ∧ bitOf (s.core.reg R.UPD_STAGE.at) 6 = false ∧ s.core.fld R.UPD_STAGE.at 4 2 = k ∧ (s.core.track k).state ≠ .off ∧ s.core.predictTick k (s.core.reg R.UPD_STAGE_EPOCH.at).toNat 0 = some b ∧ s.core.now + 512000 ≤ b ∧ s.core.standbyUsable = true) ∧
    (∃ (s : State), s.runs 0x17 = true ∧ s.core.phase ≠ 4 ∧ bitOf (s.core.reg R.UPD_STAGE.at) 6 = false) ∧
    (∃ (s : State) (h : CmdHead) (b : Nat), s.core.ready = true ∧ s.core.phase = 4 ∧ h.now = false ∧ h.phase = 0 ∧ h.epoch < 2 ^ 32 ∧ (s.core.track h.track.val).state ≠ .off ∧ s.core.predictTick h.track.val h.epoch 0 = some b ∧ s.core.now + 512000 ≤ b ∧ s.core.standbyUsable = true ∧ h.atEffect = true) ∧
    (∃ (s : State) (k : Claim), s.runs 0x17 = true ∧ s.core.phase = 5 ∧ s.core.upd.resets = false ∧ s.core.upd.loaded = false ∧ s.core.upd.claim = some k ∧ s.core.nv.copies.length = 2) ∧
    (∃ (s : State), s.core.phase ≠ 5 ∧ s.core.upd.reload = false) ∧
    (∃ (s : State) (b : Nat), s.runs 0x17 = true ∧ s.core.phase = 5 ∧ s.core.upd.loaded = false ∧ s.core.handoverTick = some b ∧ b ≤ s.core.now + 1024 ∧ s.core.bootCopy.slot = s.core.upd.run) ∧
    (∃ (s : State), (s.core.phase ≠ 5 ∨ s.core.upd.loaded = true)) ∧
    (∃ (s : State) (k : Claim), s.core.enabled 0x17 = true ∧ s.core.handoverDue = true ∧ s.core.upd.claim = some k ∧ s.core.upd.resets = false) ∧
    (∃ (s : State), s.core.handoverDue = false) ∧
    (∃ (s : State) (b : Nat), s.runs 0x17 = true ∧ s.core.upd.b = some b ∧ s.core.phase = 6 ∧ s.core.fld R.UPD_STATUS.at 14 1 = 0 ∧ b + 5120000 ≤ s.core.now ∧ s.core.upd.offer = none ∧ s.core.upd.run ≤ 1 ∧ s.core.nv.slots.length = 2) ∧
    (∃ (s : State), s.core.upd.b = none) ∧
    (∃ (s : State), s.runs 0x17 = true ∧ s.core.phase = 6 ∧ s.core.fld R.UPD_STATUS.at 14 1 = 1) ∧
    (∃ (s : State), s.runs 0x17 = true ∧ (s.core.phase ≠ 6 ∨ s.core.fld R.UPD_STATUS.at 14 1 = 0)) ∧
    (∃ (s : State), s.core.ready = true ∧ s.core.phase = 6 ∧ s.core.fld R.UPD_STATUS.at 14 1 = 1) ∧
    (∃ (s : State), s.runs 0x17 = true ∧ bitOf (s.core.reg R.UPD_CFG.at) 3 = true ∧ s.core.phase = 6 ∧ s.core.fld R.UPD_STATUS.at 14 1 = 1 ∧ s.core.upd.hbTick + 1024000 * s.core.fld R.UPD_CFG.at 8 8 ≤ s.core.now) ∧
    (∃ (s : State), bitOf (s.core.reg R.UPD_CFG.at) 3 = false) ∧
    (∃ (s : State), s.runs 0x17 = true ∧ s.core.swapDue = true) ∧
    (∃ (s : State), s.core.swapDue = false) :=
  ⟨⟨{ core := { withRegs [(R.UPD_STATUS.at, 0x33)] with upd := { verify := true, claim := some { digest := [], header := [], slot := 0 } } } }, { digest := [], header := [], slot := 0 }, by decide +kernel⟩,
   ⟨{ core := { withRegs [(R.UPD_STATUS.at, 0x33)] with upd := { verify := true, claim := some { digest := [], header := [], slot := 1 } } } }, { digest := [], header := [], slot := 1 }, by decide +kernel⟩,
   ⟨{ core := withRegs [] }, by decide +kernel⟩,
   ⟨{ core := withTrack [(R.UPD_STATUS.at, 0x284), (R.UPD_STAGE.at, 0x10), (R.UPD_STAGE_EPOCH.at, 30)] 1 { state := .locked, len := 983040, start16 := 65536000, epoch := 5 } }, 1, 512021, by decide +kernel⟩,
   ⟨{ core := withRegs [(R.UPD_STATUS.at, 3)] }, by decide +kernel⟩,
   ⟨{ core := withTrack [(R.UPD_STATUS.at, 0x284)] 1 { state := .locked, len := 983040, start16 := 65536000, epoch := 5 } }, { atEffect := true, track := 1, epoch := 30 }, 512021, by decide +kernel⟩,
   ⟨{ core := { withRegs [(R.UPD_STATUS.at, 5)] with upd := { claim := some { digest := [], header := [], slot := 1 } } } }, { digest := [], header := [], slot := 1 }, by decide +kernel⟩,
   ⟨{ core := withRegs [] }, by decide +kernel⟩,
   ⟨{ core := { withTrack [(R.UPD_STATUS.at, 5)] 1 { state := .locked, len := 983040, start16 := 65536000, epoch := 5 } with now := 510997, upd := { track := 1, epoch := 30, activate := true } } }, 512021, by decide +kernel⟩,
   ⟨{ core := withRegs [] }, by decide +kernel⟩,
   ⟨{ core := { withTrack [(R.UPD_STATUS.at, 0x205)] 1 { state := .locked, len := 983040, start16 := 65536000, epoch := 5 } with now := 512021, upd := { track := 1, epoch := 30, loaded := true, claim := some { digest := [], header := [], slot := 1 } } } }, { digest := [], header := [], slot := 1 }, by decide +kernel⟩,
   ⟨{ core := withRegs [] }, by decide +kernel⟩,
   ⟨{ core := { withRegs [(R.UPD_STATUS.at, 0x506)] with now := 5120009, upd := { run := 1, b := some 9, claim := some { digest := [], header := [], slot := 1 } } } }, 9, by decide +kernel⟩,
   ⟨{ core := withRegs [] }, by decide +kernel⟩,
   ⟨{ core := { withRegs [(R.UPD_STATUS.at, 0x4506)] with now := 5120009, upd := { run := 1, b := some 9, claim := some { digest := [], header := [], slot := 1 } } } }, by decide +kernel⟩,
   ⟨{ core := withRegs [(R.UPD_STATUS.at, 0x506)] }, by decide +kernel⟩,
   ⟨{ core := { withRegs [(R.UPD_STATUS.at, 0x4506)] with now := 5120009, upd := { run := 1, b := some 9, claim := some { digest := [], header := [], slot := 1 } } } }, by decide +kernel⟩,
   ⟨{ core := { withRegs [(R.UPD_STATUS.at, 0x4506), (R.UPD_CFG.at, 0xA09)] with now := 10240009, upd := { run := 1, b := some 9, hbTick := 9, claim := some { digest := [], header := [], slot := 1 } } } }, by decide +kernel⟩,
   ⟨{ core := withRegs [(R.UPD_CFG.at, 0xA01)] }, by decide +kernel⟩,
   ⟨{ core := { withTrack [(R.UPD_STATUS.at, 0x200)] 0 { state := .locked, len := 983040, start16 := 3145728, epoch := 5 } with now := 1, upd := { swap := true } } }, by decide +kernel⟩,
   ⟨{ core := withRegs [] }, by decide +kernel⟩⟩

theorem witness_profiles_and_fuses_are_written :
    (∃ (s : State) (p : Nat) (n : Nat) (a : Nat) (w : List (Nat × Word)), s.core.ready = true ∧ p ≤ 15 ∧ n ≤ 16382 ∧ (s.core.updBytes a (8 * n)).bind (fun l => profileRecords l n) = some w) ∧
    (∃ (s : State) (p : Nat) (n : Nat) (a : Nat), s.core.ready = true ∧ (15 < p ∨ 16382 < n ∨ a % 4096 ≠ 0)) ∧
    (∃ (s : State) (p : Nat), s.core.ready = true ∧ p ≤ 15) ∧
    (∃ (s : State) (p : Nat), s.core.ready = true ∧ 15 < p) ∧
    (∃ (s : State) (p : Nat), s.core.ready = true ∧ p ≤ 15 ∧ (s.core.standing p).isSome = true) ∧
    (∃ (s : State), s.core.ready = true) ∧
    (∃ (s : State) (p : Nat), s.core.ready = true ∧ p ≤ 15 ∧ s.core.standing p = none) ∧
    (∃ (s : State) (n : Nat), s.core.ready = true ∧ s.core.lc ≠ 4 ∧ s.core.guardAccepts = true ∧ s.core.lcMay n = true ∧ 1 ≤ n ∧ n ≤ 4 ∧ s.core.ste.run = none ∧ 3 ≤ s.core.stage ∧ s.core.yardRuns = true ∧ s.core.commitRuns = false ∧ s.core.canRecord = true) ∧
    (∃ (s : State) (n : Nat), s.core.ready = true ∧ s.core.lc ≠ 4 ∧ s.core.guardAccepts = true ∧ s.core.lcMay n = false) ∧
    (∃ (s : State), s.core.ready = true ∧ s.core.lc ≠ 4 ∧ s.core.guardAccepts = false) ∧
    (∃ (s : State) (b0 : Word) (b1 : Word) (b2 : Word), s.core.ready = true ∧ s.core.lc ≠ 4 ∧ s.core.guardAccepts = true ∧ s.core.fld R.RL_ID.at 0 8 = 0 ∧ fieldOf b0 16 16 ≤ 10000 ∧ fieldOf b1 16 16 ≤ 10000 ∧ fieldOf b2 16 16 ≤ 10000) ∧
    (∃ (s : State), s.core.ready = true ∧ s.core.lc ≠ 4 ∧ s.core.guardAccepts = true ∧ s.core.fld R.RL_ID.at 0 8 ≠ 0) ∧
    (∃ (s : State) (k : Fin 4) (a : Nat), s.core.ready = true ∧ s.core.lc ≠ 4 ∧ s.core.guardAccepts = true ∧ a % 4096 = 0 ∧ 0x300000000 ≤ a ∧ a + 48 ≤ 0x340000000 ∧ bitOf (s.core.reg R.GRD_KEYS.at) k = false) ∧
    (∃ (s : State) (k : Nat) (a : Nat), s.core.ready = true ∧ s.core.lc ≠ 4 ∧ s.core.guardAccepts = true ∧ (3 < k ∨ a % 4096 ≠ 0)) ∧
    (∃ (s : State) (k : Fin 4) (j : Fin 4), s.core.ready = true ∧ s.core.lc ≠ 4 ∧ s.core.guardAccepts = true ∧ j ≠ k ∧ bitOf (s.core.reg R.GRD_KEYS.at) j = true ∧ bitOf (s.core.reg R.GRD_KEYS.at) (4 + j) = false) ∧
    (∃ (s : State) (k : Fin 4), s.core.ready = true ∧ s.core.lc ≠ 4 ∧ s.core.guardAccepts = true ∧ ((∀ j : Fin 4, j ≠ k → bitOf (s.core.reg R.GRD_KEYS.at) j = false ∨ bitOf (s.core.reg R.GRD_KEYS.at) (4 + j) = true))) :=
  ⟨⟨{ core := { withRegs [] with shed := [(0x300000001, 8), (0x300000004, 0x89)], nv := { profiles := [(30, some { seq := 7, boot := true, writes := [] })] } } }, 15, 1, 0x300000000, [(0x800, 0x89)], by decide +kernel⟩,
   ⟨{ core := withRegs [] }, 16, 1, 0x300000000, by decide +kernel⟩,
   ⟨{ core := { withRegs [] with nv := { profiles := [(30, some { seq := 7, boot := true, writes := [] })] } } }, 15, by decide +kernel⟩,
   ⟨{ core := withRegs [] }, 16, by decide +kernel⟩,
   ⟨{ core := { withRegs [] with nv := { profiles := [(0, some { seq := 9, boot := true, writes := [] }), (30, some { seq := 7, boot := false, writes := [] })] } } }, 15, by decide +kernel⟩,
   ⟨{ core := { withRegs [] with nv := { profiles := [(0, some { seq := 9, boot := true, writes := [] }), (30, some { seq := 7, boot := false, writes := [] })] } } }, by decide +kernel⟩,
   ⟨{ core := withRegs [] }, 15, by decide +kernel⟩,
   ⟨{ core := { withRegs [(R.BOOT_STATUS.at, 6), (R.GRD_STATUS.at, 0x11)] with yardRuns := true, guard := { openAtStart := true, secrets := true } } }, 2, by decide +kernel⟩,
   ⟨{ core := withRegs [(R.GRD_STATUS.at, 0x10)] }, 3, by decide +kernel⟩,
   ⟨{ core := withRegs [(R.GRD_STATUS.at, 0x20)] }, by decide +kernel⟩,
   ⟨{ core := withRegs [] }, 0x27100101, 0x27100000, 3, by decide +kernel⟩,
   ⟨{ core := withRegs [(R.RL_ID.at, 1)] }, by decide +kernel⟩,
   ⟨{ core := withRegs [] }, 3, 0x33FFFF000, by decide +kernel⟩,
   ⟨{ core := withRegs [] }, 4, 0x33FFFF000, by decide +kernel⟩,
   ⟨{ core := withRegs [(R.GRD_KEYS.at, 9)] }, 0, 3, by decide +kernel⟩,
   ⟨{ core := withRegs [(R.GRD_KEYS.at, 0x89)] }, 0, by decide +kernel⟩⟩

theorem witness_ring_entries_spell_their_commands :
    (∃ (i : Instr) (b : List Byte) (nor : Bool), i.wellFormed = true ∧ ringEntry i = some (b, nor)) :=
  ⟨.ttCancel { seq := 0x102 } 5, _, _, by decide +kernel, rfl⟩

end
end

section
/-! PROOFS. The host ports (R36 to R46): what each port command leaves, command by command, and the statement that these make up. -/

namespace Sys2Proof.Machine

/-! ### Frames -/

/-- An update that touches neither a register nor the Shed has the frame of the parts it takes over, whatever registers are listed. -/
theorem State.frame_of_same_regs (s : State) (d : Core) (but : List Nat) (part : Core → Core → Core)
    (hregs : d.regs = s.core.regs) (hshed : d.shed = s.core.shed) (honly : s.core.Only d part) :
    s.Frame { s with core := d } but part :=
  ⟨fun a _ => Core.reg_congr hregs a, fun a => congrArg (Table.get unlistedByte · a) hshed, honly, rfl⟩

theorem State.frame_refl (s : State) (but : List Nat) : s.Frame s but :=
  State.frame_of_same_regs s s.core but _ rfl rfl rfl

/-- What an output adds is all that it changes. -/
theorem State.frame_put (s : State) (o : Output) (but : List Nat) :
    s.Frame { s with core := s.core.put o } but (fun c d => { c with out := d.out }) :=
  State.frame_of_same_regs s (s.core.put o) but _ rfl rfl rfl

/-- A later update of registers and hardware's marks alone changes nothing more. -/
theorem Core.Only.of_regs_hwSet {c d e : Core} {part : Core → Core → Core} (h : c.Only d part)
    (he : e = { d with regs := e.regs, hwSet := e.hwSet }) (hpart : part c e = part c d) : c.Only e part := by
  have happlied : e.applied = d.applied := by rw [he]
  unfold Core.Only at h ⊢
  rw [hpart, happlied]
  exact he.trans (congrArg (fun x : Core => { x with regs := e.regs, hwSet := e.hwSet }) h)

/-! ### Host access errors (R46) -/

/-- A host access error touches the registers and hardware's marks alone. -/
theorem Core.hostErr_eq (c : Core) (port : Port) (a b : Nat) :
    c.hostErr port a b = { c with regs := (c.hostErr port a b).regs, hwSet := (c.hostErr port a b).hwSet } := by
  simp only [Core.hostErr]
  split <;> split <;> rfl

@[simp] theorem Core.hostErr_shed (c : Core) (port : Port) (a b : Nat) : (c.hostErr port a b).shed = c.shed := by
  rw [Core.hostErr_eq]

@[simp] theorem Core.hostErr_out (c : Core) (port : Port) (a b : Nat) : (c.hostErr port a b).out = c.out := by
  rw [Core.hostErr_eq]

@[simp] theorem Core.hostErr_applied (c : Core) (port : Port) (a b : Nat) : (c.hostErr port a b).applied = c.applied := by
  rw [Core.hostErr_eq]

theorem Core.reg_hostErr_flags (c : Core) (port : Port) (a b : Nat) :
    (c.hostErr port a b).reg R.HOST_ERR.at = c.reg R.HOST_ERR.at ||| bit b := by
  have haddr : R.HOST_ERR.at ≠ R.HOST_ERR_ADDR.at := by decide
  have hevent : R.HOST_ERR.at ≠ R.PG_EVENT.at 0 := by decide
  simp only [Core.hostErr]
  split <;> split <;> simp [Core.reg_event, Core.reg_hwFlags, Core.reg_setNat, haddr, hevent]

theorem Core.bitOf_hostErr (c : Core) (port : Port) (a b : Nat) (hb : b < 32) :
    bitOf ((c.hostErr port a b).reg R.HOST_ERR.at) b = true := by
  simp [Core.reg_hostErr_flags, bitOf_or_bit _ _ _ hb]

/-- The first error since every flag was clear is captured. -/
theorem Core.reg_hostErr_capture (c : Core) (port : Port) (a b : Nat) (hclear : c.reg R.HOST_ERR.at = 0) :
    (c.hostErr port a b).reg R.HOST_ERR_ADDR.at = BitVec.ofNat 32 (a % 2 ^ 20 + portCode port * 2 ^ 28 + 2 ^ 31) := by
  have hflags : R.HOST_ERR_ADDR.at ≠ R.HOST_ERR.at := by decide
  have hevent : R.HOST_ERR_ADDR.at ≠ R.PG_EVENT.at 0 := by decide
  simp only [Core.hostErr, hclear, if_true]
  split <;> simp [Core.reg_event, Core.reg_hwFlags, Core.reg_setNat, hflags, hevent]

/-- A host access error after other effects extends their frame by the error's registers. -/
theorem State.Frame.hostErr {s t : State} {but : List Nat} {part : Core → Core → Core} (h : s.Frame t but part)
    (port : Port) (a b : Nat) (hbut : [R.HOST_ERR.at, R.HOST_ERR_ADDR.at, R.PG_EVENT.at 0] ⊆ but)
    (hpart : part s.core (t.core.hostErr port a b) = part s.core t.core) :
    s.Frame { t with core := t.core.hostErr port a b } but part := by
  obtain ⟨hregs, hshed, honly, hrest⟩ := h
  simp only [List.cons_subset] at hbut
  obtain ⟨hflags, haddr, hevent, -⟩ := hbut
  refine ⟨fun x hx => ?_, fun x => ?_, ?_, by rw [hrest]⟩
  · rw [Core.reg_hostErr _ _ _ _ _ (ne_of_mem_of_not_mem hflags hx).symm (ne_of_mem_of_not_mem haddr hx).symm
      (ne_of_mem_of_not_mem hevent hx).symm]
    exact hregs x hx
  · simpa [Core.shedByte] using hshed x
  · exact honly.of_regs_hwSet (Core.hostErr_eq _ _ _ _) hpart

theorem State.frame_hostErr (s : State) (port : Port) (a b : Nat) :
    s.Frame { s with core := s.core.hostErr port a b } [R.HOST_ERR.at, R.HOST_ERR_ADDR.at, R.PG_EVENT.at 0] :=
  (s.frame_refl _).hostErr port a b (List.Subset.refl _) rfl

/-! ### Which meaning each command has -/

theorem exec_hrpWriteCycle (a : Fin 0x40000) (d : Word) (par : BitVec 4) (s : State) :
    exec (.hrpWriteCycle a d par) s = execHrpWriteCycle a d par s := rfl

theorem exec_hrpProto (a : Fin 0x40000) (s : State) : exec (.hrpProto a) s = execHrpProto a s := rfl

theorem exec_pcieBar0Write (a : Fin 0x100000) (dw : Nat) (be : BitVec 4) (v : Word) (s : State) :
    exec (.pcieBar0Write a dw be v) s = execPcieBar0Write a dw be v s := rfl

theorem exec_pcieBar0Read (a : Fin 0x100000) (dw : Nat) (be : BitVec 4) (s : State) :
    exec (.pcieBar0Read a dw be) s = execPcieBar0Read a dw be s := rfl

theorem exec_pciePoisonedWrite (bar0 : Bool) (a : Fin 0x100000) (s : State) :
    exec (.pciePoisonedWrite bar0 a) s = execPciePoisonedWrite bar0 a s := rfl

/-! ### The Host Register Port (R36, R37, R400) -/

theorem exec_hrpWriteCycle_good {s : State} (a : Fin 0x40000) {d : Word} {par : BitVec 4} (hserve : s.core.portsServe = true)
    (hpar : (List.range 4).all (parityGood d par) = true) :
    exec (.hrpWriteCycle a d par) s = .next { s with core := { s.core with posted := s.core.posted ++ [⟨.hrp, 4 * a.val, d⟩] } } := by
  simp only [exec_hrpWriteCycle, execHrpWriteCycle, State.run_eq, hserve, hpar, Bool.not_true, Bool.false_eq_true, if_false, if_true]

theorem exec_hrpWriteCycle_bad {s : State} (a : Fin 0x40000) {d : Word} {par : BitVec 4} (hserve : s.core.portsServe = true)
    (hpar : (List.range 4).all (parityGood d par) = false) :
    exec (.hrpWriteCycle a d par) s = .next { s with core := s.core.hostErr .hrp (4 * a.val) 0 } := by
  simp only [exec_hrpWriteCycle, execHrpWriteCycle, State.run_eq, hserve, hpar, Bool.not_true, Bool.false_eq_true, if_false]

theorem exec_hrpWriteCycle_unserved {s : State} (a : Fin 0x40000) (d : Word) (par : BitVec 4) (hserve : s.core.portsServe = false) :
    exec (.hrpWriteCycle a d par) s = .next s := by
  simp only [exec_hrpWriteCycle, execHrpWriteCycle, State.run_eq, hserve, Bool.not_false, if_true]

theorem exec_hrpProto_served {s : State} (a : Fin 0x40000) (hserve : s.core.portsServe = true) :
    exec (.hrpProto a) s = .next { s with core := s.core.hostErr .hrp (4 * a.val) 1 } := by
  simp only [exec_hrpProto, execHrpProto, State.run_eq, hserve, if_true]

theorem exec_hrpProto_unserved {s : State} (a : Fin 0x40000) (hserve : s.core.portsServe = false) :
    exec (.hrpProto a) s = .next s := by
  simp only [exec_hrpProto, execHrpProto, State.run_eq, hserve, Bool.false_eq_true, if_false]

/-- The capture of an HRP access: its byte address lies below 2^20, and the port's code is 0. -/
theorem hrp_capture (a : Fin 0x40000) : 4 * a.val % 2 ^ 20 + portCode .hrp * 2 ^ 28 + 2 ^ 31 = 4 * a.val + 2 ^ 31 := by
  simp only [portCode]
  omega

/-! ### BAR0 (R41, R42, R44) -/

theorem exec_pcieBar0Write_word {s : State} (a : Fin 0x100000) (v : Word) (hlink : s.core.linkUp = true) :
    exec (.pcieBar0Write a 1 0xF v) s = .next { s with core := { s.core with posted := s.core.posted ++ [⟨.pcie, a.val, v⟩] } } := by
  simp only [exec_pcieBar0Write, execPcieBar0Write, State.run_eq, hlink, Bool.not_true, Bool.false_eq_true, and_self, if_false, if_true]

theorem exec_pcieBar0Write_other {s : State} (a : Fin 0x100000) {dw : Nat} {be : BitVec 4} (v : Word) (hlink : s.core.linkUp = true)
    (hsize : ¬(dw = 1 ∧ be = 0xF)) :
    exec (.pcieBar0Write a dw be v) s = .next { s with core := s.core.hostErr .pcie a.val 4 } := by
  simp only [exec_pcieBar0Write, execPcieBar0Write, State.run_eq, hlink, hsize, Bool.not_true, Bool.false_eq_true, if_false]

/-- The capture of a BAR0 access: its byte address lies below 2^20, and the port's code is 1. -/
theorem pcie_capture (a : Fin 0x100000) : a.val % 2 ^ 20 + portCode .pcie * 2 ^ 28 + 2 ^ 31 = a.val + 2 ^ 28 + 2 ^ 31 := by
  simp only [portCode]
  omega

theorem exec_pcieBar0Read_answered {s : State} (a : Fin 0x100000) (hlink : s.core.linkUp = true)
    (hposted : ∀ x ∈ s.core.posted, x.port ≠ .pcie) (hreads : s.core.pcieReads = []) :
    exec (.pcieBar0Read a 1 0xF) s = .next { s with core := s.core.put (.readValue .pcie a.val (s.view.portRead a.val)) } := by
  have hnone : s.core.posted.any (fun x => decide (x.port = .pcie)) = false := by simpa using hposted
  simp only [exec_pcieBar0Read, execPcieBar0Read, State.run_eq, hlink, hnone, hreads, Bool.not_true, Bool.false_eq_true, and_self,
    not_true_eq_false, List.isEmpty_nil, Bool.or_self, if_false]

theorem exec_pcieBar0Read_held {s : State} (a : Fin 0x100000) (hlink : s.core.linkUp = true)
    (hposted : ∃ x ∈ s.core.posted, x.port = .pcie) :
    exec (.pcieBar0Read a 1 0xF) s = .next { s with core := { s.core with pcieReads := s.core.pcieReads ++ [a.val] } } := by
  have hsome : s.core.posted.any (fun x => decide (x.port = .pcie)) = true := by simpa using hposted
  simp only [exec_pcieBar0Read, execPcieBar0Read, State.run_eq, hlink, hsome, Bool.not_true, Bool.false_eq_true, and_self,
    not_true_eq_false, Bool.true_or, if_false, if_true]

theorem exec_pcieBar0Read_other {s : State} (a : Fin 0x100000) {dw : Nat} {be : BitVec 4} (hlink : s.core.linkUp = true)
    (hsize : ¬(dw = 1 ∧ be = 0xF)) :
    exec (.pcieBar0Read a dw be) s = .next { s with core := s.core.put .unsupportedRequest } := by
  simp only [exec_pcieBar0Read, execPcieBar0Read, State.run_eq, hlink, hsize, Bool.not_true, Bool.false_eq_true, not_false_eq_true,
    if_false, if_true]

theorem exec_pciePoisonedWrite_bar0 {s : State} (a : Fin 0x100000) (hlink : s.core.linkUp = true) :
    exec (.pciePoisonedWrite true a) s = .next { s with core := (s.core.put .aerReport).hostErr .pcie a.val 6 } := by
  simp only [exec_pciePoisonedWrite, execPciePoisonedWrite, State.run_eq, hlink, Bool.not_true, Bool.false_eq_true, if_false, if_true]

theorem exec_pciePoisonedWrite_elsewhere {s : State} (a : Fin 0x100000) (hlink : s.core.linkUp = true) :
    exec (.pciePoisonedWrite false a) s = .next { s with core := s.core.put .aerReport } := by
  simp only [exec_pciePoisonedWrite, execPciePoisonedWrite, State.run_eq, hlink, Bool.not_true, Bool.false_eq_true, if_false]

/-! ### The PCIe reset (R45) -/

/-- The device after a PCIe reset. -/
def Core.afterPcieReset (c : Core) (kind : PcieResetKind) : Core :=
  { c.setReg R.SHED_WIN_BASE.at (resetValue R.SHED_WIN_BASE.at) with
    unmasked := [], vecPend := [], busMaster := false, bar2Log := 34, again := [], pcieReads := [],
    linkUp := decide (kind ≠ .linkDown) && c.linkUp,
    posted := c.posted.filter (fun x => decide (x.port ≠ .pcie)) }

theorem exec_pcieReset (kind : PcieResetKind) (s : State) :
    exec (.pcieReset kind) s = .next { s with core := s.core.afterPcieReset kind } := by
  cases kind <;> rfl

theorem State.frame_afterPcieReset (s : State) (kind : PcieResetKind) :
    s.Frame { s with core := s.core.afterPcieReset kind } [R.SHED_WIN_BASE.at]
      (fun c d => { c with posted := d.posted, busMaster := d.busMaster, unmasked := d.unmasked, vecPend := d.vecPend,
                           linkUp := d.linkUp, bar2Log := d.bar2Log, again := d.again, pcieReads := d.pcieReads }) :=
  ⟨fun a ha => Core.reg_setReg_other s.core _ _ a (List.ne_of_not_mem_cons ha), fun _ => rfl, rfl, rfl⟩

/-! ### The statement -/

/-- Settles O10: each clause is the equation of its command with the frame of the update that the equation names. -/
theorem hostPortsCarryWords : Obligations.HostPortsCarryWords := by
  unfold Obligations.HostPortsCarryWords
  refine ⟨?hrpPosted, ?hrpParity, ?hrpProtocol, ?hrpUnserved, ?protoUnserved, ?bar0Posted, ?bar0Size, ?readAnswered, ?readHeld,
    ?readSize, ?poisonedBar0, ?poisonedElsewhere, ?reset⟩
  case hrpPosted =>
    intro s a d par hserve hpar
    exact ⟨_, exec_hrpWriteCycle_good a hserve hpar, rfl, State.frame_of_same_regs s _ _ _ rfl rfl rfl⟩
  case hrpParity =>
    intro s a d par hserve hpar
    refine ⟨_, exec_hrpWriteCycle_bad a hserve hpar, Core.bitOf_hostErr _ _ _ _ (by decide), fun hclear => ?_,
      s.frame_hostErr _ _ _⟩
    rw [Core.reg_hostErr_capture _ _ _ _ hclear, hrp_capture]
  case hrpProtocol =>
    intro s a hserve
    exact ⟨_, exec_hrpProto_served a hserve, Core.bitOf_hostErr _ _ _ _ (by decide), s.frame_hostErr _ _ _⟩
  case hrpUnserved => exact fun s a d par hserve => exec_hrpWriteCycle_unserved a d par hserve
  case protoUnserved => exact fun s a hserve => exec_hrpProto_unserved a hserve
  case bar0Posted =>
    intro s a v hlink
    exact ⟨_, exec_pcieBar0Write_word a v hlink, rfl, State.frame_of_same_regs s _ _ _ rfl rfl rfl⟩
  case bar0Size =>
    intro s a dw be v hlink hsize
    refine ⟨_, exec_pcieBar0Write_other a v hlink hsize, Core.bitOf_hostErr _ _ _ _ (by decide), fun hclear => ?_,
      s.frame_hostErr _ _ _⟩
    rw [Core.reg_hostErr_capture _ _ _ _ hclear, pcie_capture]
  case readAnswered =>
    intro s a hlink hposted hreads
    exact ⟨_, exec_pcieBar0Read_answered a hlink hposted hreads, rfl, s.frame_put _ _⟩
  case readHeld =>
    intro s a hlink hposted
    exact ⟨_, exec_pcieBar0Read_held a hlink hposted, rfl, State.frame_of_same_regs s _ _ _ rfl rfl rfl⟩
  case readSize =>
    intro s a dw be hlink hsize
    exact ⟨_, exec_pcieBar0Read_other a hlink hsize, rfl, s.frame_put _ _⟩
  case poisonedBar0 =>
    intro s a hlink
    refine ⟨_, exec_pciePoisonedWrite_bar0 a hlink, by simp [Core.put], Core.bitOf_hostErr _ _ _ _ (by decide), ?_⟩
    exact (s.frame_put .aerReport _).hostErr _ _ _ (List.Subset.refl _) (by simp)
  case poisonedElsewhere =>
    intro s a hlink
    exact ⟨_, exec_pciePoisonedWrite_elsewhere a hlink, rfl, s.frame_put _ _⟩
  case reset =>
    intro s kind
    exact ⟨_, exec_pcieReset kind s, Core.reg_setReg_self _ _ _, rfl, rfl, rfl, rfl, rfl, s.frame_afterPcieReset kind⟩

end Sys2Proof.Machine
end

section
/-! PROOFS. Track edges (R51, R55, R56, R58): what an edge does to a track in each of its states, and the statement that these make up. -/

namespace Sys2Proof.Machine

/-! ### Frames -/

/-- Where the parts that an update takes over leave the Shed out, a frame is its registers and its parts. -/
theorem State.frame_of_only (s : State) (d : Core) (but : List Nat) (part : Core → Core → Core)
    (hregs : s.core.KeepsRegs d but) (honly : s.core.Only d part) (hshed : (part s.core d).shed = s.core.shed) :
    s.Frame { s with core := d } but part := by
  have hkeep : d.shed = s.core.shed := (congrArg Core.shed honly).trans hshed
  exact ⟨hregs, fun a => congrArg (Table.get unlistedByte · a) hkeep, honly, rfl⟩

/-- From `c` to `d` registers and hardware's marks alone may differ. -/
def Core.OnlyRegs (c d : Core) : Prop := ∃ r h, d = { c with regs := r, hwSet := h }

theorem Core.OnlyRegs.refl (c : Core) : c.OnlyRegs c := ⟨c.regs, c.hwSet, rfl⟩

theorem Core.OnlyRegs.setReg {c d : Core} (h : c.OnlyRegs d) (a : Nat) (v : Word) : c.OnlyRegs (d.setReg a v) := by
  obtain ⟨r, w, rfl⟩ := h
  exact ⟨_, _, rfl⟩

theorem Core.OnlyRegs.event {c d : Core} (h : c.OnlyRegs d) (p b : Nat) : c.OnlyRegs (d.event p b) := by
  obtain ⟨r, w, rfl⟩ := h
  exact ⟨_, _, rfl⟩

theorem Core.OnlyRegs.eq {c d : Core} (h : c.OnlyRegs d) : d = { c with regs := d.regs, hwSet := d.hwSet } := by
  obtain ⟨r, w, rfl⟩ := h
  rfl

/-! ### Tracks and timetable marks -/

@[simp] theorem Core.track_setTrack_self (c : Core) (k : Nat) (t : Track) : (c.setTrack k t).track k = t :=
  Table.get_set_self _ _ _ _

theorem Core.track_setTrack_other (c : Core) {k j : Nat} (t : Track) (h : j ≠ k) : (c.setTrack k t).track j = c.track j :=
  Table.get_set_other _ _ _ _ _ h

@[simp] theorem Core.reg_setTrack (c : Core) (k : Nat) (t : Track) (a : Nat) : (c.setTrack k t).reg a = c.reg a := rfl

@[simp] theorem Core.track_setFld (c : Core) (a lo n v k : Nat) : (c.setFld a lo n v).track k = c.track k := rfl
@[simp] theorem Core.track_event (c : Core) (p b k : Nat) : (c.event p b).track k = c.track k := rfl
@[simp] theorem Core.track_tally (c : Core) (i n k : Nat) : (c.tally i n).track k = c.track k := rfl

@[simp] theorem Core.track_markEntries (c : Core) (i : Nat) (f : TTEntry → Option Bool) (k : Nat) :
    (c.markEntries i f).track k = c.track k := rfl

@[simp] theorem Core.reg_markEntries (c : Core) (i : Nat) (f : TTEntry → Option Bool) (a : Nat) :
    (c.markEntries i f).reg a = c.reg a := rfl

/-- A track stored after updates of registers and timetable entries. -/
theorem Core.only_setTrack {c d : Core} (h : ∃ r e, d = { c with regs := r, tt := e }) (k : Nat) (t : Track) :
    c.Only (d.setTrack k t) (fun c d => { c with tracks := d.tracks, tt := d.tt }) := by
  obtain ⟨r, e, rfl⟩ := h
  rfl

theorem trkEpochSet_ne_yardEvent (k : Nat) : R.TRK_EPOCH_SET_HI.at k ≠ R.PG_EVENT.at 1 := by
  simp only [RegRow.at, R.TRK_EPOCH_SET_HI, R.PG_EVENT]
  omega

theorem trkGlitchCnt_ne_yardEvent (k : Nat) : R.TRK_GLITCH_CNT.at k ≠ R.PG_EVENT.at 1 := by
  simp only [RegRow.at, R.TRK_GLITCH_CNT, R.PG_EVENT]
  omega

/-! ### An accepted edge in the track's books (R51) -/

/-- An accepted edge moves the references, the lengths and the edge error alone. -/
theorem Track.take_eq (t : Track) (src x : Nat) :
    t.take src x =
      { t with lastEdge := some x, lossBase := x, lens := (t.take src x).lens, edgeErr := (t.take src x).edgeErr } := by
  unfold Track.take
  split <;> rfl

@[simp] theorem Track.take_lastEdge (t : Track) (src x : Nat) : (t.take src x).lastEdge = some x := by rw [Track.take_eq]
@[simp] theorem Track.take_state (t : Track) (src x : Nat) : (t.take src x).state = t.state := by rw [Track.take_eq]
@[simp] theorem Track.take_qual (t : Track) (src x : Nat) : (t.take src x).qual = t.qual := by rw [Track.take_eq]
@[simp] theorem Track.take_epoch (t : Track) (src x : Nat) : (t.take src x).epoch = t.epoch := by rw [Track.take_eq]
@[simp] theorem Track.take_armed (t : Track) (src x : Nat) : (t.take src x).armed = t.armed := by rw [Track.take_eq]
@[simp] theorem Track.take_start16 (t : Track) (src x : Nat) : (t.take src x).start16 = t.start16 := by rw [Track.take_eq]
@[simp] theorem Track.take_grid (t : Track) (src x : Nat) : (t.take src x).grid = t.grid := by rw [Track.take_eq]

@[simp] theorem Track.take_length16 (t : Track) (src x : Nat) : (t.take src x).length16 = t.length16 := by
  rw [Track.take_eq]
  rfl

/-! ### The first epoch (R56, R61) -/

@[simp] theorem Core.track_lockTrack_self (c : Core) (k : Nat) (t : Track) (x : Nat) :
    (c.lockTrack k t x).track k =
      { t with state := .locked, qual := 0, epoch := t.armed.getD 0, armed := none, start16 := x * 65536,
               len := t.mean16 / 65536, openAt := x, grid := false, clean := true, jump := none,
               slew := 0, slewStep := 0, holdEnd16 := none } := by
  simp only [Core.lockTrack, Core.track_event, Core.track_setTrack_self]

theorem Core.track_lockTrack_other (c : Core) {k j : Nat} (t : Track) (x : Nat) (h : j ≠ k) :
    (c.lockTrack k t x).track j = c.track j := by
  simp only [Core.lockTrack, Core.track_event, Core.track_setTrack_other _ _ h, Core.track_markEntries]
  split <;> rfl

theorem Core.reg_lockTrack_event (c : Core) (k : Nat) (t : Track) (x : Nat) :
    (c.lockTrack k t x).reg (R.PG_EVENT.at 1) = c.reg (R.PG_EVENT.at 1) ||| bit k := by
  simp only [Core.lockTrack, Core.reg_event, Core.reg_setTrack, Core.reg_markEntries, if_true]
  split
  · rw [Core.reg_setFld, if_neg (trkEpochSet_ne_yardEvent k).symm]
  · rfl

theorem Core.keepsRegs_lockTrack (c : Core) (k : Nat) (t : Track) (x : Nat) :
    c.KeepsRegs (c.lockTrack k t x) [R.PG_EVENT.at 1, R.TRK_EPOCH_SET_HI.at k] := by
  intro a ha
  simp only [List.mem_cons, List.not_mem_nil, or_false, not_or] at ha
  obtain ⟨hevent, hset⟩ := ha
  simp only [Core.lockTrack, Core.reg_event, if_neg hevent, Core.reg_setTrack, Core.reg_markEntries]
  split
  · rw [Core.reg_setFld, if_neg hset]
  · rfl

theorem Core.only_lockTrack (c : Core) (k : Nat) (t : Track) (x : Nat) :
    c.Only (c.lockTrack k t x) (fun c d => { c with tracks := d.tracks, tt := d.tt }) := by
  have hmarks : ∃ r e, ((if t.armed.isSome then c.setFld (R.TRK_EPOCH_SET_HI.at k) 31 1 0 else c).markEntries k
      (fun e => if epochPast e.epoch (t.armed.getD 0) then some true else none)) = { c with regs := r, tt := e } := by
    split <;> exact ⟨_, _, rfl⟩
  exact (Core.only_setTrack hmarks k _).of_regs_hwSet rfl rfl

/-! ### The next epoch (R56, R58, R61) -/

@[simp] theorem Core.track_beginEpoch_self (c : Core) (k : Nat) (t : Track) (start16 plan16 : Nat) :
    (c.beginEpoch k t start16 plan16).track k =
      { t with epoch := t.armed.getD ((t.epoch + 1) % 2 ^ 48), armed := none, start16 := start16, plan16 := plan16,
               len := (start16 - t.start16) / 65536, holdEnd16 := none } := by
  simp only [Core.beginEpoch, Core.track_setTrack_self]
  cases t.armed <;> rfl

theorem Core.track_beginEpoch_other (c : Core) {k j : Nat} (t : Track) (start16 plan16 : Nat) (h : j ≠ k) :
    (c.beginEpoch k t start16 plan16).track j = c.track j := by
  simp only [Core.beginEpoch, Core.track_setTrack_other _ _ h]
  cases t.armed <;> dsimp only
  case none => split <;> rfl
  case some number =>
    rw [Core.track_setFld, Core.track_markEntries]
    split <;> rfl

theorem Core.reg_beginEpoch (c : Core) (k : Nat) (t : Track) (start16 plan16 : Nat) {a : Nat} (h : a ≠ R.TRK_EPOCH_SET_HI.at k) :
    (c.beginEpoch k t start16 plan16).reg a = c.reg a := by
  simp only [Core.beginEpoch, Core.reg_setTrack]
  cases t.armed <;> dsimp only
  case none => split <;> rfl
  case some number =>
    rw [Core.reg_setFld, if_neg h, Core.reg_markEntries]
    split <;> rfl

theorem Core.beginEpoch_eq (c : Core) (k : Nat) (t : Track) (start16 plan16 : Nat) :
    ∃ r e l, c.beginEpoch k t start16 plan16 = { c with regs := r, tt := e, tracks := l } := by
  have hfired : ∀ f, ∃ e, (if t.len ≠ 0 ∨ t.hasEpochs = true then c.markEntries k f else c) = { c with tt := e } := by
    intro f
    split <;> exact ⟨_, rfl⟩
  obtain ⟨e, he⟩ := hfired (fun e => if e.epoch = t.epoch % 2 ^ 32 then some false else none)
  simp only [Core.beginEpoch, he]
  cases t.armed <;> exact ⟨_, _, _, rfl⟩

/-! ### Disciplining SYN0 by an epoch (R364) -/

theorem Core.onlyRegs_discUpdate (c : Core) (k : Nat) (clean : Bool) (len : Nat) : c.OnlyRegs (c.discUpdate k clean len) := by
  simp only [Core.discUpdate]
  split
  · refine Core.OnlyRegs.setReg ?_ _ _
    have hy := (Core.OnlyRegs.refl c).setReg R.SYN0_Y.at
    split <;> split
    · exact (((hy _).event 2 7).setReg _ _).event 2 6
    · exact (hy _).event 2 7
    · exact ((hy _).setReg _ _).event 2 6
    · exact hy _
  · exact Core.OnlyRegs.refl c

@[simp] theorem Core.track_discUpdate (c : Core) (k : Nat) (clean : Bool) (len j : Nat) :
    (c.discUpdate k clean len).track j = c.track j := by
  rw [(c.onlyRegs_discUpdate k clean len).eq]
  rfl

theorem Core.keepsRegs_discUpdate (c : Core) (k : Nat) (clean : Bool) (len : Nat) :
    c.KeepsRegs (c.discUpdate k clean len) [R.SYN0_Y.at, R.SYN0_STATUS.at, R.PG_EVENT.at 2] := by
  intro a ha
  simp only [List.mem_cons, List.not_mem_nil, or_false, not_or] at ha
  obtain ⟨hy, hstatus, hevent⟩ := ha
  simp only [Core.discUpdate]
  repeat' split
  all_goals
    simp only [Core.reg_setFld, Core.reg_event, Core.reg_setNat, if_neg hy, if_neg hstatus, if_neg hevent]

/-! ### An edge that turns the epoch of a locked track (R56, R58) -/

/-- The running epoch of track `k` ended and the next one started by the edge `x`, before SYN0 is disciplined. -/
def Core.turnEpoch (c : Core) (k : Nat) (t : Track) (x : Nat) : Core :=
  let d := c.beginEpoch k { t with openAt := x, slew := 0, slewStep := 0 } (x * 65536) 0
  d.setTrack k { d.track k with clean := decide (c.fld R.SYN0_STATUS.at 0 3 = 1) }

/-- Off the grid, an edge in the second half of the epoch turns it. -/
theorem Core.lockedEdge_turns (c : Core) (k : Nat) {t : Track} {x : Nat} (hgrid : t.grid = false)
    (hlen : t.length16 ≤ 2 * (x * 65536 - t.start16)) :
    c.lockedEdge k t x = (c.turnEpoch k t x).discUpdate k t.clean ((x * 65536 - t.start16) / 65536) := by
  have hlate : (t.grid || decide (2 * (x * 65536 - t.start16) < t.length16)) = false := by
    rw [hgrid, Bool.false_or, decide_eq_false (Nat.not_lt.mpr hlen)]
  simp only [Core.lockedEdge, hlate, Bool.false_eq_true, if_false]
  rfl

theorem Core.track_turnEpoch_self (c : Core) (k : Nat) (t : Track) (x : Nat) :
    (c.turnEpoch k t x).track k =
      { t with openAt := x, slew := 0, slewStep := 0, epoch := t.armed.getD ((t.epoch + 1) % 2 ^ 48), armed := none,
               start16 := x * 65536, plan16 := 0, len := (x * 65536 - t.start16) / 65536, holdEnd16 := none,
               clean := decide (c.fld R.SYN0_STATUS.at 0 3 = 1) } := by
  simp only [Core.turnEpoch, Core.track_setTrack_self, Core.track_beginEpoch_self]

theorem Core.track_turnEpoch_other (c : Core) {k j : Nat} (t : Track) (x : Nat) (h : j ≠ k) :
    (c.turnEpoch k t x).track j = c.track j := by
  simp only [Core.turnEpoch, Core.track_setTrack_other _ _ h, Core.track_beginEpoch_other _ _ _ _ h]

theorem Core.reg_turnEpoch (c : Core) (k : Nat) (t : Track) (x : Nat) {a : Nat} (h : a ≠ R.TRK_EPOCH_SET_HI.at k) :
    (c.turnEpoch k t x).reg a = c.reg a := by
  simp only [Core.turnEpoch, Core.reg_setTrack, Core.reg_beginEpoch _ _ _ _ _ h]

theorem Core.only_turnEpoch (c : Core) (k : Nat) (t : Track) (x : Nat) :
    c.Only (c.turnEpoch k t x) (fun c d => { c with tracks := d.tracks, tt := d.tt }) := by
  obtain ⟨r, e, l, hbegin⟩ := c.beginEpoch_eq k { t with openAt := x, slew := 0, slewStep := 0 } (x * 65536) 0
  simp only [Core.Only, Core.turnEpoch, hbegin]
  rfl

theorem State.frame_turnEpoch_discUpdate (s : State) (k : Nat) (t : Track) (x : Nat) (clean : Bool) (len : Nat) :
    s.Frame { s with core := (s.core.turnEpoch k t x).discUpdate k clean len }
      [R.TRK_EPOCH_SET_HI.at k, R.SYN0_Y.at, R.SYN0_STATUS.at, R.PG_EVENT.at 2]
      (fun c d => { c with tracks := d.tracks, tt := d.tt }) := by
  refine s.frame_of_only _ _ _ (fun a ha => ?_) ?_ rfl
  · obtain ⟨hset, hrest⟩ := List.ne_and_not_mem_of_not_mem_cons ha
    rw [Core.keepsRegs_discUpdate _ _ _ _ a hrest, Core.reg_turnEpoch _ _ _ _ hset]
  · have hdisc := (Core.onlyRegs_discUpdate (s.core.turnEpoch k t x) k clean len).eq
    exact (s.core.only_turnEpoch k t x).of_regs_hwSet hdisc (by rw [hdisc])

/-! ### Discarded edges (R51, R55) -/

/-- An edge of track `k` is discarded as a glitch. -/
def Core.glitch (c : Core) (k : Nat) : Core := (c.bump (R.TRK_GLITCH_CNT.at k)).event 1 (12 + k)

@[simp] theorem Core.track_glitch (c : Core) (k j : Nat) : (c.glitch k).track j = c.track j := rfl

theorem Core.onlyRegs_glitch (c : Core) (k : Nat) : c.OnlyRegs (c.glitch k) :=
  ((Core.OnlyRegs.refl c).setReg _ _).event 1 (12 + k)

theorem Core.reg_glitch_count (c : Core) (k : Nat) :
    (c.glitch k).reg (R.TRK_GLITCH_CNT.at k) = BitVec.ofNat 32 (satAdd 32 (c.reg (R.TRK_GLITCH_CNT.at k)).toNat 1) := by
  simp only [Core.glitch, Core.reg_event, Core.reg_bump, if_neg (trkGlitchCnt_ne_yardEvent k), if_true]

theorem Core.reg_glitch_event (c : Core) (k : Nat) :
    (c.glitch k).reg (R.PG_EVENT.at 1) = c.reg (R.PG_EVENT.at 1) ||| bit (12 + k) := by
  simp only [Core.glitch, Core.reg_event, Core.reg_bump, if_neg (trkGlitchCnt_ne_yardEvent k).symm, if_true]

theorem Core.keepsRegs_glitch (c : Core) (k : Nat) : c.KeepsRegs (c.glitch k) [R.TRK_GLITCH_CNT.at k, R.PG_EVENT.at 1] := by
  intro a ha
  simp only [List.mem_cons, List.not_mem_nil, or_false, not_or] at ha
  obtain ⟨hcount, hevent⟩ := ha
  simp only [Core.glitch, Core.reg_event, Core.reg_bump, if_neg hcount, if_neg hevent]

/-! ### Loss of a requalifying track (R59, R60) -/

/-- The device after track `k` went back to coasting as `t`, with timetable entries marked by `f`. -/
def Core.coastAgain (c : Core) (k : Nat) (t : Track) (f : TTEntry → Option Bool) : Core :=
  (((c.setTrack k t).markEntries k f).event 1 (4 + k)).tally 15

/-- Before its next boundary a requalifying track on the grid goes on coasting in the same epoch. -/
theorem Core.loseTrack_requal_in_epoch {c : Core} {k : Nat} (hstate : (c.track k).state = .requal) (hgrid : (c.track k).grid = true)
    (hmean : (c.track k).mean16 ≠ 0) (htime : c.time * 65536 < (c.track k).start16 + (c.track k).mean16) :
    ∃ t f, c.loseTrack k = c.coastAgain k t f ∧
      t.state = .coast ∧ t.epoch = (c.track k).epoch ∧ t.start16 = (c.track k).start16 := by
  have hbehind : (c.time * 65536 - (c.track k).start16) / (c.track k).mean16 = 0 := Nat.div_eq_of_lt (by omega)
  have hnotLocked : TrkState.requal ≠ TrkState.locked := by decide
  simp only [Core.loseTrack, hstate, hgrid, hmean, hbehind, hnotLocked, true_or, ne_eq, not_true_eq_false, false_and, if_true,
    if_false, Nat.zero_mul, Nat.add_zero]
  exact ⟨_, _, rfl, rfl, rfl, rfl⟩

theorem Core.track_coastAgain_self (c : Core) (k : Nat) (t : Track) (f : TTEntry → Option Bool) :
    (c.coastAgain k t f).track k = t := by
  simp only [Core.coastAgain, Core.track_tally, Core.track_event, Core.track_markEntries, Core.track_setTrack_self]

theorem Core.track_coastAgain_other (c : Core) {k j : Nat} (t : Track) (f : TTEntry → Option Bool) (h : j ≠ k) :
    (c.coastAgain k t f).track j = c.track j := by
  simp only [Core.coastAgain, Core.track_tally, Core.track_event, Core.track_markEntries, Core.track_setTrack_other _ _ h]

theorem Core.reg_coastAgain (c : Core) (k : Nat) (t : Track) (f : TTEntry → Option Bool) (a : Nat) :
    (c.coastAgain k t f).reg a = if a = R.PG_EVENT.at 1 then c.reg (R.PG_EVENT.at 1) ||| bit (4 + k) else c.reg a := by
  simp only [Core.coastAgain, Core.reg_tally, Core.reg_event, Core.reg_markEntries, Core.reg_setTrack]

theorem Core.coastAgain_eq (c : Core) (k : Nat) (t : Track) (f : TTEntry → Option Bool) :
    ∃ r h l e n, c.coastAgain k t f = { c with regs := r, hwSet := h, tracks := l, tt := e, counts := n } := by
  obtain ⟨r, h, hevent⟩ := (Core.OnlyRegs.refl ((c.setTrack k t).markEntries k f)).event 1 (4 + k)
  rw [Core.coastAgain, hevent]
  exact ⟨r, h, _, _, _, rfl⟩

/-- A glitch after which the track goes on coasting touches what the glitch and the loss touch. -/
theorem Core.only_coastAgain_glitch (c : Core) (k : Nat) (t : Track) (f : TTEntry → Option Bool) :
    c.Only ((c.glitch k).coastAgain k t f) (fun c d => { c with tracks := d.tracks, tt := d.tt, counts := d.counts }) := by
  obtain ⟨_, _, hglitch⟩ := c.onlyRegs_glitch k
  obtain ⟨_, _, _, _, _, hcoast⟩ := (c.glitch k).coastAgain_eq k t f
  rw [Core.Only, hcoast, hglitch]

/-! ### What an edge does in each state of its track -/

/-- The edge `x` of track `k` lies in the acceptance window that opened with the accepted edge `e` (R51). -/
def Core.takesEdge (c : Core) (k e x : Nat) : Bool :=
  (c.track k).windowTakes (c.trkSrc k) (x - e) (decide (c.fld R.ETH_STATUS.at 1 1 = 1))

section
variable {c : Core} {k e x : Nat}

theorem Core.edge_acquire_counts (hstate : (c.track k).state = .acquire) (hlast : (c.track k).lastEdge = some e)
    (hwindow : c.takesEdge k e x = true) (hqual : (c.track k).qual + 1 < c.trkQualify k) :
    c.edge k x = c.setTrack k { (c.track k).take (c.trkSrc k) x with qual := (c.track k).qual + 1 } := by
  unfold Core.takesEdge at hwindow
  simp only [Core.edge, hstate, hlast, hwindow, Track.take_qual, if_pos hqual, if_true]

theorem Core.edge_acquire_locks (hstate : (c.track k).state = .acquire) (hlast : (c.track k).lastEdge = some e)
    (hwindow : c.takesEdge k e x = true) (hqual : c.trkQualify k ≤ (c.track k).qual + 1) :
    c.edge k x = c.lockTrack k ((c.track k).take (c.trkSrc k) x) x := by
  unfold Core.takesEdge at hwindow
  simp only [Core.edge, hstate, hlast, hwindow, Track.take_qual, if_neg (Nat.not_lt.mpr hqual), if_true]

theorem Core.edge_locked_accepted (hstate : (c.track k).state = .locked) (hsrc : c.trkSrc k ≠ 6)
    (hlast : (c.track k).lastEdge = some e) (hwindow : c.takesEdge k e x = true) :
    c.edge k x = c.lockedEdge k ((c.track k).take (c.trkSrc k) x) x := by
  unfold Core.takesEdge at hwindow
  simp only [Core.edge, hstate, hlast, hwindow, if_neg hsrc, if_true]

theorem Core.edge_locked_discarded (hstate : (c.track k).state = .locked) (hsrc : c.trkSrc k ≠ 6)
    (hlast : (c.track k).lastEdge = some e) (hwindow : c.takesEdge k e x = false) : c.edge k x = c.glitch k := by
  unfold Core.takesEdge at hwindow
  simp only [Core.edge, hstate, hlast, hwindow, if_neg hsrc, Bool.false_eq_true, if_false, Core.glitch]

theorem Core.edge_acquire_discarded (hstate : (c.track k).state = .acquire) (hlast : (c.track k).lastEdge = some e)
    (hwindow : c.takesEdge k e x = false) :
    c.edge k x = (c.glitch k).setTrack k { c.track k with lastEdge := some x, lossBase := x, qual := 1, lens := [] } := by
  unfold Core.takesEdge at hwindow
  simp only [Core.edge, hstate, hlast, hwindow, Bool.false_eq_true, if_false, Core.glitch]

theorem Core.edge_requal_discarded (hstate : (c.track k).state = .requal) (hlast : (c.track k).lastEdge = some e)
    (hwindow : c.takesEdge k e x = false) : c.edge k x = (c.glitch k).loseTrack k := by
  unfold Core.takesEdge at hwindow
  simp only [Core.edge, hstate, hlast, hwindow, Bool.false_eq_true, if_false, Core.glitch]

end

theorem exec_trackEdge_delivered {s : State} {k : Fin 4} {x : Nat} {d : Core} (hsource : s.core.sourceDelivers k = true)
    (hedge : s.core.edge k x = d) : exec (.trackEdge k x) s = .next { s with core := d } := by
  change execTrackEdge k x s = _
  simp only [execTrackEdge, State.run_eq, hsource, if_true, hedge]

theorem exec_trackEdge_undelivered {s : State} {k : Fin 4} (x : Nat) (hsource : s.core.sourceDelivers k = false) :
    exec (.trackEdge k x) s = .next s := by
  change execTrackEdge k x s = _
  simp only [execTrackEdge, State.run_eq, hsource, Bool.false_eq_true, if_false]

/-! ### The statement -/

/-- Settles O11: each clause is the equation of the edge in its track's state with the frame of the update that the equation names. -/
theorem trackEdgesLockAndTurnEpochs : Obligations.TrackEdgesLockAndTurnEpochs := by
  unfold Obligations.TrackEdgesLockAndTurnEpochs
  refine ⟨?counts, ?locks, ?turns, ?glitchLocked, ?glitchAcquire, ?glitchRequal, ?undelivered⟩
  case counts =>
    intro s k x e hsource hstate hlast hwindow hqual
    refine ⟨_, exec_trackEdge_delivered hsource (Core.edge_acquire_counts hstate hlast hwindow hqual), ?_, ?_, ?_, fun j hj => ?_,
      State.frame_of_same_regs s _ _ _ rfl rfl rfl⟩
    · simp only [Core.track_setTrack_self, Track.take_state, hstate]
    · simp only [Core.track_setTrack_self]
    · simp only [Core.track_setTrack_self, Track.take_lastEdge]
    · exact Core.track_setTrack_other _ _ (Fin.val_ne_of_ne hj)
  case locks =>
    intro s k x e hsource hstate hlast hwindow hqual
    refine ⟨_, exec_trackEdge_delivered hsource (Core.edge_acquire_locks hstate hlast hwindow hqual), ?_, ?_, ?_, ?_,
      Core.reg_lockTrack_event _ _ _ _, fun j hj => Core.track_lockTrack_other _ _ _ (Fin.val_ne_of_ne hj),
      s.frame_of_only _ _ _ (Core.keepsRegs_lockTrack _ _ _ _) (Core.only_lockTrack _ _ _ _) rfl⟩
    all_goals simp only [Core.track_lockTrack_self, Track.take_armed]
  case turns =>
    intro s k x e hsource hstate hsrc hlast hwindow hgrid hslew hlen hepoch
    have hlength : (s.core.track k).length16 = (s.core.track k).len * 65536 := by simp [Track.length16, hgrid, hslew]
    have hnext : ((s.core.track k).epoch + 1) % 2 ^ 48 = (s.core.track k).epoch + 1 := Nat.mod_eq_of_lt (by omega)
    have hedge := Core.edge_locked_accepted hstate hsrc hlast hwindow
    rw [Core.lockedEdge_turns _ _ (by rw [Track.take_grid, hgrid]) (by rwa [Track.take_length16, Track.take_start16, hlength])]
      at hedge
    refine ⟨_, exec_trackEdge_delivered hsource hedge, ?_, ?_, ?_, ?_, fun j hj => ?_, s.frame_turnEpoch_discUpdate _ _ _ _ _⟩
    · simp only [Core.track_discUpdate, Core.track_turnEpoch_self, Track.take_state, hstate]
    · simp only [Core.track_discUpdate, Core.track_turnEpoch_self, Track.take_armed, Track.take_epoch, hnext]
    · simp only [Core.track_discUpdate, Core.track_turnEpoch_self]
    · simp only [Core.track_discUpdate, Core.track_turnEpoch_self, Track.take_start16]
    · rw [Core.track_discUpdate, Core.track_turnEpoch_other _ _ _ (Fin.val_ne_of_ne hj)]
  case glitchLocked =>
    intro s k x e hsource hstate hsrc hlast hwindow
    exact ⟨_, exec_trackEdge_delivered hsource (Core.edge_locked_discarded hstate hsrc hlast hwindow), Core.reg_glitch_count _ _,
      Core.reg_glitch_event _ _, s.frame_of_only _ _ _ (Core.keepsRegs_glitch _ _) rfl rfl⟩
  case glitchAcquire =>
    intro s k x e hsource hstate hlast hwindow
    refine ⟨_, exec_trackEdge_delivered hsource (Core.edge_acquire_discarded hstate hlast hwindow), ?_, Core.reg_glitch_count _ _,
      Core.reg_glitch_event _ _, ?_, ?_, ?_, fun j hj => Core.track_setTrack_other _ _ (Fin.val_ne_of_ne hj),
      s.frame_of_only _ _ _ (Core.keepsRegs_glitch _ _) rfl rfl⟩
    all_goals simp only [Core.track_setTrack_self, hstate]
  case glitchRequal =>
    intro s k x e hsource hstate hlast hwindow hgrid hmean htime
    obtain ⟨t, f, hlose, hcoast, hepoch, hstart⟩ := Core.loseTrack_requal_in_epoch (c := s.core.glitch k) hstate hgrid hmean htime
    refine ⟨_, exec_trackEdge_delivered hsource ((Core.edge_requal_discarded hstate hlast hwindow).trans hlose), ?_, ?_, ?_, ?_, ?_, ?_,
      fun j hj => Core.track_coastAgain_other _ _ _ (Fin.val_ne_of_ne hj), s.frame_of_only _ _ _ (fun a ha => ?_)
        (Core.only_coastAgain_glitch _ _ _ _) rfl⟩
    · rw [Core.track_coastAgain_self, hcoast]
    · rw [Core.reg_coastAgain, if_neg (trkGlitchCnt_ne_yardEvent k), Core.reg_glitch_count]
    · simp only [Core.reg_coastAgain, if_true, Core.reg_glitch_event, bitOf_or_bit _ (4 + k) _ (by omega),
        bitOf_or_bit _ (12 + k) _ (by omega), decide_true, Bool.or_true, Bool.true_or]
    · simp only [Core.reg_coastAgain, if_true, bitOf_or_bit _ (4 + k) _ (by omega), decide_true, Bool.or_true]
    · rw [Core.track_coastAgain_self, hepoch, Core.track_glitch]
    · rw [Core.track_coastAgain_self, hstart, Core.track_glitch]
    · rw [Core.reg_coastAgain, if_neg (fun h => ha (by simp [h]))]
      exact Core.keepsRegs_glitch _ _ a ha
  case undelivered => exact fun s k x hsource => exec_trackEdge_undelivered x hsource

end Sys2Proof.Machine
end

section
/-! PROOFS. AGC mode changes (R92): a write of RF_CTRL that leaves POWER as it is, the landing of a committed gain step, and the statement
that these make up. -/

namespace Sys2Proof.Machine

/-! ### The hidden state of an input -/

@[simp] theorem Core.rf_setRf_self (c : Core) (i : Nat) (x : RfRec) : (c.setRf i x).rf i = x :=
  Table.get_set_self _ _ _ _

@[simp] theorem Core.reg_setRf (c : Core) (i : Nat) (x : RfRec) (a : Nat) : (c.setRf i x).reg a = c.reg a := rfl

@[simp] theorem Core.setRf_setRf (c : Core) (i : Nat) (x y : RfRec) : (c.setRf i x).setRf i y = c.setRf i y := by
  simp only [Core.setRf, Table.set_set]

@[simp] theorem Core.rf_setReg (c : Core) (a : Nat) (v : Word) (i : Nat) : (c.setReg a v).rf i = c.rf i := rfl

/-- Later updates of registers leave the input's hidden state as it was stored. -/
theorem Core.OnlyRegs.rf {c d : Core} {i : Nat} {x : RfRec} (h : (c.setRf i x).OnlyRegs d) : d.rf i = x := by
  obtain ⟨_, _, rfl⟩ := h
  exact Core.rf_setRf_self c i x

theorem Core.OnlyRegs.only_rfs {c d : Core} {i : Nat} {x : RfRec} (h : (c.setRf i x).OnlyRegs d) :
    c.Only d (fun c d => { c with rfs := d.rfs }) := by
  obtain ⟨_, _, rfl⟩ := h
  rfl

/-! ### Cancelled steps (R89) -/

/-- Steps that no STEP_ADD awaits are dropped without a completion. -/
theorem Core.foldl_stepDropped_of_no_seq (c : Core) (i : Nat) (l : List RfStep) (hseq : ∀ x ∈ l, x.seq = none) :
    l.foldl (fun d x => d.stepDropped i x) c = c := by
  induction l with
  | nil => rfl
  | cons x l ih =>
    obtain ⟨hx, hl⟩ := List.forall_mem_cons.mp hseq
    have hdrop : c.stepDropped i x = c := by simp only [Core.stepDropped, hx]
    rw [List.foldl_cons, hdrop, ih hl]

/-- Where no STEP_ADD awaits a step, cancelling takes the uncommitted ones that `f` names off the list and does nothing else. -/
theorem Core.cancelSteps_of_no_seq (c : Core) (i : Nat) (f : RfStep → Bool) (hseq : ∀ x ∈ (c.rf i).steps, x.seq = none) :
    (c.cancelSteps i f).1 =
      c.setRf i { c.rf i with steps := (c.rf i).steps.filter (fun x => !f x || c.stepCommitted x) } := by
  simp only [Core.cancelSteps]
  rw [Core.foldl_stepDropped_of_no_seq _ _ _ (fun x hx => hseq x (List.mem_filter.mp hx).1)]
  simp only [Bool.not_and, Bool.not_not]

/-! ### A write of RF_CTRL (R83, R92) -/

/-- The device with `v` taken into RF_CTRL of input `i`. -/
def Core.storeRfCtrl (c : Core) (i : Nat) (v : Word) : Core :=
  c.setReg (R.RF_CTRL.at i) (R.RF_CTRL.merge 0 (c.reg (R.RF_CTRL.at i)) v)

/-- Every field of RF_CTRL is RW: AGC_MODE takes the bit written. -/
theorem Core.agcMode_storeRfCtrl (c : Core) (i : Nat) (v : Word) :
    bitOf ((c.storeRfCtrl i v).reg (R.RF_CTRL.at i)) 2 = bitOf v 2 := by
  rw [Core.storeRfCtrl, Core.reg_setReg_self]
  simp [RegRow.merge, R.RF_CTRL, bitOf]

/-- A write that leaves POWER as it is meets no refusal of R83. -/
theorem Core.powerRefused_unchanged {c : Core} {i : Nat} (hvalid : c.power i ≠ 3) : c.powerRefused i (c.power i) = false := by
  simp [Core.powerRefused, hvalid]

section
variable {c : Core} {i : Nat} {v : Word}

theorem rfCtrlWrite_toAuto (hpower : fieldOf v 0 2 = c.power i) (hvalid : c.power i ≠ 3) (hauto : bitOf v 2 = true)
    (hwas : bitOf (c.reg (R.RF_CTRL.at i)) 2 = false) (hsteps : ∀ x ∈ (c.rf i).steps, x.agc = true) :
    rfCtrlWrite i c v = ((c.storeRfCtrl i v).setRf i { c.rf i with quiet := 0 }, true) := by
  have hnoHost : (c.rf i).steps.any (fun x => !x.agc) = false := by simpa using hsteps
  simp [rfCtrlWrite, Core.storeRfCtrl, Core.powerRefused_unchanged hvalid, hpower, hauto, hwas, hnoHost]

theorem rfCtrlWrite_hostPending (hauto : bitOf v 2 = true) (hwas : bitOf (c.reg (R.RF_CTRL.at i)) 2 = false)
    (hstep : ∃ x ∈ (c.rf i).steps, x.agc = false) : rfCtrlWrite i c v = (c.event (3 + i) 31, false) := by
  have hhost : (c.rf i).steps.any (fun x => !x.agc) = true := by simpa using hstep
  simp only [rfCtrlWrite, hauto, hwas, hhost, Bool.not_false, Bool.and_self, Bool.or_true, if_true, Core.refusePage]

theorem rfCtrlWrite_toManual (hpower : fieldOf v 0 2 = c.power i) (hvalid : c.power i ≠ 3) (hauto : bitOf v 2 = false)
    (hwas : bitOf (c.reg (R.RF_CTRL.at i)) 2 = true) (hseq : ∀ x ∈ (c.rf i).steps, x.seq = none) :
    rfCtrlWrite i c v =
      ((c.storeRfCtrl i v).setRf i
        { c.rf i with steps := (c.rf i).steps.filter (fun x => !x.agc || c.stepCommitted x), want := none, quiet := 0 }, true) := by
  have hcancel := (c.storeRfCtrl i v).cancelSteps_of_no_seq i (·.agc) hseq
  rw [Core.storeRfCtrl] at hcancel ⊢
  simp only [rfCtrlWrite, Core.powerRefused_unchanged hvalid, hpower, hauto, hwas, hcancel, ne_eq, not_true_eq_false,
    Bool.not_true, Bool.not_false, Bool.and_true, Bool.and_false, Bool.false_and, Bool.or_self, Bool.false_eq_true, if_false, if_true,
    Core.rf_setRf_self, Core.setRf_setRf, Core.rf_setReg]
  rfl

end

/-- The device with the write of RF_CTRL of input `i` noted among those of the tick (R47). -/
def Core.noteRfCtrl (c : Core) (port : Port) (i : Nat) : Core :=
  { c with applied := c.applied ++ [⟨port, R.RF_CTRL.at i, BitVec.ofNat 32 (R.RF_CTRL.rw ||| R.RF_CTRL.rwl)⟩] }

/-- A write that meets nothing in its way is what RF_CTRL makes of it. -/
theorem exec_agcModeWrite_free {s : State} {port : Port} {i : Fin 3} {v : Word} {d : Core × Bool}
    (hfree : s.core.Free port (R.RF_CTRL.at i)) (hwrite : rfCtrlWrite i (s.core.noteRfCtrl port i) v = d) :
    exec (.agcModeWrite port i v) s = .next { s with core := d.1 } := by
  obtain ⟨hboot, hreset, htaken⟩ := hfree
  change execAgcModeWrite port i v s = _
  rw [execAgcModeWrite, State.write_open s port R.RF_CTRL _ v _ _ hboot hreset htaken rfl, ← hwrite]
  rfl

/-- RF_CTRL and the input's hidden state are all that an accepted write changes beside the note of it. -/
theorem State.frame_rfCtrl (s : State) (port : Port) (i : Nat) (v : Word) (x : RfRec) :
    s.Frame { s with core := ((s.core.noteRfCtrl port i).storeRfCtrl i v).setRf i x } [R.RF_CTRL.at i]
      (fun c d => { c with rfs := d.rfs }) :=
  s.frame_of_only _ _ _ (fun a ha => Core.reg_setReg_other _ _ _ a (List.ne_of_not_mem_cons ha)) rfl rfl

/-- A refused write sets an event beside the note of it. -/
theorem State.frame_rfCtrl_refused (s : State) (port : Port) (i p b : Nat) :
    s.Frame { s with core := (s.core.noteRfCtrl port i).event p b } [R.PG_EVENT.at p] :=
  s.frame_of_only _ _ _ (fun a ha => (Core.reg_event _ p b a).trans (if_neg (List.ne_of_not_mem_cons ha))) rfl rfl

/-! ### The landing of a committed step (R86, R88, R91) -/

/-- What a landing leaves in the registers that report it: the step `x` from the SETTING `old`. -/
def Core.reportLanding (c : Core) (i old : Nat) (x : RfStep) : Core :=
  let d := (((c.stampTick (R.STEP_LAST_TICK.at i)).setNat (R.STEP_LAST.at i)
    (old + 2 ^ 8 * x.setting + 2 ^ 16 * b2n x.late + 2 ^ 17 * b2n x.agc)).bump (R.STEP_CNT.at i)).event (3 + i) 1
  if x.late then d.event (3 + i) 2 else d

/-- The hidden state of an input whose step `x` has landed at tick `now`. -/
def RfRec.land (r : RfRec) (x : RfStep) (now : Nat) : RfRec :=
  { r with steps := r.steps.erase x, landed := now, want := none, quiet := if x.agc then 0 else r.quiet }

/-- The device after the step `x` of input `i` has landed. -/
def Core.landStep (c : Core) (i : Nat) (x : RfStep) : Core :=
  ((c.setRf i ((c.rf i).land x c.now)).setFld (R.RF_SETTING.at i) 8 5 x.setting).reportLanding i (c.setting i) x

theorem Core.OnlyRegs.reportLanding {c d : Core} (h : c.OnlyRegs d) (i old : Nat) (x : RfStep) :
    c.OnlyRegs (d.reportLanding i old x) := by
  simp only [Core.reportLanding]
  split
  · exact ((((h.setReg _ _).setReg _ _).setReg _ _).event (3 + i) 1).event (3 + i) 2
  · exact (((h.setReg _ _).setReg _ _).setReg _ _).event (3 + i) 1

theorem Core.keepsRegs_reportLanding (c : Core) (i old : Nat) (x : RfStep) :
    c.KeepsRegs (c.reportLanding i old x) [R.STEP_LAST_TICK.at i, R.STEP_LAST.at i, R.STEP_CNT.at i, R.PG_EVENT.at (3 + i)] := by
  intro a ha
  simp only [List.mem_cons, List.not_mem_nil, or_false, not_or] at ha
  obtain ⟨htick, hlast, hcount, hevent⟩ := ha
  simp only [Core.reportLanding]
  split <;>
    simp only [Core.reg_event, Core.reg_bump, Core.reg_setNat, Core.reg_stampTick, if_neg htick, if_neg hlast, if_neg hcount, if_neg hevent]

/-- A landing touches the input's hidden state and registers. -/
theorem Core.onlyRegs_landStep (c : Core) (i : Nat) (x : RfStep) :
    (c.setRf i ((c.rf i).land x c.now)).OnlyRegs (c.landStep i x) :=
  ((Core.OnlyRegs.refl _).setReg _ _).reportLanding i _ x

theorem Core.rf_landStep (c : Core) (i : Nat) (x : RfStep) : (c.landStep i x).rf i = (c.rf i).land x c.now :=
  (c.onlyRegs_landStep i x).rf

theorem rfSetting_not_reported (i : Nat) :
    R.RF_SETTING.at i ∉ [R.STEP_LAST_TICK.at i, R.STEP_LAST.at i, R.STEP_CNT.at i, R.PG_EVENT.at (3 + i)] := by
  simp only [List.mem_cons, List.not_mem_nil, or_false, RegRow.at, R.RF_SETTING, R.STEP_LAST_TICK, R.STEP_LAST, R.STEP_CNT, R.PG_EVENT]
  omega

theorem Core.setting_landStep (c : Core) (i : Nat) (x : RfStep) : (c.landStep i x).setting i = x.setting % 32 := by
  simp only [Core.setting, Core.fld, Core.landStep, Core.keepsRegs_reportLanding _ _ _ _ _ (rfSetting_not_reported i),
    Core.reg_setFld, if_true]
  exact fieldOf_putField_self _ 8 5 _ (by decide)

theorem State.frame_landStep (s : State) (i : Nat) (x : RfStep) :
    s.Frame { s with core := s.core.landStep i x }
      [R.RF_SETTING.at i, R.STEP_LAST_TICK.at i, R.STEP_LAST.at i, R.STEP_CNT.at i, R.PG_EVENT.at (3 + i)]
      (fun c d => { c with rfs := d.rfs }) := by
  refine s.frame_of_only _ _ _ (fun a ha => ?_) (s.core.onlyRegs_landStep i x).only_rfs rfl
  obtain ⟨hsetting, hreported⟩ := List.ne_and_not_mem_of_not_mem_cons ha
  rw [Core.landStep, Core.keepsRegs_reportLanding _ _ _ _ a hreported, Core.reg_setFld, if_neg hsetting, Core.reg_setRf]

/-- A committed step in front whose due tick has come lands; where no AGC decision and no STEP_ADD waits for it, nothing follows. -/
theorem exec_gainStepLand_lands {s : State} {i : Fin 3} {x : RfStep} {l : List RfStep} {d : Nat} (hruns : s.runs (3 + i) = true)
    (hflow : s.core.samplesFlow = true) (hsteps : (s.core.rf i).steps = x :: l) (hcommitted : x.committed = true)
    (hdue : x.due = some d) (hcome : d ≤ s.core.now) (hseq : x.seq = none) (hwant : (s.core.rf i).want = none) :
    exec (.gainStepLand i) s = .next { s with core := s.core.landStep i x } := by
  change execGainStepLand i s = _
  rw [execGainStepLand, State.act_on _ _ _ hruns]
  simp only [hflow, hsteps, List.find?_cons, hcommitted, Core.stepDue, hdue, hcome, hseq, hwant, Bool.not_true, Bool.false_eq_true,
    if_false, decide_true, Bool.and_self, Core.landStep, RfRec.land, Core.reportLanding]

/-! ### The statement -/

/-- Settles O17: the writes by what RF_CTRL makes of each, the landing by the equation of the step in front. -/
theorem agcModeChanges : Obligations.AgcModeChanges := by
  unfold Obligations.AgcModeChanges
  refine ⟨?toAuto, ?hostPending, ?toManual, ?lands⟩
  case toAuto =>
    intro s port i v hfree hpower hvalid hauto hwas hsteps
    refine ⟨_, exec_agcModeWrite_free hfree (rfCtrlWrite_toAuto hpower hvalid hauto hwas hsteps), ?_,
      congrArg RfRec.quiet (Core.rf_setRf_self _ _ _), ?_, s.frame_rfCtrl port i v _⟩
    · rw [Core.reg_setRf, Core.agcMode_storeRfCtrl, hauto]
    · rw [Core.rf_setRf_self]
      rfl
  case hostPending =>
    intro s port i v hfree hauto hwas hstep
    exact ⟨_, exec_agcModeWrite_free hfree (rfCtrlWrite_hostPending hauto hwas hstep), (Core.reg_event _ _ _ _).trans (if_pos rfl),
      s.frame_rfCtrl_refused port i _ _⟩
  case toManual =>
    intro s port i v hfree hpower hvalid hauto hwas hseq
    refine ⟨_, exec_agcModeWrite_free hfree (rfCtrlWrite_toManual hpower hvalid hauto hwas hseq), ?_,
      congrArg RfRec.want (Core.rf_setRf_self _ _ _), ?_, s.frame_rfCtrl port i v _⟩
    · rw [Core.reg_setRf, Core.agcMode_storeRfCtrl, hauto]
    · rw [Core.rf_setRf_self]
      rfl
  case lands =>
    intro s i x d hruns hflow _ hsteps _ hcommitted hdue hcome hseq hsetting hwant
    refine ⟨_, exec_gainStepLand_lands hruns hflow hsteps hcommitted hdue hcome hseq hwant, ?_, ?_, s.frame_landStep i x⟩
    · rw [Core.setting_landStep, Nat.mod_eq_of_lt hsetting]
    · simp [Core.rf_landStep, RfRec.land, hsteps]

end Sys2Proof.Machine
end
